-- ==== Sys2Proof/Word.lean ====
section
/-! DEFINITION. Words, object numbers, text fields and indexed tables.
Object numbers follow 00_scope.md section 4 ("Numbered objects"), field widths 11_message_formats.md section 11.3. -/

namespace Sys2Proof

/-- One byte of a link. -/
abbrev Byte := BitVec 8
/-- A two-byte field. -/
abbrev U16 := BitVec 16
/-- A four-byte field. -/
abbrev U32 := BitVec 32
/-- A reading of the 32-bit microsecond time base (R91). -/
abbrev Time := BitVec 32

abbrev Dest := Fin 256
abbrev Src := Fin 512
abbrev Dom := Fin 4
abbrev Slot := Fin 128
/-- Panels 0-63; 0 is the direct origin. -/
abbrev Panel := Fin 64
abbrev Level := Fin 4
abbrev Zone := Fin 8
abbrev Salvo := Fin 32
abbrev Wall := Fin 8
abbrev Tile := Fin 64
abbrev Port := Fin 16
abbrev Cmp := Fin 8
abbrev Gpi := Fin 8

/-- Characters of a label or name, as sent. -/
abbrev Text := List Byte
/-- A text field of a request: `none` is the absent marker, a count byte of 255 (R182). -/
abbrev TextField := Option Text
/-- An optional field of a request: `none` is a presence byte of 0, else the presence byte and the value (R182). -/
abbrev OptField (α : Type) := Option (Byte × α)

/-- Recorder state (11.4); UNKNOWN is never carried by a STATUS (R183). -/
inductive RecorderState
  | unknown | idle | cued | recording | stopping | fault
  deriving DecidableEq, Repr

/-- Recorder command (11.4). -/
inductive RecorderCommand
  | cue | record | stop | mark
  deriving DecidableEq, Repr

/-- A wall link or a recorder port: the links that share the frame shape of 11.7. -/
inductive PartnerLink
  | wall (w : Wall)
  | recorder (p : Port)
  deriving DecidableEq, Repr

/-- A request frame as received and as the request queue holds it (R173): kind, tag and body. -/
structure ReqFrame where
  kind : Byte
  tag : Byte
  body : List Byte
  deriving DecidableEq, Repr

/-- Entry `i` of a table. -/
def look {α : Type} {n : Nat} (v : Vector α n) (i : Fin n) : α := v[i.val]

/-- The table with entry `i` replaced. -/
def put {α : Type} {n : Nat} (v : Vector α n) (i : Fin n) (x : α) : Vector α n := v.set i.val x

/-- Every entry of a table with its number, in ascending order. -/
def entries {α : Type} {n : Nat} (v : Vector α n) : List (Fin n × α) :=
  (List.finRange n).zip v.toList

/-- The table with every entry replaced by `f` of its number and itself. -/
def mapTable {α : Type} {n : Nat} (f : Fin n → α → α) (v : Vector α n) : Vector α n :=
  ⟨((entries v).map (fun e => f e.1 e.2)).toArray, by simp [entries]⟩

/-- The time base less an earlier reading, modulo 2^32 (R91). -/
def since (now start : Time) : Nat := (now - start).toNat

end Sys2Proof
end

