-- ==== Sys2Proof/Config.lean ====
section
/-! DEFINITION. What an implementation fixes, and the free values.
The two constants without a body are free values: no proof can see them. -/

namespace Sys2Proof.Config

/-- The revision byte of the identity record (R179): the spec gives no number. Free value (log 14). -/
opaque revision : Byte

/-- The choices the spec leaves open, one fresh number for each (log 2, log 9). Free value. -/
opaque freeChoice : Nat → Nat

/-- Frame period in µs of a standard (00_scope.md section 4.2). -/
def framePeriod (code : Fin 8) : Nat :=
  match code.val with
  | 0 => 41708
  | 1 => 41667
  | 2 => 40000
  | 3 => 33367
  | 4 => 33333
  | 5 => 20000
  | 6 => 16683
  | _ => 16667

/-- Frames per day of a standard (R75). -/
def framesPerDay (code : Fin 8) : Nat :=
  match code.val with
  | 0 => 2073600
  | 1 => 2073600
  | 2 => 2160000
  | 3 => 2592000
  | 4 => 2592000
  | 5 => 4320000
  | _ => 5184000

/-- Spacing tolerance of the reference monitor, µs (R76). -/
def spacingTolerance : Nat := 8
/-- Phase tolerance of the frame timer, µs (R76, R79). -/
def phaseTolerance : Nat := 64
/-- Issue budget of a window (R96). -/
def issueBudget : Nat := 32
/-- Scrub debt limit (R100). -/
def debtLimit : Nat := 8
/-- Writes of a forced scrub (R98). -/
def forcedScrub : Nat := 18
/-- ABSENT timer, µs (R105). -/
def absentTimer : Nat := 100000
/-- Readback answer timeout, µs (R108). -/
def answerTimeout : Nat := 10000
/-- Wall ack timeout, µs (R129). -/
def ackTimeout : Nat := 20000
/-- Longest gap inside a control link frame, µs (R172). -/
def byteGap : Nat := 5000
/-- Longest gap inside a partner link frame, µs (R183). -/
def partnerGap : Nat := 2000
/-- Discrepancy list limit (R113). -/
def discrepancyLimit : Nat := 16
/-- Undo stack limit (R69). -/
def undoLimit : Nat := 4
/-- Salvo memory in entries (R60). -/
def salvoMemory : Nat := 1024
/-- Commands a recorder port may queue (R151). -/
def commandLimit : Nat := 4
/-- Requests the request queue may hold (R173). -/
def requestLimit : Nat := 4
/-- Immediate frames the transmit order may hold (R175). -/
def immediateLimit : Nat := 8
/-- Longest body of a control link frame (R171). -/
def bodyLimit : Nat := 1020
/-- Longest body of a partner link frame (R183). -/
def partnerBodyLimit : Nat := 306
/-- Tiles an UPDATE frame may carry (R127). -/
def updateLimit : Nat := 8

/-- The capacities of the identity record, in the order R179 lists them. -/
def capacities : List Nat :=
  [512, 256, 16, 4, 128, 63, 8, 32, 64, 1024, 4, 32, 16, 8, 64, 16, 8, 8, 4, 1020]

end Sys2Proof.Config
end

