-- ==== Sys2Proof/Syntax.lean ====
section
/-! DEFINITION. The commands of the part: one constructor per row of spec/opcode_table.json, in its order.
A request carries its frame's tag and the fields of its body in the widths of 11.3, so that a field can carry a value
beyond its range and be refused by the owning rule (R182). -/

namespace Sys2Proof

inductive Instr
  /-- COLD_RESET: the MASTER, RATE1 and RATE0 straps as sampled, true for high. -/
  | coldReset (masterHigh rate1 rate0 : Bool)
  /-- CTL_RX_BYTE: a byte on CTL_RX, and whether its stop bit was wrong. -/
  | ctlRxByte (b : Byte) (stopError : Bool)
  | truncated
  | transmitFrameSent
  /-- BAD_KIND: a frame whose kind is no request kind. -/
  | badKind (tag kind : Byte) (body : List Byte)
  | identify (tag : Byte)
  | readAttention (tag : Byte)
  | restart (tag : Byte)
  | setSourceLabel (tag : Byte) (source : U16) (label : TextField)
  | setDestConfig (tag dest : Byte) (name : TextField) (domain zone role : Byte)
  | readDest (tag dest : Byte)
  | readSource (tag : Byte) (source : U16)
  | take (tag : Byte) (dest source : U16) (panel : Byte) (condition : OptField U16) (report : Byte)
  | cancelTake (tag slot gen : Byte)
  | readTake (tag slot gen : Byte)
  | enrolPanel (tag panel level : Byte)
  | setPanelLevel (tag panel level : Byte)
  | withdrawPanel (tag panel : Byte)
  | setZone (tag zone level : Byte)
  | protectDest (tag dest panel kind level restore : Byte)
  | releaseDest (tag dest panel : Byte)
  | storeSalvo (tag salvo : Byte) (content : List (Byte × U16))
  | eraseSalvo (tag salvo : Byte)
  | fireSalvo (tag salvo panel mode report : Byte)
  | undo (tag panel : Byte)
  | readSalvo (tag salvo : Byte)
  | setDomain (tag domain standard settle holdover : Byte) (holdLimit : U16)
  | openDomain (tag domain : Byte)
  | closeDomain (tag domain mode : Byte)
  | setTimecode (tag domain : Byte) (value : U32)
  | armMark (tag domain mode : Byte) (preset : U32) (event : Byte)
  | disarmMark (tag domain : Byte)
  | readDomain (tag domain : Byte)
  | setVerify (tag : Byte) (interval : U16) (policy : Byte)
  | startWalk (tag : Byte)
  | clearFault (tag dest : Byte)
  | readBus (tag : Byte)
  | bindTile (tag wall tile kind : Byte) (value : U16)
  | refreshWall (tag wall : Byte)
  | readWall (tag wall : Byte) (tile : OptField Byte)
  | bindRecorder (tag port : Byte) (dest : OptField Byte) (policy event guardTime pollTimeout : Byte)
  | recorderCommand (tag port command : Byte)
  | readRecorder (tag port : Byte)
  | setGpi (tag input debounce : Byte)
  | setComparator (tag comparator domain : Byte) (origin margin : U32) (period : U16)
      (strict mode trigger panel trueKind trueParam1 trueParam2 falseKind falseParam1 falseParam2 : Byte)
  | readComparator (tag comparator : Byte)
  | confirmOwn (d : Dest) (src : Src)
  | confirmForeign (d : Dest) (src : Src)
  /-- ANSWER carrying the X256's master ID: a source, or `none` for NO_CARD. -/
  | answer (d : Dest) (src : Option Src)
  | answerTimeout
  /-- DISCARDED_TRANSACTION: the bytes heard on the matrix bus. -/
  | discardedTransaction (bytes : List Byte)
  | readback
  | transferEnd
  | absentTimerExpiry (slot : Slot)
  | verifyInterval
  | referenceFrameStart (domain : Dom)
  | referenceLossTimeout (domain : Dom)
  /-- TIMER_FRAME_START: and whether a reference frame start follows it within 64 µs (log 7). -/
  | timerFrameStart (domain : Dom) (refFollows : Bool)
  | holdLimitExpiry (slot : Slot)
  /-- GPI_PIN_CHANGE: the pin's new level, true for HIGH. -/
  | gpiPinChange (input : Gpi) (high : Bool)
  | debounceExpiry (input : Gpi)
  | status (port : Port) (reported : RecorderState)
  | cmdAck (port : Port) (command : RecorderCommand) (accepted : Bool)
  | pollTimeout (port : Port)
  | guardEnd (port : Port)
  /-- RECORDER_REPLY_DISCARDED: bytes on a recorder port's receive pair. -/
  | recorderReplyDiscarded (port : Port) (bytes : List Byte)
  | hello (wall : Wall)
  | ack (wall : Wall) (number : Byte)
  | ackTimeout (wall : Wall)
  /-- WALL_FRAME_DISCARDED: bytes on a wall link's receive pair. -/
  | wallFrameDiscarded (wall : Wall) (bytes : List Byte)
  | partnerByteGap (link : PartnerLink)
  deriving DecidableEq, Repr

end Sys2Proof
end

