-- ==== Sys2Proof/WellFormed.lean ====
section
/-! DEFINITION. Which commands can occur on the part's links.
Every other command of the type is one that no bytes or frame can spell (log 5). -/

namespace Sys2Proof

/-- The kinds of 11.3. -/
def requestKinds : List Byte :=
  [0x01, 0x02, 0x03, 0x10, 0x11, 0x12, 0x13, 0x20, 0x21, 0x22, 0x28, 0x29, 0x2A, 0x2B, 0x2C, 0x2D,
   0x30, 0x31, 0x32, 0x33, 0x34, 0x38, 0x39, 0x3A, 0x3B, 0x3C, 0x3D, 0x3E] ++
  [0x40, 0x41, 0x42, 0x43, 0x48, 0x49, 0x4A, 0x50, 0x51, 0x52, 0x58, 0x59, 0x5A]

/-- A text's count byte is 0-254, or 255 for the absent marker (R182). -/
def textFits : TextField → Bool
  | none => true
  | some cs => decide (cs.length ≤ 254)

/-- A presence byte followed by a value is not 0 (R182). -/
def optFits {α : Type} : OptField α → Bool
  | none => true
  | some (flag, _) => flag != 0

/-- The command can be spelled by the bytes of its link. -/
def wellFormed : Instr → Bool
  | .badKind _ kind body => !requestKinds.contains kind && decide (body.length ≤ Config.bodyLimit)
  | .setSourceLabel _ _ label => textFits label
  | .setDestConfig _ _ name _ _ _ => textFits name
  | .take _ _ _ _ condition _ => optFits condition
  | .storeSalvo _ _ content => decide (content.length ≤ 255)
  | .readWall _ _ tile => optFits tile
  | .bindRecorder _ _ dest _ _ _ _ => optFits dest
  | _ => true

end Sys2Proof
end

