-- ==== Sys2Proof/Decode.lean ====
section
/-! DEFINITION. Bytes of the links: checks, frame layouts, and the request frames of the control link
(11_message_formats.md). `decodeRequest` is total and rejects by the reply it earns (R174); `encodeRequest` is written
from the same table. No row of spec/opcode_table.json gives bits, so `decodeTableWord` answers none. -/

namespace Sys2Proof

/-- The command a word spells by the table's bits: no row gives bits. -/
def decodeTableWord (_nbits _w : Nat) : Option Instr := none

/-! ## Numbers, most significant byte first (chapter 11) -/

def u16 (hi lo : Byte) : U16 := hi ++ lo
def u32 (a b c d : Byte) : U32 := a ++ b ++ (c ++ d)
def bytes16 (x : U16) : List Byte := [x.extractLsb' 8 8, x.extractLsb' 0 8]
def bytes32 (x : U32) : List Byte :=
  [x.extractLsb' 24 8, x.extractLsb' 16 8, x.extractLsb' 8 8, x.extractLsb' 0 8]

/-! ## Checks -/

/-- `k` applications of `f`. -/
def repeatTimes {α : Type} (f : α → α) : Nat → α → α
  | 0, x => x
  | k + 1, x => repeatTimes f k (f x)

def crc16Bit (c : BitVec 16) : BitVec 16 := if c.msb then (c <<< 1) ^^^ 0x1021#16 else c <<< 1
/-- CRC-16, polynomial 0x1021, initial value 0xFFFF, bytes most significant bit first (11.1). -/
def crc16 (bs : List Byte) : BitVec 16 :=
  bs.foldl (fun c b => repeatTimes crc16Bit 8 (c ^^^ (b ++ 0#8 : BitVec 16))) 0xFFFF#16

def crc8Bit (c : BitVec 8) : BitVec 8 := if c.msb then (c <<< 1) ^^^ 0x07#8 else c <<< 1
/-- CRC-8, polynomial 0x07, initial value 0x00 (11.7). -/
def crc8 (bs : List Byte) : BitVec 8 :=
  bs.foldl (fun c b => repeatTimes crc8Bit 8 (c ^^^ b)) 0#8

/-! ## Frame layouts -/

/-- The bytes a control link frame's CRC covers: offsets 1 to 4 + L (11.1). -/
def controlCovered (kind tag : Byte) (body : List Byte) : List Byte :=
  bytes16 (BitVec.ofNat 16 body.length) ++ (kind :: tag :: body)

/-- A control link frame as sent (11.1). -/
def controlFrame (kind tag : Byte) (body : List Byte) : List Byte :=
  0xA5 :: (controlCovered kind tag body ++ bytes16 (crc16 (controlCovered kind tag body)))

/-- The bytes a wall or recorder frame's CRC covers: length, kind and body (11.7). -/
def partnerCovered (kind : Byte) (body : List Byte) : List Byte :=
  bytes16 (BitVec.ofNat 16 body.length) ++ (kind :: body)

/-- A wall or recorder frame as sent (11.7). -/
def partnerFrame (kind : Byte) (body : List Byte) : List Byte :=
  0x5A :: (partnerCovered kind body ++ bytes16 (crc16 (partnerCovered kind body)))

/-- A matrix bus transaction as sent (11.7). -/
def busFrame (type master dest : Byte) (source : U16) : List Byte :=
  let head := [type, master, dest] ++ bytes16 source
  head ++ [crc8 head]

/-! ## Request frames -/

/-- What execution makes of a frame's kind and body (R174, steps 1 and 2). -/
inductive FrameDecode
  | badKind
  | badLength
  | request (c : Instr)
  deriving DecidableEq, Repr

def body0 (c : Instr) : List Byte → FrameDecode
  | [] => .request c
  | _ => .badLength
def body1 (f : Byte → Instr) : List Byte → FrameDecode
  | [a] => .request (f a)
  | _ => .badLength
def body2 (f : Byte → Byte → Instr) : List Byte → FrameDecode
  | [a, b] => .request (f a b)
  | _ => .badLength
def body4 (f : Byte → Byte → Byte → Byte → Instr) : List Byte → FrameDecode
  | [a, b, c, d] => .request (f a b c d)
  | _ => .badLength
def body5 (f : Byte → Byte → Byte → Byte → Byte → Instr) : List Byte → FrameDecode
  | [a, b, c, d, e] => .request (f a b c d e)
  | _ => .badLength

/-- A text field and what follows it (R182). -/
def takeText : List Byte → Option (TextField × List Byte)
  | [] => none
  | n :: rest =>
    if n = 255 then some (none, rest)
    else if n.toNat ≤ rest.length then some (some (rest.take n.toNat), rest.drop n.toNat)
    else none

/-- Salvo entries of three bytes each. -/
def takeEntries : List Byte → List (Byte × U16)
  | d :: hi :: lo :: rest => (d, u16 hi lo) :: takeEntries rest
  | _ => []

def decodeSetSourceLabel (tag : Byte) : List Byte → FrameDecode
  | hi :: lo :: rest =>
    match takeText rest with
    | some (label, []) => .request (.setSourceLabel tag (u16 hi lo) label)
    | _ => .badLength
  | _ => .badLength

def decodeSetDestConfig (tag : Byte) : List Byte → FrameDecode
  | dest :: rest =>
    match takeText rest with
    | some (name, [domain, zone, role]) => .request (.setDestConfig tag dest name domain zone role)
    | _ => .badLength
  | _ => .badLength

def decodeTake (tag : Byte) : List Byte → FrameDecode
  | [d1, d0, s1, s0, panel, presence, report] =>
    if presence = 0 then .request (.take tag (u16 d1 d0) (u16 s1 s0) panel none report) else .badLength
  | [d1, d0, s1, s0, panel, presence, c1, c0, report] =>
    if presence = 0 then .badLength
    else .request (.take tag (u16 d1 d0) (u16 s1 s0) panel (some (presence, u16 c1 c0)) report)
  | _ => .badLength

def decodeStoreSalvo (tag : Byte) : List Byte → FrameDecode
  | salvo :: count :: rest =>
    if rest.length = 3 * count.toNat then .request (.storeSalvo tag salvo (takeEntries rest)) else .badLength
  | _ => .badLength

def decodeSetDomain (tag : Byte) : List Byte → FrameDecode
  | [domain, standard, settle, holdover, h1, h0] =>
    .request (.setDomain tag domain standard settle holdover (u16 h1 h0))
  | _ => .badLength

def decodeSetTimecode (tag : Byte) : List Byte → FrameDecode
  | [domain, a, b, c, d] => .request (.setTimecode tag domain (u32 a b c d))
  | _ => .badLength

def decodeArmMark (tag : Byte) : List Byte → FrameDecode
  | [domain, mode, a, b, c, d, event] => .request (.armMark tag domain mode (u32 a b c d) event)
  | _ => .badLength

def decodeSetVerify (tag : Byte) : List Byte → FrameDecode
  | [hi, lo, policy] => .request (.setVerify tag (u16 hi lo) policy)
  | _ => .badLength

def decodeBindTile (tag : Byte) : List Byte → FrameDecode
  | [wall, tile, kind, hi, lo] => .request (.bindTile tag wall tile kind (u16 hi lo))
  | _ => .badLength

def decodeReadWall (tag : Byte) : List Byte → FrameDecode
  | [wall, presence] => if presence = 0 then .request (.readWall tag wall none) else .badLength
  | [wall, presence, tile] =>
    if presence = 0 then .badLength else .request (.readWall tag wall (some (presence, tile)))
  | _ => .badLength

def decodeBindRecorder (tag : Byte) : List Byte → FrameDecode
  | [port, presence, policy, event, guardTime, pollTimeout] =>
    if presence = 0 then .request (.bindRecorder tag port none policy event guardTime pollTimeout) else .badLength
  | [port, presence, dest, policy, event, guardTime, pollTimeout] =>
    if presence = 0 then .badLength
    else .request (.bindRecorder tag port (some (presence, dest)) policy event guardTime pollTimeout)
  | _ => .badLength

def decodeSetComparator (tag : Byte) : List Byte → FrameDecode
  | [k, domain, o3, o2, o1, o0, m3, m2, m1, m0, p1, p0, strict, mode, trigger, panel,
     tk, ta, tb, fk, fa, fb] =>
    .request (.setComparator tag k domain (u32 o3 o2 o1 o0) (u32 m3 m2 m1 m0) (u16 p1 p0)
      strict mode trigger panel tk ta tb fk fa fb)
  | _ => .badLength

/-- Steps 1 and 2 of R174: the kind, then the body size. -/
def decodeRequest (f : ReqFrame) : FrameDecode :=
  let t := f.tag
  match f.kind.toNat with
  | 0x01 => body0 (.identify t) f.body
  | 0x02 => body0 (.readAttention t) f.body
  | 0x03 => body0 (.restart t) f.body
  | 0x10 => decodeSetSourceLabel t f.body
  | 0x11 => decodeSetDestConfig t f.body
  | 0x12 => body1 (.readDest t) f.body
  | 0x13 => body2 (fun hi lo => .readSource t (u16 hi lo)) f.body
  | 0x20 => decodeTake t f.body
  | 0x21 => body2 (.cancelTake t) f.body
  | 0x22 => body2 (.readTake t) f.body
  | 0x28 => body2 (.enrolPanel t) f.body
  | 0x29 => body2 (.setPanelLevel t) f.body
  | 0x2A => body1 (.withdrawPanel t) f.body
  | 0x2B => body2 (.setZone t) f.body
  | 0x2C => body5 (.protectDest t) f.body
  | 0x2D => body2 (.releaseDest t) f.body
  | 0x30 => decodeStoreSalvo t f.body
  | 0x31 => body1 (.eraseSalvo t) f.body
  | 0x32 => body4 (.fireSalvo t) f.body
  | 0x33 => body1 (.undo t) f.body
  | 0x34 => body1 (.readSalvo t) f.body
  | 0x38 => decodeSetDomain t f.body
  | 0x39 => body1 (.openDomain t) f.body
  | 0x3A => body2 (.closeDomain t) f.body
  | 0x3B => decodeSetTimecode t f.body
  | 0x3C => decodeArmMark t f.body
  | 0x3D => body1 (.disarmMark t) f.body
  | 0x3E => body1 (.readDomain t) f.body
  | 0x40 => decodeSetVerify t f.body
  | 0x41 => body0 (.startWalk t) f.body
  | 0x42 => body1 (.clearFault t) f.body
  | 0x43 => body0 (.readBus t) f.body
  | 0x48 => decodeBindTile t f.body
  | 0x49 => body1 (.refreshWall t) f.body
  | 0x4A => decodeReadWall t f.body
  | 0x50 => decodeBindRecorder t f.body
  | 0x51 => body2 (.recorderCommand t) f.body
  | 0x52 => body1 (.readRecorder t) f.body
  | 0x58 => body2 (.setGpi t) f.body
  | 0x59 => decodeSetComparator t f.body
  | 0x5A => body1 (.readComparator t) f.body
  | _ => .badKind

/-- A text field as sent in a request: its count byte and its characters, or the absent marker (R182). -/
def textBytes : TextField → List Byte
  | none => [255]
  | some cs => BitVec.ofNat 8 cs.length :: cs

/-- The frame of a request; `none` for a command that is no frame of the control link. BAD_KIND's frame is its own. -/
def encodeRequest : Instr → Option ReqFrame
  | .badKind t kind body => some ⟨kind, t, body⟩
  | .identify t => some ⟨0x01, t, []⟩
  | .readAttention t => some ⟨0x02, t, []⟩
  | .restart t => some ⟨0x03, t, []⟩
  | .setSourceLabel t source label => some ⟨0x10, t, bytes16 source ++ textBytes label⟩
  | .setDestConfig t dest name domain zone role =>
    some ⟨0x11, t, dest :: (textBytes name ++ [domain, zone, role])⟩
  | .readDest t dest => some ⟨0x12, t, [dest]⟩
  | .readSource t source => some ⟨0x13, t, bytes16 source⟩
  | .take t dest source panel none report =>
    some ⟨0x20, t, bytes16 dest ++ bytes16 source ++ [panel, 0, report]⟩
  | .take t dest source panel (some (flag, c)) report =>
    some ⟨0x20, t, bytes16 dest ++ bytes16 source ++ [panel, flag] ++ bytes16 c ++ [report]⟩
  | .cancelTake t slot gen => some ⟨0x21, t, [slot, gen]⟩
  | .readTake t slot gen => some ⟨0x22, t, [slot, gen]⟩
  | .enrolPanel t panel level => some ⟨0x28, t, [panel, level]⟩
  | .setPanelLevel t panel level => some ⟨0x29, t, [panel, level]⟩
  | .withdrawPanel t panel => some ⟨0x2A, t, [panel]⟩
  | .setZone t zone level => some ⟨0x2B, t, [zone, level]⟩
  | .protectDest t dest panel kind level restore => some ⟨0x2C, t, [dest, panel, kind, level, restore]⟩
  | .releaseDest t dest panel => some ⟨0x2D, t, [dest, panel]⟩
  | .storeSalvo t salvo content =>
    some ⟨0x30, t, salvo :: BitVec.ofNat 8 content.length :: content.flatMap (fun e => e.1 :: bytes16 e.2)⟩
  | .eraseSalvo t salvo => some ⟨0x31, t, [salvo]⟩
  | .fireSalvo t salvo panel mode report => some ⟨0x32, t, [salvo, panel, mode, report]⟩
  | .undo t panel => some ⟨0x33, t, [panel]⟩
  | .readSalvo t salvo => some ⟨0x34, t, [salvo]⟩
  | .setDomain t domain standard settle holdover holdLimit =>
    some ⟨0x38, t, [domain, standard, settle, holdover] ++ bytes16 holdLimit⟩
  | .openDomain t domain => some ⟨0x39, t, [domain]⟩
  | .closeDomain t domain mode => some ⟨0x3A, t, [domain, mode]⟩
  | .setTimecode t domain value => some ⟨0x3B, t, domain :: bytes32 value⟩
  | .armMark t domain mode preset event => some ⟨0x3C, t, domain :: mode :: (bytes32 preset ++ [event])⟩
  | .disarmMark t domain => some ⟨0x3D, t, [domain]⟩
  | .readDomain t domain => some ⟨0x3E, t, [domain]⟩
  | .setVerify t interval policy => some ⟨0x40, t, bytes16 interval ++ [policy]⟩
  | .startWalk t => some ⟨0x41, t, []⟩
  | .clearFault t dest => some ⟨0x42, t, [dest]⟩
  | .readBus t => some ⟨0x43, t, []⟩
  | .bindTile t wall tile kind value => some ⟨0x48, t, [wall, tile, kind] ++ bytes16 value⟩
  | .refreshWall t wall => some ⟨0x49, t, [wall]⟩
  | .readWall t wall none => some ⟨0x4A, t, [wall, 0]⟩
  | .readWall t wall (some (flag, tile)) => some ⟨0x4A, t, [wall, flag, tile]⟩
  | .bindRecorder t port none policy event guardTime pollTimeout =>
    some ⟨0x50, t, [port, 0, policy, event, guardTime, pollTimeout]⟩
  | .bindRecorder t port (some (flag, dest)) policy event guardTime pollTimeout =>
    some ⟨0x50, t, [port, flag, dest, policy, event, guardTime, pollTimeout]⟩
  | .recorderCommand t port command => some ⟨0x51, t, [port, command]⟩
  | .readRecorder t port => some ⟨0x52, t, [port]⟩
  | .setGpi t input debounce => some ⟨0x58, t, [input, debounce]⟩
  | .setComparator t k domain origin margin period strict mode trigger panel tk ta tb fk fa fb =>
    some ⟨0x59, t, [k, domain] ++ bytes32 origin ++ bytes32 margin ++ bytes16 period ++
      [strict, mode, trigger, panel, tk, ta, tb, fk, fa, fb]⟩
  | .readComparator t k => some ⟨0x5A, t, [k]⟩
  | .coldReset .. => none
  | .ctlRxByte .. => none
  | .truncated => none
  | .transmitFrameSent => none
  | .confirmOwn .. => none
  | .confirmForeign .. => none
  | .answer .. => none
  | .answerTimeout => none
  | .discardedTransaction .. => none
  | .readback => none
  | .transferEnd => none
  | .absentTimerExpiry .. => none
  | .verifyInterval => none
  | .referenceFrameStart .. => none
  | .referenceLossTimeout .. => none
  | .timerFrameStart .. => none
  | .holdLimitExpiry .. => none
  | .gpiPinChange .. => none
  | .debounceExpiry .. => none
  | .status .. => none
  | .cmdAck .. => none
  | .pollTimeout .. => none
  | .guardEnd .. => none
  | .recorderReplyDiscarded .. => none
  | .hello .. => none
  | .ack .. => none
  | .ackTimeout .. => none
  | .wallFrameDiscarded .. => none
  | .partnerByteGap .. => none

end Sys2Proof
end

