-- ==== Sys2Proof/Machine/State.lean ====
section
/-! DEFINITION. The state of the X256 as plain data, one record per block (00_scope.md section 2), and the state right
after a cold reset. INVENTORY.md lists every field with the rule that names it. -/

namespace Sys2Proof.Machine

/-- No command stops the part: the manual describes no stop, so no fault is ever raised. -/
inductive Fault
  deriving DecidableEq, Repr

/-- Why a command has no meaning. -/
inductive Refusal
  /-- Raised by exec's arm of a command that has no meaning yet. Safe. -/
  | notModelled (mnemonic : String)
  /-- Raised by a request or a BAD_KIND frame whose fields no frame can spell (R182): a text of more than 254
  characters, a present optional field with presence byte 0, more than 255 salvo entries, BAD_KIND with a request kind
  or an over-long body. It cannot occur on the link (log 5). Safe. -/
  | illFormed
  deriving DecidableEq, Repr

/-! ## Crosspoint Table (chapter 1) -/

inductive Role
  | programme | preview | monitor
  deriving DecidableEq, Repr

inductive OutputState
  | unknown | ready | faulted | offline
  deriving DecidableEq, Repr

inductive ChangeOrigin
  | none | own | foreign | learned
  deriving DecidableEq, Repr

inductive Colour
  | off | red | green | amber
  deriving DecidableEq, Repr

/-- A destination record (R1). -/
structure DestRec where
  name : Option Text
  domain : Dom
  zone : Zone
  role : Role
  /-- `none` is UNKNOWN. -/
  source : Option Src
  output : OutputState
  origin : ChangeOrigin
  stamp : Time
  takeCount : Byte
  deriving DecidableEq, Repr

/-- A source record (R3); its colour is derived (R14). -/
structure SrcRec where
  label : Option Text
  programme : Nat
  preview : Nat
  record : Nat
  deriving DecidableEq, Repr

/-! ## Take Pool (chapter 2) -/

/-- Status codes (11.5); `guarded` is PROTECTED. -/
inductive Status
  | ok | busy | badKind | badLength | badField | none
  | badDest | badSource | noPanel | noOutput | destFaulted | zoneDenied | locked | guarded
  | condFailed | poolFull | noTake | tooLate | notLearned | domainClosed
  | salvoBusy | noSalvo | storeFull | dupDest | nothingToUndo
  | panelExists | levelDenied | notHolder | domainActive | destActive | markNotCleared
  | walkBusy | badBinding | destBound | queueFull | portOffline
  deriving DecidableEq, Repr

/-- A slot number with its generation: the name of one take (R21). -/
structure Tag where
  slot : Slot
  gen : Byte
  deriving DecidableEq, Repr

/-- State of an allocated slot; a slot with no take is FREE (R20). -/
inductive TakeState
  | queued | held | issued | retry | done
  deriving DecidableEq, Repr

inductive TakeOutcome
  | completed | superseded | cancelled | condFailed | expired | flushed | faulted | unverified
  deriving DecidableEq, Repr

inductive TakeOrigin
  | direct
  | panel (n : Panel)
  | comparator (k : Cmp)
  | restore
  | repair
  | undo
  deriving DecidableEq, Repr

inductive GroupMode
  | all | partialMode
  deriving DecidableEq, Repr

/-- The fire that admitted a take with others; `salvo = none` is UNDO (R20). -/
structure Group where
  salvo : Option Salvo
  serial : U16
  mode : GroupMode
  deriving DecidableEq, Repr

/-- The take a slot holds (R20). -/
structure Take where
  state : TakeState
  dest : Dest
  source : Src
  origin : TakeOrigin
  panel : Panel
  group : Option Group
  condition : Option Src
  report : Bool
  admittedAt : Time
  ageStart : Time
  issuedAt : Option U32
  reissued : Bool
  outcome : Option TakeOutcome
  deriving DecidableEq, Repr

/-- A slot's previous take (R20). -/
structure EndedTake where
  tag : Tag
  dest : Dest
  source : Src
  outcome : TakeOutcome
  deriving DecidableEq, Repr

structure SlotRec where
  gen : Byte
  take : Option Take
  previous : Option EndedTake
  deriving DecidableEq, Repr

/-- The Take Pool (R20, R43). -/
structure Pool where
  slots : Vector SlotRec 128
  /-- Frame queues, head first (R29). -/
  queues : Vector (List Slot) 4
  /-- Report list, oldest first (R43). -/
  reports : List Slot
  /-- Outstanding takes in the order they were issued (R97, R104; log 12). -/
  issued : List Slot
  deriving DecidableEq, Repr

/-! ## Panel Registry (chapter 3) -/

structure PanelRec where
  enrolled : Bool
  level : Level
  deriving DecidableEq, Repr

inductive ProtectKind
  | lock | protect
  deriving DecidableEq, Repr

/-- A protect record (R49). -/
structure Protect where
  holder : Panel
  kind : ProtectKind
  level : Level
  restore : Bool
  deriving DecidableEq, Repr

/-- The Panel Registry. Entry 0 of `panels` stands for no record: panel 0 has no fields (R44). -/
structure Registry where
  panels : Vector PanelRec 64
  zoneMin : Vector Level 8
  protects : Vector (Option Protect) 256
  deriving DecidableEq, Repr

/-! ## Salvo Store (chapter 4) -/

/-- An undo record (R69). -/
structure UndoRec where
  salvo : Salvo
  pairs : List (Dest × Src)
  deriving DecidableEq, Repr

/-- The Salvo Store (R60, R69); an empty list is an empty salvo, the top of the undo stack stands first. -/
structure Store where
  salvos : Vector (List (Dest × Src)) 32
  serial : U16
  undo : List UndoRec
  deriving DecidableEq, Repr

/-! ## Domain Timers (chapter 5) -/

inductive LockState
  | closed | acquiring | settling | locked | holdover | absent
  deriving DecidableEq, Repr

inductive CloseMode
  | drain | flush
  deriving DecidableEq, Repr

/-- The reference monitor's judgement (R76). -/
inductive Seen
  | none
  | standard (code : Fin 8)
  | unrecognised
  deriving DecidableEq, Repr

inductive TimecodeSource
  | request | mark
  deriving DecidableEq, Repr

inductive MarkStatus
  | idle | armedSingle | doneSingle | continuous
  deriving DecidableEq, Repr

/-- A domain record (R74) with its reference monitor and frame timer. -/
structure DomRec where
  standard : Fin 8
  settleCount : Nat
  holdoverLimit : Nat
  holdLimit : Nat
  lock : LockState
  closing : Option CloseMode
  seen : Seen
  settleProgress : Nat
  holdoverCount : Nat
  stopMoment : Time
  number : U32
  timecode : Nat
  pendingTimecode : Option (Nat × TimecodeSource)
  markStatus : MarkStatus
  markPreset : Nat
  markCounter : Fin 8
  /-- Monitor: time of the last frame start it counts (R76; log 8). -/
  lastStart : Option Time
  /-- Monitor: the last spacing measured (R76). -/
  lastSpacing : Time
  /-- A judgement found at OPEN DOMAIN waits for the next frame start (R77). -/
  openDetection : Bool
  /-- Frame timer: time of its last frame start (R77, R79). -/
  timerAt : Time
  /-- A reference frame start has departed in LOCKED; the loss is judged at the next timer frame start (R79; log 29). -/
  lossPending : Bool
  deriving DecidableEq, Repr

/-! ## Matrix Bus Controller (chapter 6) -/

/-- A WRITE transaction of the X256. -/
structure BusWrite where
  dest : Dest
  source : Src
  deriving DecidableEq, Repr

inductive ReadbackKind
  | priority | walk
  deriving DecidableEq, Repr

/-- The outstanding readback (R95); `compare`: a VERIFY walk readback of a destination READY when it was sent (R111). -/
structure Readback where
  dest : Dest
  kind : ReadbackKind
  sentAt : Time
  compare : Bool
  deriving DecidableEq, Repr

inductive Walk
  | none | learn | verify
  deriving DecidableEq, Repr

inductive VerifyPolicy
  | report | repair
  deriving DecidableEq, Repr

inductive RepairOutcome
  | none
  | refused (code : Status)
  | admitted (tag : Tag)
  deriving DecidableEq, Repr

/-- A discrepancy record (R111). -/
structure Discrepancy where
  dest : Dest
  tableSource : Src
  cardSource : Src
  foundAt : Time
  policy : VerifyPolicy
  repair : RepairOutcome
  deriving DecidableEq, Repr

/-- The Matrix Bus Controller (R95). -/
structure Bus where
  debt : Vector Nat 4
  cursor : Vector Dest 4
  retry : Vector (List Tag) 4
  absent : List (Tag × Time)
  /-- Transfers being sent, each with its writes in order; transfer in progress is yes while one is (R96). -/
  transfers : List (List BusWrite)
  readback : Option Readback
  walk : Walk
  walkCursor : Dest
  interval : Nat
  policy : VerifyPolicy
  intervalStart : Time
  priority : List Dest
  discrepancies : List Discrepancy
  deriving DecidableEq, Repr

/-! ## Wall Link Controller (chapter 7) -/

/-- A tile's binding (R121). -/
inductive Binding
  | none
  | dest (d : Dest)
  | source (s : Src)
  deriving DecidableEq, Repr

inductive Marker
  | none | pending | fault
  deriving DecidableEq, Repr

/-- A tile's composed content (R122, R123). -/
inductive Content
  | blank
  | dest (caption label : Text) (colour : Colour) (marker : Marker)
  | source (label : Text) (colour : Colour)
  deriving DecidableEq, Repr

inductive WallState
  | down | idle | awaitAck | stalled
  deriving DecidableEq, Repr

structure OutFrame where
  number : Byte
  tiles : List Tile
  sentAt : Time
  deriving DecidableEq, Repr

/-- One wall: map, update queue and link record (R121, R125, R126); `sent` is the last UPDATE frame on the link (log 19). -/
structure WallRec where
  tiles : Vector Binding 64
  queue : List Tile
  link : WallState
  number : Byte
  outstanding : Option OutFrame
  sent : Option (Byte × List (Tile × Content))
  deriving DecidableEq, Repr

/-! ## Recorder Port Controller (chapter 8) -/

inductive GuardPolicy
  | hold | split | free
  deriving DecidableEq, Repr

inductive ExchangeState
  | ready | busy | guard
  deriving DecidableEq, Repr

/-- What an exchange sends: a POLL or a command. -/
inductive ExchangeKind
  | poll
  | command (c : RecorderCommand)
  deriving DecidableEq, Repr

structure InFlight where
  kind : ExchangeKind
  fromMark : Bool
  sentAt : Time
  timeout : Nat
  deriving DecidableEq, Repr

inductive CommandResult
  | refused | accepted | noReply
  deriving DecidableEq, Repr

structure LastCommand where
  command : RecorderCommand
  result : CommandResult
  time : Time
  deriving DecidableEq, Repr

/-- A port record (R137); its poll event stands in the Event Router. -/
structure PortRec where
  dest : Option Dest
  policy : GuardPolicy
  guardTime : Nat
  pollTimeout : Nat
  exchange : ExchangeState
  inFlight : Option InFlight
  guardEnd : Option Time
  pollPending : Bool
  online : Bool
  silent : Nat
  reported : RecorderState
  lastStatusAt : Option Time
  queue : List RecorderCommand
  markPending : Bool
  lastCommand : Option LastCommand
  recordStamp : Option Time
  startDelay : Option Nat
  deriving DecidableEq, Repr

/-! ## Event Router, GPI, comparators (chapter 9) -/

/-- The 28 bindings (R158). -/
structure Router where
  trigger : Vector Byte 8
  poll : Vector Byte 16
  mark : Vector Byte 4
  deriving DecidableEq, Repr

/-- A GPI record (R160) with the level of its pin; true is HIGH. -/
structure GpiRec where
  debounce : Nat
  level : Bool
  candidate : Option (Bool × Time)
  pin : Bool
  deriving DecidableEq, Repr

inductive CmpMode
  | off | once | onChange | every
  deriving DecidableEq, Repr

inductive CmpState
  | off | armed | baseline | tracking
  deriving DecidableEq, Repr

inductive Action
  | none
  | fireSalvo (n : Salvo)
  | recorder (p : Port) (c : RecorderCommand)
  | attention
  deriving DecidableEq, Repr

structure LastAction where
  branch : Bool
  action : Action
  result : Status
  time : Time
  deriving DecidableEq, Repr

/-- A comparator record (R162); its trigger stands in the Event Router. -/
structure CmpRec where
  domain : Dom
  origin : Nat
  margin : Nat
  period : Nat
  strict : Bool
  mode : CmpMode
  panel : Panel
  onTrue : Action
  onFalse : Action
  state : CmpState
  lastResult : Option Bool
  trueLatch : Option (Nat × Time)
  falseLatch : Option (Nat × Time)
  lastAction : Option LastAction
  deriving DecidableEq, Repr

/-! ## Control Link (chapter 10) -/

/-- The framing receiver with the bytes it holds (R171). -/
inductive Receiver
  | hunt
  | length (first : Option Byte)
  | header (len : U16) (kind : Option Byte)
  | body (len : U16) (kind tag : Byte) (held : List Byte)
  | crc (len : U16) (kind tag : Byte) (body : List Byte) (first : Option Byte)
  deriving DecidableEq, Repr

/-- The three sorts of frame, immediate frames told apart (R175). -/
inductive FrameSort
  | reply | busyReply | reject | ready
  deriving DecidableEq, Repr

/-- A frame of the transmit order: its sort, and kind, tag and body as 11.1 lays them out. -/
structure TxFrame where
  sort : FrameSort
  kind : Byte
  tag : Byte
  body : List Byte
  deriving DecidableEq, Repr

structure Link where
  receiver : Receiver
  lastByteAt : Time
  queue : List ReqFrame
  transmit : List TxFrame
  deriving DecidableEq, Repr

/-! ## Attention summary (R176) -/

inductive RestoreOutcome
  | notRequested
  | alreadyPending (tag : Tag)
  | notNeeded
  | refused (code : Status)
  | admitted (tag : Tag) (superseded : Option Tag)
  deriving DecidableEq, Repr

inductive ReleaseReason
  | demotion | withdrawal | force
  deriving DecidableEq, Repr

/-- The seven causes held as flags, each with its one detail. -/
structure Flags where
  destFault : Vector (Option Tag) 256
  lockBreach : Vector (Option (Src × RestoreOutcome)) 256
  domain : Vector (Option (LockState × Bool)) 4
  recorder : Vector (Option (Bool × RecorderState)) 16
  wall : Vector (Option WallState) 8
  released : Vector (Option (Panel × ReleaseReason)) 256
  comparator : Vector (Option (Bool × Status)) 8
  deriving DecidableEq, Repr

/-! ## The whole part -/

/-- A partner link's receiver: the bytes of the frame being received and the time of the last (R183). -/
structure PartnerRx where
  held : List Byte
  lastByteAt : Time
  deriving DecidableEq, Repr

/-- The straps as sampled at cold reset, true for high. -/
structure Straps where
  masterHigh : Bool
  rate1 : Bool
  rate0 : Bool
  deriving DecidableEq, Repr

/-- An object handed to the Wall Link Controller as changed (R15, R24). -/
inductive Handed
  | dest (d : Dest)
  | source (s : Src)
  deriving DecidableEq, Repr

@[ext]
structure State where
  /-- The time base (R91). -/
  now : Time
  straps : Straps
  dests : Vector DestRec 256
  srcs : Vector SrcRec 512
  pool : Pool
  registry : Registry
  store : Store
  domains : Vector DomRec 4
  bus : Bus
  walls : Vector WallRec 8
  ports : Vector PortRec 16
  router : Router
  gpis : Vector GpiRec 8
  cmps : Vector CmpRec 8
  link : Link
  flags : Flags
  wallRx : Vector PartnerRx 8
  recorderRx : Vector PartnerRx 16
  /-- Objects handed to the walls by the event in progress; empty between events (log 15). -/
  handed : List Handed
  /-- Free choices made so far (log 2). -/
  choices : Nat
  /-- Commands waiting, first in, first out. -/
  pending : List Instr
  deriving DecidableEq, Repr

/-! ## Cold reset values -/

def DestRec.reset : DestRec where
  name := none
  domain := 0
  zone := 0
  role := .monitor
  source := none
  output := .unknown
  origin := .none
  stamp := 0
  takeCount := 0

def SrcRec.reset : SrcRec where
  label := none
  programme := 0
  preview := 0
  record := 0

def SlotRec.reset : SlotRec where
  gen := 0
  take := none
  previous := none

def Pool.reset : Pool where
  slots := Vector.replicate 128 SlotRec.reset
  queues := Vector.replicate 4 []
  reports := []
  issued := []

def Registry.reset : Registry where
  panels := Vector.replicate 64 ⟨false, 0⟩
  zoneMin := Vector.replicate 8 3
  protects := Vector.replicate 256 none

def Store.reset : Store where
  salvos := Vector.replicate 32 []
  serial := 0
  undo := []

def DomRec.reset : DomRec where
  standard := 2
  settleCount := 16
  holdoverLimit := 50
  holdLimit := 2000
  lock := .closed
  closing := none
  seen := .none
  settleProgress := 0
  holdoverCount := 0
  stopMoment := 0
  number := 0
  timecode := 0
  pendingTimecode := none
  markStatus := .idle
  markPreset := 0
  markCounter := 0
  lastStart := none
  lastSpacing := 0
  openDetection := false
  timerAt := 0
  lossPending := false

def Bus.reset : Bus where
  debt := Vector.replicate 4 0
  cursor := Vector.replicate 4 0
  retry := Vector.replicate 4 []
  absent := []
  transfers := []
  readback := none
  walk := .learn
  walkCursor := 0
  interval := 0
  policy := .report
  intervalStart := 0
  priority := []
  discrepancies := []

def WallRec.reset : WallRec where
  tiles := Vector.replicate 64 .none
  queue := []
  link := .down
  number := 0
  outstanding := none
  sent := none

def PortRec.reset : PortRec where
  dest := none
  policy := .free
  guardTime := 10
  pollTimeout := 40
  exchange := .ready
  inFlight := none
  guardEnd := none
  pollPending := false
  online := true
  silent := 0
  reported := .unknown
  lastStatusAt := none
  queue := []
  markPending := false
  lastCommand := none
  recordStamp := none
  startDelay := none

def Router.reset : Router where
  trigger := Vector.replicate 8 0
  poll := Vector.replicate 16 0
  mark := Vector.replicate 4 0

/-- A GPI record when a cold reset ends with its pin at `pin` (R160). -/
def GpiRec.reset (pin : Bool) : GpiRec where
  debounce := 5
  level := pin
  candidate := none
  pin := pin

def CmpRec.reset : CmpRec where
  domain := 0
  origin := 0
  margin := 0
  period := 0
  strict := false
  mode := .off
  panel := 0
  onTrue := .none
  onFalse := .none
  state := .off
  lastResult := none
  trueLatch := none
  falseLatch := none
  lastAction := none

def Flags.reset : Flags where
  destFault := Vector.replicate 256 none
  lockBreach := Vector.replicate 256 none
  domain := Vector.replicate 4 none
  recorder := Vector.replicate 16 none
  wall := Vector.replicate 8 none
  released := Vector.replicate 256 none
  comparator := Vector.replicate 8 none

/-- The matrix bus master ID the MASTER strap selects (R93). -/
def Straps.masterId (s : Straps) : Byte := if s.masterHigh then 2 else 1

/-- The rate byte of the identity record: the straps read as RATE1 then RATE0 (00_scope.md section 6, 11.5). -/
def Straps.rateCode (s : Straps) : Byte :=
  match s.rate1, s.rate0 with
  | false, true => 1
  | true, false => 2
  | _, _ => 0

/-- The identity record (R179, 11.5). -/
def identityRecord (s : Straps) : List Byte :=
  [0x4C, 0x07, 0x02, 0x56, Config.revision] ++
    Config.capacities.flatMap (fun c => bytes16 (BitVec.ofNat 16 c)) ++ [s.masterId, s.rateCode]

/-- The control link after a cold reset: the READY frame heads the transmit order (R178). -/
def Link.reset (s : Straps) : Link where
  receiver := .hunt
  lastByteAt := 0
  queue := []
  transmit := [⟨.ready, 0xF0, 0, identityRecord s⟩]

/-- Every record at its cold reset value, with the straps sampled and the GPI records at their pins' levels. The free
choices made so far and the commands still waiting are no record of the part and stand. -/
def State.coldReset (straps : Straps) (gpis : Vector GpiRec 8) (choices : Nat) (queue : List Instr) : State where
  now := 0
  straps := straps
  dests := Vector.replicate 256 DestRec.reset
  srcs := Vector.replicate 512 SrcRec.reset
  pool := Pool.reset
  registry := Registry.reset
  store := Store.reset
  domains := Vector.replicate 4 DomRec.reset
  bus := Bus.reset
  walls := Vector.replicate 8 WallRec.reset
  ports := Vector.replicate 16 PortRec.reset
  router := Router.reset
  gpis := gpis
  cmps := Vector.replicate 8 CmpRec.reset
  link := Link.reset straps
  flags := Flags.reset
  wallRx := Vector.replicate 8 ⟨[], 0⟩
  recorderRx := Vector.replicate 16 ⟨[], 0⟩
  handed := []
  choices := choices
  pending := queue

/-- The part right after a cold reset with every strap and GPI pin low (log 3). -/
def State.reset : State :=
  State.coldReset ⟨false, false, false⟩ (Vector.replicate 8 (GpiRec.reset false)) 0 []

end Sys2Proof.Machine
end

