-- ==== Sys2Proof/Machine/Operands.lean ====
section
/-! DEFINITION. Field encodings of requests, replies and details (11_message_formats.md, R182): the codes of 11.4 and
11.5 read and written, the encodings of result fields, and replies. -/

namespace Sys2Proof.Machine

/-! ## Reading fields -/

/-- A number below `n`. -/
def below (n x : Nat) : Option (Fin n) := if h : x < n then some ⟨x, h⟩ else none

/-- A flag: 0 no, 1 yes (R182). -/
def asFlag (b : Byte) : Option Bool :=
  if b = 0 then some false else if b = 1 then some true else none

def asRole (b : Byte) : Option Role :=
  match b.toNat with
  | 0 => some .programme
  | 1 => some .preview
  | 2 => some .monitor
  | _ => none

def asGroupMode (b : Byte) : Option GroupMode :=
  match b.toNat with
  | 0 => some .all
  | 1 => some .partialMode
  | _ => none

def asProtectKind (b : Byte) : Option ProtectKind :=
  match b.toNat with
  | 0 => some .lock
  | 1 => some .protect
  | _ => none

def asCloseMode (b : Byte) : Option CloseMode :=
  match b.toNat with
  | 0 => some .drain
  | 1 => some .flush
  | _ => none

/-- Mark mode: true for CONTINUOUS. -/
def asMarkMode (b : Byte) : Option Bool :=
  match b.toNat with
  | 0 => some false
  | 1 => some true
  | _ => none

def asVerifyPolicy (b : Byte) : Option VerifyPolicy :=
  match b.toNat with
  | 0 => some .report
  | 1 => some .repair
  | _ => none

def asGuardPolicy (b : Byte) : Option GuardPolicy :=
  match b.toNat with
  | 0 => some .hold
  | 1 => some .split
  | 2 => some .free
  | _ => none

def asCommand (b : Byte) : Option RecorderCommand :=
  match b.toNat with
  | 1 => some .cue
  | 2 => some .record
  | 3 => some .stop
  | 4 => some .mark
  | _ => none

/-- Recorder state of a STATUS: 1-5 (R183). -/
def asReported (b : Byte) : Option RecorderState :=
  match b.toNat with
  | 1 => some .idle
  | 2 => some .cued
  | 3 => some .recording
  | 4 => some .stopping
  | 5 => some .fault
  | _ => none

def asCmpMode (b : Byte) : Option CmpMode :=
  match b.toNat with
  | 0 => some .off
  | 1 => some .once
  | 2 => some .onChange
  | 3 => some .every
  | _ => none

/-- A text's characters are at most 16, each 0x20-0x7E (R16, R182). -/
def textOk : TextField → Bool
  | none => true
  | some cs => decide (cs.length ≤ 16) && cs.all (fun c => decide (0x20 ≤ c.toNat) && decide (c.toNat ≤ 0x7E))

/-- An optional field: absent, or present with presence byte 1 and a value the reader accepts (R182). -/
def asOpt {α β : Type} (read : α → Option β) : OptField α → Option (Option β)
  | none => some none
  | some (flag, v) => if flag = 1 then (read v).map some else none

/-- An action of SET COMPARATOR: its kind and two parameters (11.3); a parameter its kind has no use for is not read
(log 28). -/
inductive ActionField
  | bad (offset : Nat)
  | good (a : Action)
  deriving DecidableEq, Repr

/-- Reads an action; `offset` counts from its kind byte (R168). 11.3 gives 0 for a parameter that a kind has no use for (the
second of FIRE SALVO, both of NONE and ATTENTION), and no rule refuses another value: DESIGN CHOICE (log 28), it is accepted
and not held. -/
def asAction (kind a b : Byte) : ActionField :=
  match kind.toNat with
  | 0 => .good .none
  | 1 =>
    match below 32 a.toNat with
    | some n => .good (.fireSalvo n)
    | none => .bad 1
  | 2 =>
    match below 16 a.toNat, asCommand b with
    | some p, some c => .good (.recorder p c)
    | none, _ => .bad 1
    | some _, none => .bad 2
  | 3 => .good .attention
  | _ => .bad 0

/-- The event catalogue (R157). -/
def isEvent (id : Byte) : Bool :=
  let n := id.toNat
  (decide (1 ≤ n) && decide (n ≤ 4)) || (decide (8 ≤ n) && decide (n ≤ 23)) ||
  (decide (32 ≤ n) && decide (n ≤ 47)) || (decide (64 ≤ n) && decide (n ≤ 95))

/-- The events comparators raise, 32-47 (R157, R158). -/
def isCmpEvent (id : Byte) : Bool := decide (32 ≤ id.toNat) && decide (id.toNat ≤ 47)

/-! ## Writing fields -/

def e1 (n : Nat) : List Byte := [BitVec.ofNat 8 n]
def e2 (n : Nat) : List Byte := bytes16 (BitVec.ofNat 16 n)
/-- Three bytes: the fewest that hold a start delay (R182). -/
def e3 (n : Nat) : List Byte := [BitVec.ofNat 8 (n / 65536), BitVec.ofNat 8 (n / 256), BitVec.ofNat 8 n]
def e4 (n : Nat) : List Byte := bytes32 (BitVec.ofNat 32 n)
def eTime (t : Time) : List Byte := bytes32 t
def eFlag (b : Bool) : List Byte := e1 (if b then 1 else 0)
/-- An optional item: a presence byte, then the value (R182). -/
def eOpt {α : Type} (f : α → List Byte) : Option α → List Byte
  | none => [0]
  | some x => 1 :: f x
/-- A table text, or the absent marker (R18, R19, R182). R16 says that an absent label is returned as "SRC nnn": DEDUCED
(log 30), R19 and R182 are followed. -/
def eText (t : Option Text) : List Byte := textBytes t
def eTag (t : Tag) : List Byte := [BitVec.ofNat 8 t.slot.val, t.gen]
/-- A current source; UNKNOWN is 0xFFFF (R182). -/
def eSource : Option Src → List Byte
  | some s => e2 s.val
  | none => [0xFF, 0xFF]

def statusCode : Status → Byte
  | .ok => 0 | .busy => 1 | .badKind => 2 | .badLength => 3 | .badField => 4 | .none => 5
  | .badDest => 16 | .badSource => 17 | .noPanel => 18 | .noOutput => 19 | .destFaulted => 20
  | .zoneDenied => 21 | .locked => 22 | .guarded => 23 | .condFailed => 24 | .poolFull => 25
  | .noTake => 26 | .tooLate => 27 | .notLearned => 28 | .domainClosed => 29
  | .salvoBusy => 32 | .noSalvo => 33 | .storeFull => 34 | .dupDest => 35 | .nothingToUndo => 36
  | .panelExists => 40 | .levelDenied => 41 | .notHolder => 42
  | .domainActive => 48 | .destActive => 49 | .markNotCleared => 50 | .walkBusy => 56
  | .badBinding => 64 | .destBound => 65 | .queueFull => 66 | .portOffline => 67

def roleCode : Role → Nat
  | .programme => 0 | .preview => 1 | .monitor => 2
def outputCode : OutputState → Nat
  | .unknown => 0 | .ready => 1 | .faulted => 2 | .offline => 3
def changeOriginCode : ChangeOrigin → Nat
  | .none => 0 | .own => 1 | .foreign => 2 | .learned => 3
def colourCode : Colour → Nat
  | .off => 0 | .red => 1 | .green => 2 | .amber => 3
/-- Codes 1-5; FREE is 0 and an ended take 6. -/
def takeStateCode : TakeState → Nat
  | .queued => 1 | .held => 2 | .issued => 3 | .retry => 4 | .done => 5
def outcomeCode : TakeOutcome → Nat
  | .completed => 1 | .superseded => 2 | .cancelled => 3 | .condFailed => 4
  | .expired => 5 | .flushed => 6 | .faulted => 7 | .unverified => 8
/-- A take origin: its code, then the panel, the comparator or 0 (R182). -/
def eOrigin : TakeOrigin → List Byte
  | .direct => [0, 0]
  | .panel n => 1 :: e1 n.val
  | .comparator k => 2 :: e1 k.val
  | .restore => [3, 0]
  | .repair => [4, 0]
  | .undo => [5, 0]
def groupModeCode : GroupMode → Nat
  | .all => 0 | .partialMode => 1
/-- A group: salvo or 255 for UNDO, serial, mode (R182). -/
def eGroup (g : Group) : List Byte :=
  (match g.salvo with
   | some n => e1 n.val
   | none => [255]) ++ bytes16 g.serial ++ e1 (groupModeCode g.mode)
def protectKindCode : ProtectKind → Nat
  | .lock => 0 | .protect => 1
def lockCode : LockState → Nat
  | .closed => 0 | .acquiring => 1 | .settling => 2 | .locked => 3 | .holdover => 4 | .absent => 5
def closeModeCode : CloseMode → Nat
  | .drain => 0 | .flush => 1
def seenCode : Seen → Nat
  | .standard c => c.val
  | .none => 8
  | .unrecognised => 9
def timecodeSourceCode : TimecodeSource → Nat
  | .request => 0 | .mark => 1
def markStatusCode : MarkStatus → Nat
  | .idle => 0 | .armedSingle => 1 | .doneSingle => 2 | .continuous => 3
def walkCode : Walk → Nat
  | .none => 0 | .learn => 1 | .verify => 2
def readbackKindCode : ReadbackKind → Nat
  | .priority => 0 | .walk => 1
def policyCode : VerifyPolicy → Nat
  | .report => 0 | .repair => 1
/-- A tile binding: its kind and its value. NONE has no value, and two bytes of 0 stand in its place:
DESIGN CHOICE (log 32). -/
def eBinding : Binding → List Byte
  | .none => 0 :: e2 0
  | .dest d => 1 :: e2 d.val
  | .source s => 2 :: e2 s.val
def wallStateCode : WallState → Nat
  | .down => 0 | .idle => 1 | .awaitAck => 2 | .stalled => 3
def markerCode : Marker → Nat
  | .none => 0 | .pending => 1 | .fault => 2
def guardPolicyCode : GuardPolicy → Nat
  | .hold => 0 | .split => 1 | .free => 2
def commandCode : RecorderCommand → Nat
  | .cue => 1 | .record => 2 | .stop => 3 | .mark => 4
def reportedCode : RecorderState → Nat
  | .unknown => 0 | .idle => 1 | .cued => 2 | .recording => 3 | .stopping => 4 | .fault => 5
def exchangeStateCode : ExchangeState → Nat
  | .ready => 0 | .busy => 1 | .guard => 2
def exchangeKindCode : ExchangeKind → Nat
  | .poll => 0
  | .command c => commandCode c
def commandResultCode : CommandResult → Nat
  | .refused => 0 | .accepted => 1 | .noReply => 2
/-- 0 ONLINE, 1 OFFLINE. -/
def onlineCode (online : Bool) : Nat := if online then 0 else 1
def cmpModeCode : CmpMode → Nat
  | .off => 0 | .once => 1 | .onChange => 2 | .every => 3
def cmpStateCode : CmpState → Nat
  | .off => 0 | .armed => 1 | .baseline => 2 | .tracking => 3
/-- An action: its kind and its two parameters (11.3). -/
def eAction : Action → List Byte
  | .none => [0, 0, 0]
  | .fireSalvo n => 1 :: (e1 n.val ++ [0])
  | .recorder p c => 2 :: (e1 p.val ++ e1 (commandCode c))
  | .attention => [3, 0, 0]

/-- A tile's content as an UPDATE entry carries it after the tile number (11.7): texts as composed. -/
def eContent : Content → List Byte
  | .blank => [0]
  | .dest caption label colour marker =>
    1 :: (eText (some caption) ++ eText (some label) ++ e1 (colourCode colour) ++ e1 (markerCode marker))
  | .source label colour => 2 :: (eText (some label) ++ e1 (colourCode colour))

/-! ## Replies -/

/-- A reply: its status and its tail (11.1). -/
structure Reply where
  status : Status
  tail : List Byte
  deriving DecidableEq, Repr

def Reply.ok (result : List Byte) : Reply := ⟨.ok, result⟩
/-- A refusal with no tail. -/
def Reply.refuse (code : Status) : Reply := ⟨code, []⟩
/-- BAD_FIELD with its field index (R182). -/
def Reply.badField (index : Nat) : Reply := ⟨.badField, e1 index⟩
/-- A refusal that names a destination, 2 bytes (11.1). -/
def Reply.naming (code : Status) (dest : Nat) : Reply := ⟨code, e2 dest⟩

/-- The reply's frame: kind 0x80, the request's tag, and a body of the request's kind, the status and the tail (11.1). -/
def Reply.frame (kind tag : Byte) (r : Reply) : TxFrame :=
  ⟨.reply, 0x80, tag, kind :: statusCode r.status :: r.tail⟩

end Sys2Proof.Machine
end

