-- ==== Sys2Proof/Machine/Flags.lean ====
section
/-! DEFINITION. The tally colour, the output state's transitions, and the attention summary. -/

namespace Sys2Proof.Machine

/-! ## Colour and counts -/

/-- The colour of a source from its counts (R14). -/
def SrcRec.colour (r : SrcRec) : Colour :=
  if 0 < r.programme then .red
  else if 0 < r.preview then .green
  else if 0 < r.record then .amber
  else .off

/-- What a destination of this role and recording condition adds to each count (R10): programme, preview, record. -/
def tallyShare (role : Role) (recording : Bool) : Nat × Nat × Nat :=
  (if role = .programme then 1 else 0, if role = .preview then 1 else 0, if recording then 1 else 0)

/-- The counts with one destination's share added (R11). -/
def SrcRec.enter (r : SrcRec) (share : Nat × Nat × Nat) : SrcRec :=
  { r with programme := r.programme + share.1, preview := r.preview + share.2.1, record := r.record + share.2.2 }

/-- The counts with one destination's share taken off (R11). -/
def SrcRec.leave (r : SrcRec) (share : Nat × Nat × Nat) : SrcRec :=
  { r with programme := r.programme - share.1, preview := r.preview - share.2.1, record := r.record - share.2.2 }

/-! ## Output state (R4) -/

/-- The events of R4's table. -/
inductive OutputEvent
  | report        -- own or foreign CONFIRM, or ANSWER carrying a source
  | noAnswer      -- ANSWER NO_CARD, or readback answer timeout
  | secondMiss    -- second deadline miss of a re-issued take
  | unverified    -- ABSENT timer expiry
  | clearFault    -- CLEAR FAULT accepted
  | restart       -- RESTART
  deriving DecidableEq, Repr

/-- R4's table. -/
def OutputState.after : OutputState → OutputEvent → OutputState
  | .faulted, .report => .faulted
  | _, .report => .ready
  | .faulted, .noAnswer => .faulted
  | _, .noAnswer => .offline
  | _, .secondMiss => .faulted
  | .faulted, .unverified => .faulted
  | _, .unverified => .unknown
  | .faulted, .clearFault => .unknown
  | o, .clearFault => o
  | .faulted, .restart => .unknown
  | o, .restart => o

/-! ## Attention flags (R176): a setting makes the flag pending with its detail, replacing any held -/

def State.flagDestFault (s : State) (d : Dest) (t : Tag) : State :=
  { s with flags := { s.flags with destFault := put s.flags.destFault d (some t) } }
def State.flagLockBreach (s : State) (d : Dest) (x : Src) (o : RestoreOutcome) : State :=
  { s with flags := { s.flags with lockBreach := put s.flags.lockBreach d (some (x, o)) } }
def State.flagDomain (s : State) (d : Dom) (l : LockState) (mismatch : Bool) : State :=
  { s with flags := { s.flags with domain := put s.flags.domain d (some (l, mismatch)) } }
def State.flagRecorder (s : State) (p : Port) (online : Bool) (r : RecorderState) : State :=
  { s with flags := { s.flags with recorder := put s.flags.recorder p (some (online, r)) } }
def State.flagWall (s : State) (w : Wall) (l : WallState) : State :=
  { s with flags := { s.flags with wall := put s.flags.wall w (some l) } }
def State.flagReleased (s : State) (d : Dest) (holder : Panel) (r : ReleaseReason) : State :=
  { s with flags := { s.flags with released := put s.flags.released d (some (holder, r)) } }
def State.flagComparator (s : State) (k : Cmp) (branch : Bool) (code : Status) : State :=
  { s with flags := { s.flags with comparator := put s.flags.comparator k (some (branch, code)) } }

/-- The lowest-numbered pending flag with its detail. -/
def firstPending {α : Type} {n : Nat} (v : Vector (Option α) n) : Option (Fin n × α) :=
  (entries v).findSome? (fun e => e.2.map (fun x => (e.1, x)))

/-- How many flags of a table are pending. -/
def countPending {α : Type} {n : Nat} (v : Vector (Option α) n) : Nat :=
  (v.toList.filter Option.isSome).length

/-- The number of pending instances: flags, discrepancy records and report slots (R176). -/
def State.instances (s : State) : Nat :=
  countPending s.flags.destFault + countPending s.flags.lockBreach + countPending s.flags.domain +
  countPending s.flags.recorder + countPending s.flags.wall + s.bus.discrepancies.length +
  countPending s.flags.released + countPending s.flags.comparator + s.pool.reports.length

/-- ATTN is high while at least one instance is pending (R176). -/
def State.attn (s : State) : Bool := decide (0 < s.instances)

/-- A tag-or-status field (11.6). -/
def eTagOrStatus : RestoreOutcome → List Byte
  | .alreadyPending t => eTag t
  | .admitted t _ => eTag t
  | .refused c => [0, statusCode c]
  | .notRequested => [0, 0]
  | .notNeeded => [0, 0]

def restoreCode : RestoreOutcome → Nat
  | .notRequested => 0 | .alreadyPending _ => 1 | .notNeeded => 2 | .refused _ => 3 | .admitted _ _ => 4

/-- LOCK BREACH detail (11.6). -/
def eLockBreach (d : Dest) (x : Src) (o : RestoreOutcome) : List Byte :=
  e1 d.val ++ e2 x.val ++ e1 (restoreCode o) ++ eTagOrStatus o ++
    eOpt eTag (match o with
      | .admitted _ superseded => superseded
      | _ => none)

/-- DISCREPANCY detail (11.6). -/
def eDiscrepancy (r : Discrepancy) : List Byte :=
  e1 r.dest.val ++ e2 r.tableSource.val ++ e2 r.cardSource.val ++ eTime r.foundAt ++ e1 (policyCode r.policy) ++
    (match r.repair with
     | .none => [0, 0, 0]
     | .refused c => [3, 0, statusCode c]
     | .admitted t => 4 :: eTag t)

/-- PROTECT RELEASED reason (11.6). -/
def reasonCode : ReleaseReason → Nat
  | .demotion => 0 | .withdrawal => 1 | .force => 2

/-- TAKE REPORT detail (11.6). -/
def eReport (e : EndedTake) : List Byte :=
  eTag e.tag ++ e1 e.dest.val ++ e2 e.source.val ++ e1 (outcomeCode e.outcome)

end Sys2Proof.Machine
end

