-- ==== Sys2Proof/Machine/Ops.lean ====
section
/-! DEFINITION. Named operations over the state's tables, the Crosspoint Table's handling of reports, and the slot
operations of the Take Pool. -/

namespace Sys2Proof.Machine

/-! ## Entries -/

namespace State

def dest (s : State) (d : Dest) : DestRec := look s.dests d
def setDest (s : State) (d : Dest) (r : DestRec) : State := { s with dests := put s.dests d r }
def src (s : State) (x : Src) : SrcRec := look s.srcs x
def setSrc (s : State) (x : Src) (r : SrcRec) : State := { s with srcs := put s.srcs x r }
def slot (s : State) (i : Slot) : SlotRec := look s.pool.slots i
def setSlot (s : State) (i : Slot) (r : SlotRec) : State :=
  { s with pool := { s.pool with slots := put s.pool.slots i r } }
/-- The frame queue of a domain, head first (R29). -/
def queue (s : State) (d : Dom) : List Slot := look s.pool.queues d
def setQueue (s : State) (d : Dom) (q : List Slot) : State :=
  { s with pool := { s.pool with queues := put s.pool.queues d q } }
def dom (s : State) (d : Dom) : DomRec := look s.domains d
def setDom (s : State) (d : Dom) (r : DomRec) : State := { s with domains := put s.domains d r }
def wall (s : State) (w : Wall) : WallRec := look s.walls w
def setWall (s : State) (w : Wall) (r : WallRec) : State := { s with walls := put s.walls w r }
def port (s : State) (p : Port) : PortRec := look s.ports p
def setPort (s : State) (p : Port) (r : PortRec) : State := { s with ports := put s.ports p r }
def gpi (s : State) (i : Gpi) : GpiRec := look s.gpis i
def setGpi (s : State) (i : Gpi) (r : GpiRec) : State := { s with gpis := put s.gpis i r }
def cmp (s : State) (k : Cmp) : CmpRec := look s.cmps k
def setCmp (s : State) (k : Cmp) (r : CmpRec) : State := { s with cmps := put s.cmps k r }

/-- A panel's level while it carries authority: panel 0 always at level 0, another while enrolled (R44). -/
def panelLevel (s : State) (p : Panel) : Option Level :=
  if p = 0 then some 0
  else
    let r := look s.registry.panels p
    if r.enrolled then some r.level else none

/-- The level of the panel a request's field names; none if the field is not 0 and not an enrolled panel. -/
def fieldLevel (s : State) (b : Nat) : Option (Panel × Level) :=
  match below 64 b with
  | some p => (s.panelLevel p).map (fun l => (p, l))
  | none => none

def zoneMin (s : State) (z : Zone) : Level := look s.registry.zoneMin z
def protectOf (s : State) (d : Dest) : Option Protect := look s.registry.protects d
def setProtect (s : State) (d : Dest) (p : Option Protect) : State :=
  { s with registry := { s.registry with protects := put s.registry.protects d p } }

/-- Hands an object to the Wall Link Controller as changed (R15, R24). -/
def hand (s : State) (h : Handed) : State := { s with handed := s.handed ++ [h] }

/-- A free choice among `n` ways: none is made where there is only one (log 2). -/
def choose (s : State) (n : Nat) : Nat × State :=
  if n ≤ 1 then (0, s) else (Config.freeChoice s.choices % n, { s with choices := s.choices + 1 })

/-! ## Recorder bindings -/

/-- The recorder port bound to a destination (R138). -/
def portOf (s : State) (d : Dest) : Option Port :=
  ((entries s.ports).find? (fun e => decide (e.2.dest = some d))).map (fun e => e.1)

/-- A destination is recording when it is bound to a port that reports RECORDING (R10, R138). -/
def recording (s : State) (d : Dest) : Bool :=
  match s.portOf d with
  | some p => decide ((s.port p).reported = .recording)
  | none => false

/-- The hold test (R30). -/
def holdTest (s : State) (d : Dest) : Bool :=
  match s.portOf d with
  | some p =>
    decide ((s.port p).policy = .hold) &&
      (decide ((s.port p).reported = .recording) || decide ((s.port p).reported = .unknown))
  | none => false

end State

/-! ## Admission types -/

/-- What checks 1 to 8 make of an admission: the destination, source and acting panel, or the first failure's code. -/
inductive Checked
  | pass (d : Dest) (x : Src) (p : Panel)
  | fail (code : Status)
  deriving DecidableEq, Repr

/-- The fields an admission fills (R25). -/
structure AdmitFields where
  dest : Dest
  source : Src
  origin : TakeOrigin
  panel : Panel
  group : Option Group
  condition : Option Src
  report : Bool
  deriving DecidableEq, Repr

/-- What the slot step answers. -/
structure Admitted where
  tag : Tag
  superseded : Option Tag
  deriving DecidableEq, Repr

/-! ## Takes of a destination -/

def TakeState.waiting : TakeState → Bool
  | .queued => true
  | .held => true
  | _ => false

def TakeState.outstanding : TakeState → Bool
  | .issued => true
  | .retry => true
  | _ => false

/-- QUEUED, HELD, ISSUED or RETRY. -/
def TakeState.active (t : TakeState) : Bool := t.waiting || t.outstanding

/-- The slot holds a take for which `p` holds. -/
def SlotRec.holds (r : SlotRec) (p : Take → Bool) : Bool :=
  match r.take with
  | some t => p t
  | none => false

namespace State

/-- The lowest slot whose take satisfies `p`. -/
def findTake (s : State) (p : Take → Bool) : Option Slot :=
  ((entries s.pool.slots).find? (fun e => e.2.holds p)).map (fun e => e.1)

/-- The destination's take in QUEUED or HELD. -/
def waitingOf (s : State) (d : Dest) : Option Slot :=
  s.findTake (fun t => decide (t.dest = d) && t.state.waiting)

/-- The destination's take in ISSUED or RETRY. -/
def outstandingOf (s : State) (d : Dest) : Option Slot :=
  s.findTake (fun t => decide (t.dest = d) && t.state.outstanding)

/-- The destination has a slot in QUEUED, HELD, ISSUED or RETRY. -/
def activeDest (s : State) (d : Dest) : Bool :=
  (s.findTake (fun t => decide (t.dest = d) && t.state.active)).isSome

/-- The domain of a take is its destination's (R20). -/
def takeDomain (s : State) (t : Take) : Dom := (s.dest t.dest).domain

/-- The domain has a slot in QUEUED, HELD, ISSUED or RETRY (R39). -/
def activeDomain (s : State) (d : Dom) : Bool :=
  (s.findTake (fun t => decide (s.takeDomain t = d) && t.state.active)).isSome

/-- The number of the domain's takes in a state (R92). -/
def countTakes (s : State) (d : Dom) (st : TakeState) : Nat :=
  (s.pool.slots.toList.filter (fun r => r.holds (fun t => decide (s.takeDomain t = d) && decide (t.state = st)))).length

/-- The lowest FREE slot (R21). -/
def freeSlot (s : State) : Option Slot :=
  ((entries s.pool.slots).find? (fun e => e.2.take.isNone)).map (fun e => e.1)

/-- The number of FREE slots (R66). -/
def freeSlots (s : State) : Nat := (s.pool.slots.toList.filter (fun r => r.take.isNone)).length

def tagOf (s : State) (i : Slot) : Tag := ⟨i, (s.slot i).gen⟩

/-! ## Crosspoint Table -/

/-- Hands the source over if its colour now differs from what it was in `before` (R14, R15). -/
def handRecoloured (s before : State) (x : Src) : State :=
  if (s.src x).colour = (before.src x).colour then s else s.hand (.source x)

/-- Moves the tally share of a destination from source `a` to source `b` (R11). -/
def moveShare (s : State) (a : Option Src) (b : Option Src) (share : Nat × Nat × Nat) : State :=
  let s1 := match a with
    | some x => s.setSrc x ((s.src x).leave share)
    | none => s
  match b with
  | some x => s1.setSrc x ((s1.src x).enter share)
  | none => s1

/-- Recomputes the colours of the sources named, against `before` (R14). -/
def recolour (s before : State) (a b : Option Src) : State :=
  let s1 := match a with
    | some x => s.handRecoloured before x
    | none => s
  match b with
  | some x => if b = a then s1 else s1.handRecoloured before x
  | none => s1

/-- R5: applies a report of source `x` for destination `d`. -/
def applyReport (s : State) (d : Dest) (x : Src) (origin : ChangeOrigin) : State :=
  let r := s.dest d
  let moved := decide (r.source ≠ some x)
  let out := r.output.after .report
  let changed := moved || decide (out ≠ r.output)
  let s1 := if moved then s.moveShare r.source (some x) (tallyShare r.role (s.recording d)) else s
  let s2 := s1.setDest d { r with
    source := some x, output := out,
    origin := if changed then origin else r.origin,
    stamp := if changed then s.now else r.stamp }
  let s3 := if changed then s2.hand (.dest d) else s2
  if moved then s3.recolour s r.source (some x) else s3

/-- R6: what an own confirm that completes a take does beyond R5. -/
def countCompletion (s : State) (d : Dest) : State :=
  let r := s.dest d
  s.setDest d { r with origin := .own, stamp := s.now, takeCount := r.takeCount + 1 }

/-- R4: an event with no source changes the output state alone; a change is handed over (R15). -/
def outputEvent (s : State) (d : Dest) (e : OutputEvent) : State :=
  let r := s.dest d
  let out := r.output.after e
  if out = r.output then s else (s.setDest d { r with output := out }).hand (.dest d)

/-- R7: a readback ended with NO_CARD or by timeout. -/
def applyNoAnswer (s : State) (d : Dest) : State :=
  let r := s.dest d
  let out := r.output.after .noAnswer
  if out = r.output then s
  else (s.setDest d { r with output := out, origin := .learned, stamp := s.now }).hand (.dest d)

/-- R13: the destination's recording condition has become `on`; its source's record count moves. -/
def recount (s : State) (d : Dest) (on : Bool) : State :=
  match (s.dest d).source with
  | none => s
  | some x =>
    let s1 := if on then s.moveShare none (some x) (0, 0, 1) else s.moveShare (some x) none (0, 0, 1)
    s1.recolour s (some x) none

/-- R12: SET DEST CONFIG changes the role; the counts of the current source move. -/
def changeRole (s : State) (d : Dest) (role : Role) : State :=
  let r := s.dest d
  let s1 := s.moveShare r.source none (tallyShare r.role false)
  let s2 := s1.moveShare none r.source (tallyShare role false)
  (s2.setDest d { r with role := role }).recolour s r.source none

/-! ## Slots -/

def setTake (s : State) (i : Slot) (t : Take) : State := s.setSlot i { s.slot i with take := some t }

/-- Hands the destination over if it has come to have no active slot (R24). -/
def handIfIdle (s : State) (d : Dest) : State := if s.activeDest d then s else s.hand (.dest d)

/-- Takes a slot off every list it may stand on: its domain's frame queue, the order of issue, its domain's retry list
and the ABSENT timers (R22, R102, R105). -/
def delist (s : State) (i : Slot) (d : Dom) : State :=
  { s with
    pool := { s.pool with
      queues := put s.pool.queues d ((s.queue d).filter (fun j => j ≠ i))
      issued := s.pool.issued.filter (fun j => j ≠ i) }
    bus := { s.bus with
      retry := put s.bus.retry d ((look s.bus.retry d).filter (fun t => t.slot ≠ i))
      absent := s.bus.absent.filter (fun e => e.1.slot ≠ i) } }

/-- The slot record of an ended take: freed at once, or DONE awaiting its report (R22). -/
def endedSlot (r : SlotRec) (i : Slot) (t : Take) (o : TakeOutcome) : SlotRec :=
  if t.report then { r with take := some { t with state := .done, outcome := some o } }
  else { gen := r.gen, take := none, previous := some ⟨⟨i, r.gen⟩, t.dest, t.source, o⟩ }

/-- R22: the take in slot `i` reaches DONE with outcome `o`. -/
def endTake (s : State) (i : Slot) (o : TakeOutcome) : State :=
  match (s.slot i).take with
  | none => s
  | some t =>
    let s1 := (s.delist i (s.takeDomain t)).setSlot i (endedSlot (s.slot i) i t o)
    let s2 := if t.report then { s1 with pool := { s1.pool with reports := s1.pool.reports ++ [i] } } else s1
    s2.handIfIdle t.dest

/-- Ends the takes of the slots listed, in order. -/
def endAll (s : State) (is : List Slot) (o : TakeOutcome) : State :=
  is.foldl (fun t i => t.endTake i o) s

/-- R30: applies the hold test to the waiting take of a destination; the take keeps its place. -/
def retestHold (s : State) (d : Dest) : State :=
  match s.waitingOf d with
  | none => s
  | some i =>
    match (s.slot i).take with
    | none => s
    | some t => s.setTake i { t with state := if s.holdTest d then .held else .queued }

/-! ## Admission (R25 to R28) -/

/-- Check 7 (R47). -/
def protectCheck (s : State) (d : Dest) (p : Panel) (l : Level) : Option Status :=
  match s.protectOf d with
  | none => none
  | some r =>
    if r.holder = p then none
    else
      match r.kind with
      | .lock => some .locked
      | .protect => if p ≠ 0 ∧ r.level < l then some .guarded else none

/-- Check 4: the output state is READY (R26). -/
def outputCheck (s : State) (d : Dest) : Option Status :=
  match (s.dest d).output with
  | .ready => none
  | .offline => some .noOutput
  | .faulted => some .destFaulted
  | .unknown => some .notLearned

/-- Check 5: the domain is not CLOSED and not closing. -/
def domainCheck (s : State) (d : Dest) : Option Status :=
  let r := s.dom (s.dest d).domain
  if r.lock = .closed ∨ r.closing.isSome then some .domainClosed else none

/-- Check 6: zone (R46). -/
def zoneCheck (s : State) (d : Dest) (p : Panel) (l : Level) : Option Status :=
  if p ≠ 0 ∧ s.zoneMin (s.dest d).zone < l then some .zoneDenied else none

/-- Check 8: condition. -/
def conditionCheck (s : State) (d : Dest) (c : Option Src) : Option Status :=
  match c with
  | none => none
  | some x => if (s.dest d).source = some x then none else some .condFailed

/-- Checks 1 to 8 of R26, in order, on field values. -/
def admissionChecks (s : State) (dest source panel : Nat) (condition : Option Src) : Checked :=
  match below 256 dest with
  | none => .fail .badDest
  | some d =>
    match below 512 source with
    | none => .fail .badSource
    | some x =>
      match s.fieldLevel panel with
      | none => .fail .noPanel
      | some (p, l) =>
        match (s.outputCheck d).or ((s.domainCheck d).or ((s.zoneCheck d p l).or
            ((s.protectCheck d p l).or (s.conditionCheck d condition)))) with
        | some code => .fail code
        | none => .pass d x p

/-- The take of an admission, before the hold test places it (R25). -/
def newTake (s : State) (q : AdmitFields) : Take where
  state := if s.holdTest q.dest then .held else .queued
  dest := q.dest
  source := q.source
  origin := q.origin
  panel := q.panel
  group := q.group
  condition := q.condition
  report := q.report
  admittedAt := s.now
  ageStart := s.now
  issuedAt := none
  reissued := false
  outcome := none

/-- Allocates slot `i` to a new take and appends it to its domain's queue (R21, R28). `previous` is the superseded take,
or none at a fresh allocation, which ends the naming of the slot's earlier take (R27, R42; log 11). -/
def allocate (s : State) (i : Slot) (q : AdmitFields) (previous : Option EndedTake) : State :=
  let d := (s.dest q.dest).domain
  let s1 := s.setSlot i ⟨(s.slot i).gen + 1, some (s.newTake q), previous⟩
  let s2 := s1.setQueue d (s1.queue d ++ [i])
  if s.activeDest q.dest then s2 else s2.hand (.dest q.dest)

/-- Check 9 and the slot step (R27, R28); none is POOL_FULL. -/
def admitTake (s : State) (q : AdmitFields) : Option (Admitted × State) :=
  match s.waitingOf q.dest with
  | some i =>
    match (s.slot i).take with
    | none => none
    | some t =>
      let old := s.tagOf i
      let s1 := (s.delist i (s.takeDomain t)).allocate i q (some ⟨old, t.dest, t.source, .superseded⟩)
      some (⟨⟨i, old.gen + 1⟩, some old⟩, s1)
  | none =>
    match s.freeSlot with
    | none => none
    | some i => some (⟨⟨i, (s.slot i).gen + 1⟩, none⟩, s.allocate i q none)

end State

end Sys2Proof.Machine
end

