-- ==== Sys2Proof/Machine/WallOps.lean ====
section
/-! DEFINITION. Tile content, marking, update queues and UPDATE frames (07_wall_links.md). -/

namespace Sys2Proof.Machine

/-- A number in three decimal digits (00_scope.md section 4, Text). -/
def digits3 (n : Nat) : Text :=
  [BitVec.ofNat 8 (48 + n / 100 % 10), BitVec.ofNat 8 (48 + n / 10 % 10), BitVec.ofNat 8 (48 + n % 10)]

/-- "SRC nnn". -/
def absentLabel (x : Src) : Text := [0x53, 0x52, 0x43, 0x20] ++ digits3 x.val
/-- "DST nnn". -/
def absentName (d : Dest) : Text := [0x44, 0x53, 0x54, 0x20] ++ digits3 d.val
/-- "----", the label of an UNKNOWN current source (R122). -/
def unknownLabel : Text := [0x2D, 0x2D, 0x2D, 0x2D]

/-- A tile's entry in an update queue is appended unless the tile is in it (R125). -/
def enqueueTiles (q marks : List Tile) : List Tile := q ++ marks.filter (fun t => !q.contains t)

/-- The tiles of a wall whose binding satisfies `p`, in ascending order. -/
def WallRec.tilesWhere (r : WallRec) (p : Binding → Bool) : List Tile :=
  ((entries r.tiles).filter (fun e => p e.2)).map (fun e => e.1)

namespace State

def shownLabel (s : State) (x : Src) : Text := (s.src x).label.getD (absentLabel x)

/-- Marker of a destination tile (R122). -/
def marker (s : State) (d : Dest) : Marker :=
  if s.activeDest d then .pending
  else if (s.dest d).output = .faulted ∨ (s.dest d).output = .offline then .fault
  else .none

/-- Content of a tile by its binding (R122, R123). -/
def compose (s : State) : Binding → Content
  | .none => .blank
  | .source x => .source (s.shownLabel x) (s.src x).colour
  | .dest d =>
    let caption := (s.dest d).name.getD (absentName d)
    match (s.dest d).source with
    | some x => .dest caption (s.shownLabel x) (s.src x).colour (s.marker d)
    | none => .dest caption unknownLabel .off (s.marker d)

/-- A tile of this binding is marked by the objects handed over (R124). -/
def marks (s : State) (handed : List Handed) : Binding → Bool
  | .none => false
  | .source x => handed.contains (.source x)
  | .dest d =>
    handed.contains (.dest d) ||
      (match (s.dest d).source with
       | some x => handed.contains (.source x)
       | none => false)

/-- R127: an IDLE link with queued entries sends an UPDATE of up to 8 tiles. -/
def sendUpdate (s : State) (w : Wall) : State :=
  let r := s.wall w
  if r.link = .idle ∧ r.queue ≠ [] then
    let tiles := r.queue.take Config.updateLimit
    let number := r.number + 1
    s.setWall w { r with
      queue := r.queue.drop Config.updateLimit
      number := number
      link := .awaitAck
      outstanding := some ⟨number, tiles, s.now⟩
      sent := some (number, tiles.map (fun t => (t, s.compose (look r.tiles t)))) }
  else s

/-- Appends to a wall's queue the tiles the handed objects mark, in ascending order (R124, R125). -/
def markWall (s : State) (handed : List Handed) (w : Wall) : State :=
  let r := s.wall w
  s.setWall w { r with queue := enqueueTiles r.queue (r.tilesWhere (s.marks handed)) }

/-- After an event: its marks are gathered and appended on every wall, and each IDLE link sends (R124, R127). -/
def settleWalls (s : State) : State :=
  if s.handed = [] then s
  else
    (List.finRange 8).foldl (fun t w => (t.markWall s.handed w).sendUpdate w) { s with handed := [] }

/-- R131: every bound tile of the wall is marked, in tile order. -/
def fullRefresh (s : State) (w : Wall) : State :=
  let r := s.wall w
  s.setWall w { r with queue := enqueueTiles r.queue (r.tilesWhere (fun b => decide (b ≠ .none))) }

end State

end Sys2Proof.Machine
end

