-- ==== Sys2Proof/Machine/PortOps.lean ====
section
/-! DEFINITION. Exchanges of a recorder port and the hand-offs of its reported state (08_recorder_ports.md). -/

namespace Sys2Proof.Machine

/-- R141: a READY port with something to send starts an exchange: the MARK slot, then the head command, then a poll. -/
def PortRec.start (r : PortRec) (now : Time) : PortRec :=
  if r.exchange = .ready then
    if r.markPending then
      { r with markPending := false, exchange := .busy
               inFlight := some ⟨.command .mark, true, now, r.pollTimeout⟩ }
    else
      match r.queue with
      | c :: rest =>
        { r with queue := rest, exchange := .busy
                 inFlight := some ⟨.command c, false, now, r.pollTimeout⟩ }
      | [] =>
        if r.pollPending then
          { r with pollPending := false, exchange := .busy, inFlight := some ⟨.poll, false, now, r.pollTimeout⟩ }
        else r
  else r

/-- R140: an issue on a recording SPLIT port sets the MARK slot. -/
def PortRec.setMark (r : PortRec) (now : Time) : PortRec := { r with markPending := true }.start now

/-- R142: a poll event reaches the port. -/
def PortRec.pollEvent (r : PortRec) (now : Time) : PortRec := { r with pollPending := true }.start now

/-- R155: a command joins the queue. -/
def PortRec.enqueue (r : PortRec) (now : Time) (c : RecorderCommand) : PortRec :=
  { r with queue := r.queue ++ [c] }.start now

/-- R143: the exchange is over; the port enters GUARD for the guard time in force, the one the record holds now, also where
BIND RECORDER has changed it since the exchange began: DEDUCED (log 35). -/
def PortRec.enterGuard (r : PortRec) (now : Time) : PortRec :=
  { r with inFlight := none, exchange := .guard, guardEnd := some (now + BitVec.ofNat 32 (r.guardTime * 1000)) }

/-- R152: a STATUS that makes the port RECORDING from another state uses the record stamp. -/
def PortRec.judgeStart (r : PortRec) (now : Time) (old : RecorderState) : PortRec :=
  if r.reported = .recording ∧ old ≠ .recording then
    match r.recordStamp with
    | some t => { r with startDelay := some (since now t / 1000), recordStamp := none }
    | none => r
  else r

namespace State

/-- R146: the hand-offs of a reported state that has changed from `old` to the state the port now holds. -/
def reportedChanged (s : State) (p : Port) (old : RecorderState) : State :=
  let r := s.port p
  if r.reported = old then s
  else
    match r.dest with
    | none => s
    | some d =>
      let s1 :=
        if decide (r.reported = .recording) = decide (old = .recording) then s
        else s.recount d (decide (r.reported = .recording))
      s1.retestHold d

/-- R155 from the OFFLINE test on: the status code, the position and the state. -/
def queueCommand (s : State) (p : Port) (c : RecorderCommand) : Status × Nat × State :=
  let r := s.port p
  if r.online = false then (.portOffline, 0, s)
  else if Config.commandLimit ≤ r.queue.length then (.queueFull, 0, s)
  else
    let position := if r.exchange = .ready then 0 else r.queue.length + 1
    (.ok, position, s.setPort p (r.enqueue s.now c))

end State

end Sys2Proof.Machine
end

