-- ==== Sys2Proof/Machine/DomainOps.lean ====
section
/-! DEFINITION. Lock states, stops, flushes and the completion of a closing, and what closes every event
(05_reference_domains_and_timecode.md). -/

namespace Sys2Proof.Machine

/-- A domain is switching in LOCKED and HOLDOVER (section 5.3). -/
def LockState.switching : LockState → Bool
  | .locked => true
  | .holdover => true
  | _ => false

/-- A take of domain `d` stopped at `now`: a waiting take's age starts again (R38, R81). -/
def SlotRec.stopAge (r : SlotRec) (now : Time) (inDomain : Take → Bool) : SlotRec :=
  match r.take with
  | some t => if t.state.waiting && inDomain t then { r with take := some { t with ageStart := now } } else r
  | none => r

namespace State

/-- A timecode below the frames per day of a domain's present standard. -/
def timecodeFits (s : State) (d : Dom) (v : Nat) : Bool :=
  decide (v < Config.framesPerDay (s.dom d).standard)

/-- The outstanding takes of a domain with no ABSENT timer (R105). -/
def untimed (s : State) (d : Dom) : List Slot :=
  ((entries s.pool.slots).filter (fun e =>
    e.2.holds (fun t => t.state.outstanding && decide (s.takeDomain t = d)) &&
      !(s.bus.absent.any (fun a => decide (a.1.slot = e.1))))).map (fun e => e.1)

/-- R81: a domain stops switching, or is opened. -/
def domainStop (s : State) (d : Dom) : State :=
  let s1 := s.setDom d { s.dom d with stopMoment := s.now }
  let s2 := { s1 with pool := { s1.pool with
    slots := mapTable (fun _ r => r.stopAge s.now (fun t => decide (s.takeDomain t = d))) s1.pool.slots } }
  { s2 with bus := { s2.bus with absent := s2.bus.absent ++ (s.untimed d).map (fun i => (s.tagOf i, s.now)) } }

/-- A change of lock state (R77, R80, R81): the counts of the old state become 0, a loss pending in it is forgotten
(log 29), the DOMAIN flag is set, and a stop is carried out when the domain leaves a switching state or is opened. -/
def setLock (s : State) (d : Dom) (l : LockState) : State :=
  let r := s.dom d
  let s1 := (s.setDom d { r with
    lock := l, settleProgress := 0, holdoverCount := 0, lossPending := false }).flagDomain d l false
  if (r.lock.switching && !l.switching) || (decide (r.lock = .closed) && decide (l = .acquiring)) then s1.domainStop d
  else s1

/-- R39: every waiting take of the domain ends FLUSHED, in queue order. -/
def flushDomain (s : State) (d : Dom) : State := s.endAll (s.queue d) .flushed

/-- The domain's queue holds HELD takes and no QUEUED take (R39). -/
def onlyHeld (s : State) (d : Dom) : Bool :=
  decide (s.queue d ≠ []) &&
    (s.queue d).all (fun i => (s.slot i).holds (fun t => decide (t.state = .held)))

/-- R90: a closing domain with no active slot becomes CLOSED. -/
def closeIfEmpty (s : State) (d : Dom) : State :=
  if s.activeDomain d then s
  else
    let s1 := s.setLock d .closed
    s1.setDom d { s1.dom d with closing := none }

/-- R39, R90: what the Domain Timers do on the Take Pool's two reports while the closing flag is set. -/
def serveClosing (s : State) (d : Dom) : State :=
  if (s.dom d).closing.isSome then
    (if s.onlyHeld d then s.flushDomain d else s).closeIfEmpty d
  else s

/-- The closing domains are served after an event of the pool (log 21). -/
def serveClosings (s : State) : State :=
  (((s.serveClosing 0).serveClosing 1).serveClosing 2).serveClosing 3

/-- What closes every event that reaches the pool or the table: closing domains, then the walls (log 15). -/
def settle (s : State) : State := s.serveClosings.settleWalls

end State

end Sys2Proof.Machine
end

