-- ==== Sys2Proof/Machine/FireOps.lean ====
section
/-! DEFINITION. Group admission: FIRE SALVO, a comparator's fire and UNDO (04_salvos_and_undo.md, R64 to R72). -/

namespace Sys2Proof.Machine

/-- Who fires a group and how (R25). -/
structure Firing where
  /-- The acting panel as a request's field or a configuration carries it. -/
  panel : Nat
  mode : GroupMode
  report : Bool
  origin : TakeOrigin
  salvo : Option Salvo
  deriving DecidableEq, Repr

/-- What a fire answers: a refusal, with the destination it names if it names one, or the items of R68. -/
inductive FireResult
  | refused (code : Status) (dest : Option Dest)
  | fired (serial : U16) (admitted superseded : Nat) (firstRefusal : Option (Status × Dest))
  deriving DecidableEq, Repr

/-- One entry with what checks 1 to 8 make of it. -/
structure Judged where
  dest : Dest
  source : Src
  failure : Option Status
  panel : Panel
  deriving DecidableEq, Repr

def Judged.passes (j : Judged) : Bool := j.failure.isNone

namespace State

/-- A salvo is BUSY while a take of its group is active (R61). -/
def salvoBusy (s : State) (n : Salvo) : Bool :=
  (s.findTake (fun t => t.state.active &&
    (match t.group with
     | some g => decide (g.salvo = some n)
     | none => false))).isSome

/-- R65: one entry by checks 1 to 8, with no condition. -/
def judge (s : State) (f : Firing) (e : Dest × Src) : Judged :=
  match s.admissionChecks e.1.val e.2.val f.panel none with
  | .pass _ _ p => ⟨e.1, e.2, none, p⟩
  | .fail code => ⟨e.1, e.2, some code, 0⟩

/-- The first entry that fails a check, in stored order. -/
def firstFailure (js : List Judged) : Option (Status × Dest) :=
  js.findSome? (fun j => j.failure.map (fun c => (c, j.dest)))

/-- The passing entries that need a fresh slot (R66). -/
def needFresh (s : State) (js : List Judged) : List Judged := js.filter (fun j => (s.waitingOf j.dest).isNone)

/-- R67: admits one passing entry. -/
def admitMember (f : Firing) (g : Group) (s : State) (j : Judged) : State :=
  match s.admitTake ⟨j.dest, j.source, f.origin, j.panel, some g, none, f.report⟩ with
  | some (_, s1) => s1
  | none => s

/-- R66, R67: pool accounting and admission of the passing entries. -/
def admitGroup (s : State) (f : Firing) (js : List Judged) (first : Option (Status × Dest)) : FireResult × State :=
  let fresh := s.needFresh js
  match fresh.drop s.freeSlots with
  | j :: _ => (.refused .poolFull (some j.dest), s)
  | [] =>
    let serial := s.store.serial + 1
    let s1 := { s with store := { s.store with serial := serial } }
    (.fired serial js.length (js.length - fresh.length) first,
      js.foldl (admitMember f ⟨f.salvo, serial, f.mode⟩) s1)

/-- R65: entries checked in stored order; ALL stops at the first failure, PARTIAL skips failing entries. -/
def fireEntries (s : State) (f : Firing) (content : List (Dest × Src)) : FireResult × State :=
  let js := content.map (s.judge f)
  match f.mode, firstFailure js with
  | .all, some (code, d) => (.refused code (some d), s)
  | _, first =>
    match js.filter Judged.passes, first with
    | [], some (code, d) => (.refused code (some d), s)
    | [], none => (.refused .noSalvo none, s)
    | passing, _ => s.admitGroup f passing first

/-- The pairs an undo record keeps: the destinations of the admitted entries with their sources at the fire (R70). -/
def undoPairs (s : State) (f : Firing) (content : List (Dest × Src)) : List (Dest × Src) :=
  ((content.map (s.judge f)).filter Judged.passes).filterMap (fun j =>
    (s.dest j.dest).source.map (fun x => (j.dest, x)))

/-- R69: a push onto a full stack drops the oldest record. -/
def pushUndo (s : State) (u : UndoRec) : State :=
  { s with store := { s.store with undo := (u :: s.store.undo).take Config.undoLimit } }

/-- R64 from the BUSY test on, with the undo record of R70. -/
def fireSalvo (s : State) (n : Salvo) (f : Firing) : FireResult × State :=
  if s.salvoBusy n then (.refused .salvoBusy none, s)
  else
    match look s.store.salvos n with
    | [] => (.refused .noSalvo none, s)
    | content =>
      match s.fireEntries f content with
      | (.fired a b c d, s1) => (.fired a b c d, s1.pushUndo ⟨n, s.undoPairs f content⟩)
      | refusal => refusal

end State

end Sys2Proof.Machine
end

