-- ==== Sys2Proof/Machine/WindowOps.lean ====
section
/-! DEFINITION. The issue window: deadlines, forced scrub, retries, take selection and scrub
(06_the_matrix_bus.md R96 to R104, 02_takes_and_the_frame_queues.md R32 to R35). -/

namespace Sys2Proof.Machine

/-- What a stage of a window leaves: the state, the writes granted so far and the budget that remains. -/
structure Grant where
  state : State
  writes : List BusWrite
  budget : Nat
  deriving DecidableEq, Repr

/-- A group's member of the ALL mode with this serial (R31). -/
def Take.inRun (t : Take) (serial : U16) : Bool :=
  match t.group with
  | some g => decide (g.serial = serial) && decide (g.mode = .all)
  | none => false

/-- The serial of the ALL group a take belongs to. -/
def Take.allSerial (t : Take) : Option U16 :=
  match t.group with
  | some g => if g.mode = .all then some g.serial else none
  | none => none

namespace State

/-! ## Deadlines -/

/-- R104: the destination of a re-issued take that missed its deadline is faulted. -/
def faultDest (s : State) (i : Slot) (d : Dest) : State :=
  let tag := s.tagOf i
  let s1 := s.endTake i .faulted
  let s2 := match s1.waitingOf d with
    | some j => s1.endTake j .faulted
    | none => s1
  (s2.outputEvent d .secondMiss).flagDestFault d tag

/-- R97: one take at its deadline becomes RETRY, or faults its destination. -/
def judgeDeadline (d : Dom) (s : State) (i : Slot) : State :=
  match (s.slot i).take with
  | none => s
  | some t =>
    if t.state = .issued ∧ s.takeDomain t = d ∧ t.issuedAt.map (fun n => n + 2) = some (s.dom d).number then
      if t.reissued then s.faultDest i t.dest
      else
        let s1 := s.setTake i { t with state := .retry }
        { s1 with bus := { s1.bus with retry := put s1.bus.retry d (look s1.bus.retry d ++ [s1.tagOf i]) } }
    else s

/-- R97: the deadlines of a domain's takes, in the order they were issued. -/
def judgeDeadlines (s : State) (d : Dom) : State := s.pool.issued.foldl (judgeDeadline d) s

/-- R105: the domain's next switch point removes the ABSENT timers of its takes. -/
def dropTimers (s : State) (d : Dom) : State :=
  { s with bus := { s.bus with absent := s.bus.absent.filter (fun a =>
      !((s.slot a.1.slot).holds (fun t => decide (s.takeDomain t = d)))) } }

/-! ## Scrub -/

/-- R101: eligible for scrub in a window of `d`. -/
def scrubEligible (s : State) (d : Dom) (x : Dest) : Bool :=
  let r := s.dest x
  decide (r.output = .ready) && decide (r.domain = d) && r.source.isSome && !s.activeDest x

/-- The eligible destinations not in `written`, in the order the domain's cursor meets them (R101). The ordinary scrub goes
round once more from the cursor as the forced scrub left it, and so may write a destination that the forced search passed
as ineligible and that a COND_FAILED of the same window has made eligible: DEDUCED from R100's E (log 39). -/
def scrubOrder (s : State) (d : Dom) (written : List Dest) : List Dest :=
  let c := (look s.bus.cursor d).val
  ((List.finRange 256).drop c ++ (List.finRange 256).take c).filter
    (fun x => s.scrubEligible d x && !written.contains x)

/-- A scrub write carries the current source (R101). -/
def scrubWrite (s : State) (x : Dest) : Option BusWrite := (s.dest x).source.map (fun y => ⟨x, y⟩)

/-- After each destination written the cursor becomes its number plus one (R101). -/
def moveCursor (s : State) (d : Dom) (written : List Dest) : State :=
  match written.getLast? with
  | some x => { s with bus := { s.bus with cursor := put s.bus.cursor d (x + 1) } }
  | none => s

def setDebt (s : State) (d : Dom) (n : Nat) : State := { s with bus := { s.bus with debt := put s.bus.debt d n } }

/-- The destinations of the forced scrub (R98). -/
def forcedDests (s : State) (d : Dom) : List Dest :=
  if look s.bus.debt d = Config.debtLimit then (s.scrubOrder d []).take Config.forcedScrub else []

/-- R98: the forced scrub of a window that opens with debt 8. -/
def forcedScrub (s : State) (d : Dom) : Grant :=
  let forced := s.forcedDests d
  let s1 := s.moveCursor d forced
  let s2 := if look s.bus.debt d = Config.debtLimit then s1.setDebt d 0 else s1
  ⟨s2, forced.filterMap s.scrubWrite, Config.issueBudget - forced.length⟩

/-- R100: the scrub debt after a window, from the debt before, the eligible count and the writes granted. -/
def debtAfter (debt eligible granted : Nat) : Nat :=
  if eligible = 0 then debt
  else if min 2 eligible ≤ granted then
    if 2 ≤ granted then debt - (granted - 2) / 2 else debt
  else debt + 1

/-- R100: the ordinary scrub with the budget handed back. -/
def ordinaryScrub (g : Grant) (d : Dom) (forced : List Dest) : Grant :=
  let s := g.state
  let debt := look s.bus.debt d
  let order := s.scrubOrder d forced
  let granted := min g.budget (min (2 + 2 * debt) order.length)
  let chosen := order.take granted
  ⟨(s.moveCursor d chosen).setDebt d (debtAfter debt order.length granted),
    g.writes ++ chosen.filterMap s.scrubWrite, g.budget - granted⟩

/-! ## Retries -/

/-- R99, R36: a RETRY take is re-issued. -/
def reissue (n : U32) (s : State) (tag : Tag) : State :=
  match (s.slot tag.slot).take with
  | some t => s.setTake tag.slot { t with state := .issued, reissued := true, issuedAt := some n }
  | none => s

/-- The WRITE of the take a slot holds. -/
def takeWrite (s : State) (i : Slot) : Option BusWrite := (s.slot i).take.map (fun t => ⟨t.dest, t.source⟩)

/-- R99: re-issues from the head of the retry list while budget remains. -/
def grantRetries (g : Grant) (d : Dom) : Grant :=
  let s := g.state
  let list := look s.bus.retry d
  let now := list.take g.budget
  let s1 := now.foldl (reissue (s.dom d).number) s
  ⟨{ s1 with bus := { s1.bus with retry := put s1.bus.retry d (list.drop g.budget) } },
    g.writes ++ now.filterMap (fun t => s.takeWrite t.slot), g.budget - now.length⟩

/-! ## Selection -/

/-- R35: the issue of the take in slot `i`. A recording SPLIT port gets a MARK (R140). -/
def issue (d : Dom) (s : State) (i : Slot) : State :=
  match (s.slot i).take with
  | none => s
  | some t =>
    let s1 := s.setTake i { t with state := .issued, issuedAt := some (s.dom d).number }
    let s2 := { s1 with pool := { s1.pool with
      queues := put s1.pool.queues d ((s1.queue d).filter (fun j => j ≠ i))
      issued := s1.pool.issued ++ [i] } }
    match s2.portOf t.dest with
    | some p =>
      if (s2.port p).policy = .split ∧ (s2.port p).reported = .recording then
        s2.setPort p ((s2.port p).setMark s2.now)
      else s2
    | none => s2

/-- Issues the slots listed, in order (R35). -/
def issueAll (d : Dom) (g : Grant) (is : List Slot) : Grant :=
  ⟨is.foldl (issue d) g.state, g.writes ++ is.filterMap g.state.takeWrite, g.budget - is.length⟩

/-- The hold test is applied again when the walk reaches a take (R30, R32). -/
def retestSlot (s : State) (i : Slot) : State :=
  match (s.slot i).take with
  | some t => if t.state.waiting then s.setTake i { t with state := if s.holdTest t.dest then .held else .queued } else s
  | none => s

/-- R32: held, or blocked by an outstanding take of the destination. -/
def passedOver (s : State) (i : Slot) : Bool :=
  (s.slot i).holds (fun t => decide (t.state = .held) || (s.outstandingOf t.dest).isSome)

/-- R33: the take's condition differs from the destination's current source. -/
def conditionFails (s : State) (i : Slot) : Bool :=
  (s.slot i).holds (fun t => (s.conditionCheck t.dest t.condition).isSome)

/-- R33: an entry treated by itself. -/
def walkSingle (d : Dom) (g : Grant) (i : Slot) : Grant :=
  let s := g.state.retestSlot i
  if s.passedOver i then { g with state := s }
  else if s.conditionFails i then { g with state := s.endTake i .condFailed }
  else issueAll d { g with state := s } [i]

/-- R34: a run of an ALL group; the flag says that the walk goes on. -/
def walkRun (d : Dom) (g : Grant) (run : List Slot) : Grant × Bool :=
  let s := run.foldl retestSlot g.state
  if run.any s.passedOver then ({ g with state := s }, true)
  else if run.any s.conditionFails then ({ g with state := s.endAll run .condFailed }, true)
  else if run.length ≤ g.budget then (issueAll d { g with state := s } run, true)
  else if Config.issueBudget < run.length then (issueAll d { g with state := s } (run.take g.budget), false)
  else ({ g with state := s }, false)

/-- The contiguous run of the ALL group that the head of a queue belongs to, if it belongs to one (R31). -/
def runOf (s : State) (i : Slot) (rest : List Slot) : Option (List Slot) :=
  match (s.slot i).take with
  | none => none
  | some t =>
    match t.allSerial with
    | none => none
    | some serial => some (i :: rest.takeWhile (fun j => (s.slot j).holds (fun u => u.inRun serial)))

/-- The selection walk over the entries not yet reached (R33, R34); the first argument bounds the entries. -/
def walk (d : Dom) : Nat → Grant → List Slot → Grant
  | 0, g, _ => g
  | _ + 1, g, [] => g
  | fuel + 1, g, i :: rest =>
    if g.budget = 0 then g
    else
      match g.state.runOf i rest with
      | none => walk d fuel (walkSingle d g i) rest
      | some run =>
        match walkRun d g run with
        | (g1, true) => walk d fuel g1 (rest.drop (run.length - 1))
        | (g1, false) => g1

/-- R33: the walk of a domain's queue, over the takes admitted before the switch point (R82). -/
def selectTakes (g : Grant) (d : Dom) (before : List Tag) : Grant :=
  let q := (g.state.queue d).filter (fun i => before.contains (g.state.tagOf i))
  walk d q.length g q

/-! ## The window -/

/-- The tags on a domain's queue: the takes its next window may select. -/
def queueTags (s : State) (d : Dom) : List Tag := (s.queue d).map s.tagOf

/-- R96: the issue window of domain `d` at its present switch point. Its transfer is sent after those granted before it
(log 17). -/
def issueWindow (s : State) (d : Dom) (before : List Tag) : State :=
  let s1 := (s.dropTimers d).judgeDeadlines d
  let g := ordinaryScrub (selectTakes (grantRetries (s1.forcedScrub d) d) d before) d (s1.forcedDests d)
  if g.writes = [] then g.state
  else { g.state with bus := { g.state.bus with transfers := g.state.bus.transfers ++ [g.writes] } }

end State

end Sys2Proof.Machine
end

