-- ==== Sys2Proof/Machine/EventOps.lean ====
section
/-! DEFINITION. Events and their delivery, comparators, marks, polls, switch points, GPI edges and the lock-state machine
(09_events_gpi_and_cue_comparators.md, 05_reference_domains_and_timecode.md). -/

namespace Sys2Proof.Machine

/-- A separate arrival at one consumer (R159, R165), or the issue window of a switch point (R82). -/
inductive Arrival
  | window (d : Dom) (before : List Tag)
  | trigger (k : Cmp)
  | poll (p : Port)
  | mark (d : Dom)
  | action (k : Cmp) (branch : Bool) (a : Action)
  deriving DecidableEq, Repr

/-- How many arrivals handling one can take, itself included: a comparator may raise an event with 16 polls and 4 marks
bound to it and hand over one action (R159). -/
def Arrival.weight : Arrival → Nat
  | .trigger _ => 22
  | _ => 1

/-! ## Event numbers (R157) -/

def switchPointEvent (d : Dom) : Byte := BitVec.ofNat 8 (1 + d.val)
def gpiEvent (i : Gpi) (high : Bool) : Byte := BitVec.ofNat 8 ((if high then 8 else 16) + i.val)
def cmpEvent (k : Cmp) (branch : Bool) : Byte := BitVec.ofNat 8 ((if branch then 32 else 40) + k.val)
def pollDoneEvent (p : Port) : Byte := BitVec.ofNat 8 (64 + p.val)
def portReadyEvent (p : Port) : Byte := BitVec.ofNat 8 (80 + p.val)

/-- The consumers of a table whose binding holds an event. -/
def boundTo {n : Nat} (v : Vector Byte n) (id : Byte) : List (Fin n) :=
  ((entries v).filter (fun e => decide (e.2 = id))).map (fun e => e.1)

/-- R163: the result of a comparator on a timecode, under a standard. -/
def CmpRec.evaluate (r : CmpRec) (standard : Fin 8) (timecode : Nat) : Bool :=
  let n := Config.framesPerDay standard
  let difference := (timecode + n - r.origin % n) % n
  let d := if r.period = 0 then difference else difference % r.period
  if r.strict then decide (d < r.margin % n) else decide (d ≤ r.margin % n)

/-- R85: the bound event reaches a domain's mark. -/
def DomRec.takeMark (r : DomRec) : DomRec :=
  let taken := { r with markCounter := r.markCounter + 1, pendingTimecode := some (r.markPreset, .mark) }
  match r.markStatus with
  | .armedSingle => { taken with markStatus := .doneSingle }
  | .continuous => taken
  | .doneSingle => r
  | .idle => r

/-- R82: number and timecode at a switch point. -/
def DomRec.advance (r : DomRec) : DomRec :=
  let n := Config.framesPerDay r.standard
  match r.pendingTimecode with
  | some (v, _) => { r with number := r.number + 1, timecode := v % n, pendingTimecode := none }
  | none => { r with number := r.number + 1, timecode := (r.timecode + 1) % n }

namespace State

/-- The polls and marks bound to an event. -/
def pollsAndMarks (s : State) (id : Byte) : List Arrival :=
  (boundTo s.router.poll id).map .poll ++ (boundTo s.router.mark id).map .mark

/-- R159: the arrivals of an event that is not a comparator outcome. -/
def arrivals (s : State) (id : Byte) : List Arrival :=
  (boundTo s.router.trigger id).map .trigger ++ s.pollsAndMarks id

/-! ## Comparators -/

/-- R165: a branch is forwarded: the latch, the comparator's event, and its action. A comparator outcome reaches no
comparator (R158; log 22). -/
def forward (s : State) (k : Cmp) (branch : Bool) (timecode : Nat) : State × List Arrival :=
  let r := s.cmp k
  let latch := some (timecode, s.now)
  let s1 := s.setCmp k (if branch then { r with trueLatch := latch } else { r with falseLatch := latch })
  let a := if branch then r.onTrue else r.onFalse
  (s1, s1.pollsAndMarks (cmpEvent k branch) ++ (if a = .none then [] else [.action k branch a]))

/-- R164: the trigger reaches a comparator. -/
def trigger (s : State) (k : Cmp) : State × List Arrival :=
  let r := s.cmp k
  let d := s.dom r.domain
  let result := r.evaluate d.standard d.timecode
  match r.state with
  | .off => (s, [])
  | .armed =>
    if r.mode = .once then
      if result then (s.setCmp k { r with lastResult := some result, state := .off }).forward k true d.timecode
      else (s.setCmp k { r with lastResult := some result }, [])
    else (s.setCmp k { r with lastResult := some result }).forward k result d.timecode
  | .baseline => (s.setCmp k { r with lastResult := some result, state := .tracking }, [])
  | .tracking =>
    if r.lastResult = some result then (s, [])
    else (s.setCmp k { r with lastResult := some result }).forward k result d.timecode

/-- The status code a fire hands its comparator (R68, R166). -/
def FireResult.code : FireResult → Status
  | .refused code _ => code
  | .fired .. => .ok

/-- R166: the block that owns an action carries it out and answers a status code. -/
def carryOut (s : State) (k : Cmp) : Action → Status × State
  | .none => (.ok, s)
  | .attention => (.ok, s)
  | .fireSalvo n =>
    let (result, s1) := s.fireSalvo n ⟨(s.cmp k).panel.val, .partialMode, false, .comparator k, some n⟩
    (FireResult.code result, s1)
  | .recorder p c =>
    let (code, _, s1) := s.queueCommand p c
    (code, s1)

/-- R166: the action's result is recorded and may set the COMPARATOR flag. -/
def runAction (s : State) (k : Cmp) (branch : Bool) (a : Action) : State :=
  let (code, s1) := s.carryOut k a
  let s2 := s1.setCmp k { s1.cmp k with lastAction := some ⟨branch, a, code, s1.now⟩ }
  if code ≠ .ok ∨ a = .attention then s2.flagComparator k branch code else s2

/-! ## Delivery -/

/-- One arrival is applied whole; it may raise further arrivals. -/
def arrive (s : State) : Arrival → State × List Arrival
  | .window d before => (s.issueWindow d before, [])
  | .trigger k => s.trigger k
  | .poll p => (s.setPort p ((s.port p).pollEvent s.now), [])
  | .mark d => (s.setDom d (s.dom d).takeMark, [])
  | .action k branch a => (s.runAction k branch a, [])

/-- The arrivals outstanding are applied one by one, in an order that is a free choice (R82, R159, R165; log 2). Each is
an event of its own, closed by `settle`; no command falls between them (log 38). -/
def runArrivals : Nat → List Arrival → State → State
  | 0, _, s => s
  | _ + 1, [], s => s
  | fuel + 1, a :: rest, s =>
    let (i, s1) := s.choose (rest.length + 1)
    let chosen := (a :: rest).getD i a
    let (s2, more) := s1.arrive chosen
    runArrivals fuel ((a :: rest).eraseIdx i ++ more) s2.settle

/-- Runs arrivals to the last. -/
def deliver (s : State) (as : List Arrival) : State := runArrivals (as.map Arrival.weight).sum as s

/-- An event is raised and delivered to its consumers (R159). -/
def raise (s : State) (id : Byte) : State := s.deliver (s.arrivals id)

/-! ## Switch points -/

/-- R82: a switch point of domain `d`. The number and timecode change first; the window and the deliveries of
SWITCH POINT(d) have no order between them. -/
def switchPoint (s : State) (d : Dom) : State :=
  let s1 := s.setDom d (s.dom d).advance
  s1.deliver (.window d (s1.queueTags d) :: s1.arrivals (switchPointEvent d))

/-! ## GPI -/

/-- R160: the input's level becomes `high`; the edge is raised. -/
def takeLevel (s : State) (i : Gpi) (high : Bool) : State :=
  (s.setGpi i { s.gpi i with level := high, candidate := none }).raise (gpiEvent i high)

/-- R160: the candidate of an input has been held for the debounce time. -/
def candidateDue (s : State) (i : Gpi) : Option Bool :=
  match (s.gpi i).candidate with
  | some (high, t) => if (s.gpi i).debounce * 1000 ≤ since s.now t then some high else none
  | none => none

/-! ## Reference monitor and lock-state machine -/

/-- The codes whose period lies within 8 µs of a spacing (R76). -/
def matching (spacing : Nat) : List (Fin 8) :=
  (List.finRange 8).filter (fun c =>
    decide (spacing ≤ Config.framePeriod c + Config.spacingTolerance) &&
      decide (Config.framePeriod c ≤ spacing + Config.spacingTolerance))

/-- The judgement of a spacing measured while NONE is judged (R76); where two codes match, which one is a free choice
(log 9). -/
def judgeSpacing (s : State) (spacing : Nat) : Seen × State :=
  match matching spacing with
  | [] => (.unrecognised, s)
  | c :: rest =>
    let (i, s1) := s.choose (rest.length + 1)
    (.standard ((c :: rest).getD i c), s1)

/-- The seen period: a standard's own, or the last spacing measured. R76 says so of UNRECOGNISED for the timeout; that a
departure is judged against the last spacing too is DEDUCED (log 37). -/
def seenPeriod (r : DomRec) : Nat :=
  match r.seen with
  | .standard c => Config.framePeriod c
  | .unrecognised => r.lastSpacing.toNat
  | .none => 0

/-- A spacing departs from the seen period by more than 8 µs (R76). -/
def departs (r : DomRec) (spacing : Nat) : Bool :=
  decide (seenPeriod r + Config.spacingTolerance < spacing) ||
    decide (spacing + Config.spacingTolerance < seenPeriod r)

/-- R77: a loss reaches the lock-state machine. -/
def lockLoss (s : State) (d : Dom) : State :=
  match (s.dom d).lock with
  | .settling => s.setLock d .acquiring
  | .locked => if (s.dom d).holdoverLimit = 0 then s.setLock d .absent else s.setLock d .holdover
  | _ => s

/-- The monitor judges NONE; `last` is the frame start that counts as the first of a new pair, if one does (log 8). A judgement
that waits since OPEN DOMAIN (R77) is dropped with it: DESIGN CHOICE (log 34). -/
def forgetReference (s : State) (d : Dom) (last : Option Time) : State :=
  s.setDom d { s.dom d with seen := .none, lastStart := last, openDetection := false }

/-- R76, R77: a loss that is judged at this moment. -/
def loseReference (s : State) (d : Dom) (last : Option Time) : State := (s.forgetReference d last).lockLoss d

/-- R79: the timer frame start at which a departure of this moment shows is still to come: the domain is LOCKED and its
timer's last frame start lies more than 64 µs back (log 29). -/
def lossAwaited (s : State) (d : Dom) : Bool :=
  decide ((s.dom d).lock = .locked) && decide (Config.phaseTolerance < since s.now (s.dom d).timerAt)

/-- R76, R79: a frame start departs from the seen period. It counts as the first of a new pair; a LOCKED domain stays
LOCKED until the timer frame start where the loss shows. -/
def departure (s : State) (d : Dom) : State :=
  let s1 := s.forgetReference d (some s.now)
  if s.lossAwaited d then s1.setDom d { s1.dom d with lossPending := true } else s1.lockLoss d

/-- The distance on from the frame timer's last frame start, and whether a frame start of the timer lies within 64 µs
(R79; log 10). -/
def inPhase (s : State) (d : Dom) : Bool :=
  let r := s.dom d
  let p := Config.framePeriod r.standard
  let e := since s.now r.timerAt % p
  decide (e ≤ Config.phaseTolerance) || decide (p - e ≤ Config.phaseTolerance)

/-- The timer is placed in phase with a frame start at this moment (R78, R79). -/
def placeTimer (s : State) (d : Dom) : State := s.setDom d { s.dom d with timerAt := s.now }

/-- R79: HOLDOVER returns IN PHASE. The frame start is one switch point, not two: none is made where the timer's own
frame start has just been one. -/
def returnInPhase (s : State) (d : Dom) : State :=
  let taken := decide (since s.now (s.dom d).timerAt ≤ Config.phaseTolerance)
  let s1 := (s.setLock d .locked).placeTimer d
  if taken then s1 else s1.switchPoint d

/-- R77: a detection reaches the lock-state machine. -/
def detect (s : State) (d : Dom) : State :=
  let r := s.dom d
  let configured := decide (r.seen = .standard r.standard)
  match r.lock with
  | .acquiring => if configured then s.setLock d .settling else s.flagDomain d r.lock true
  | .absent => if configured then s.setLock d .settling else s.flagDomain d r.lock true
  | .holdover =>
    if configured then
      if s.inPhase d then s.returnInPhase d else s.setLock d .settling
    else s.flagDomain d r.lock true
  | _ => s

/-- R77, R78: a reference frame start reaches a domain in SETTLING. -/
def settleFrame (s : State) (d : Dom) : State :=
  let r := s.dom d
  if r.lock = .settling then
    if r.settleCount ≤ r.settleProgress + 1 then ((s.setLock d .locked).placeTimer d).switchPoint d
    else s.setDom d { r with settleProgress := r.settleProgress + 1 }
  else s

/-- R76, R77: a reference frame start of domain `d`. -/
def referenceStart (s : State) (d : Dom) : State :=
  let r := s.dom d
  match r.seen, r.lastStart with
  | .none, none => s.setDom d { r with lastStart := some s.now }
  | .none, some t =>
    let (seen, s1) := s.judgeSpacing (since s.now t)
    (s1.setDom d { s1.dom d with seen := seen, lastStart := some s.now, lastSpacing := s.now - t }).detect d
  | _, none => s.setDom d { r with lastStart := some s.now }
  | _, some t =>
    if departs r (since s.now t) then s.departure d
    else
      let s1 := s.setDom d { r with lastStart := some s.now, lastSpacing := s.now - t, openDetection := false }
      if r.openDetection then s1.detect d else s1.settleFrame d

/-- R76: one and a half periods of the seen standard have passed with no frame start. -/
def lossDue (s : State) (d : Dom) : Bool :=
  let r := s.dom d
  match r.seen, r.lastStart with
  | .none, _ => false
  | _, some t => decide (3 * seenPeriod r ≤ 2 * since s.now t)
  | _, none => false

/-- A reference frame start has come within the last 64 µs (R76). -/
def referenceNear (s : State) (d : Dom) : Bool :=
  match (s.dom d).lastStart with
  | some t => decide (since s.now t ≤ Config.phaseTolerance)
  | none => false

/-- R79: a frame start of the timer in HOLDOVER. At the one that brings the count to the limit the domain becomes ABSENT at
once, whether or not a reference frame start follows within 64 µs: DEDUCED (log 36). -/
def holdoverFrame (s : State) (d : Dom) : State :=
  let r := s.dom d
  let s1 := s.setDom d { r with
    timerAt := r.timerAt + BitVec.ofNat 32 (Config.framePeriod r.standard), holdoverCount := r.holdoverCount + 1 }
  if r.holdoverLimit ≤ r.holdoverCount + 1 then s1.setLock d .absent else s1.switchPoint d

/-- R79: the frame timer of a domain in HOLDOVER reaches its next frame start. -/
def holdoverDue (s : State) (d : Dom) : Bool :=
  decide ((s.dom d).lock = .holdover) &&
    decide (Config.framePeriod (s.dom d).standard ≤ since s.now (s.dom d).timerAt)

/-- R76, R79: a frame start of the timer in LOCKED is a switch point; then a pending loss is judged (log 29), and with no
reference frame start within 64 µs it is a loss (log 7). -/
def lockedFrame (s : State) (d : Dom) (refFollows : Bool) : State :=
  let r := s.dom d
  let near := refFollows || s.referenceNear d
  let s1 := (s.placeTimer d).switchPoint d
  if r.lossPending && (near || decide (r.seen = .none)) then s1.lockLoss d
  else if near then s1
  else s1.loseReference d none

end State

end Sys2Proof.Machine
end

