-- ==== Sys2Proof/Machine/LinkOps.lean ====
section
/-! DEFINITION. The transmit order, the request queue and the execution of one request (R172 to R175). -/

namespace Sys2Proof.Machine

/-- BUSY replies and REJECT frames (R175). -/
def FrameSort.immediate : FrameSort → Bool
  | .busyReply => true
  | .reject => true
  | _ => false

namespace State

/-- The transmit order holds a reply of an executed request (R174). -/
def replyHeld (s : State) : Bool := s.link.transmit.any (fun f => decide (f.sort = .reply))

/-- The immediate frames the transmit order holds (R175). -/
def immediates (s : State) : Nat := (s.link.transmit.filter (fun f => f.sort.immediate)).length

/-- A frame joins the tail of the transmit order (R175). -/
def send (s : State) (f : TxFrame) : State := { s with link := { s.link with transmit := s.link.transmit ++ [f] } }

/-- An immediate frame is made unless it would be a ninth (R175). -/
def sendImmediate (s : State) (f : TxFrame) : State := if s.immediates < Config.immediateLimit then s.send f else s

/-- A REJECT frame (R172); its reason is 1 CRC, 2 LENGTH or 3 TRUNCATED (11.1). -/
def reject (s : State) (reason : Nat) : State := s.sendImmediate ⟨.reject, 0xF1, 0, e1 reason⟩

/-- A completed frame joins the request queue, or is answered BUSY, or is dropped (R173). -/
def joinQueue (s : State) (f : ReqFrame) : State :=
  if s.link.queue.length < Config.requestLimit then { s with link := { s.link with queue := s.link.queue ++ [f] } }
  else s.sendImmediate ⟨.busyReply, 0x80, f.tag, [f.kind, statusCode .busy]⟩

/-- A request that arrives now is executed at once: the queue is empty and no reply is held (R174). -/
def linkFree (s : State) : Bool := s.link.queue.isEmpty && !s.replyHeld

/-- Execution of one request: the owning block's effect, and its reply in the transmit order (R174). -/
def answerRequest (s : State) (f : ReqFrame) (effect : State → Reply × State) : State :=
  (effect s).2.send ((effect s).1.frame f.kind f.tag)

end State

/-- A request command: its whole frame has been received (log 4). It is executed at once where R174 lets it be, else it
joins the queue (R173). -/
def requestArrives (c : Instr) (effect : State → Reply × State) (s : State) : Host.Outcome State Fault Refusal :=
  match encodeRequest c with
  | none => .refused .illFormed
  | some f =>
    if wellFormed c then .next (if s.linkFree then s.answerRequest f effect else s.joinQueue f)
    else .refused .illFormed

end Sys2Proof.Machine
end

