-- ==== Sys2Proof/Machine/Panels.lean ====
section
/-! DEFINITION. Panels, zones and protect records (03_panels_zones_and_protects.md R44 to R57). -/

namespace Sys2Proof.Machine

/-- A panel ID of 1-63; 0 or above 63 is none (R45, R52, R53). -/
def asPanelId (b : Byte) : Option Panel := if b = 0 then none else below 64 b.toNat

namespace State

def panelRec (s : State) (p : Panel) : PanelRec := look s.registry.panels p
def setPanel (s : State) (p : Panel) (r : PanelRec) : State :=
  { s with registry := { s.registry with panels := put s.registry.panels p r } }
def setZoneMin (s : State) (z : Zone) (l : Level) : State :=
  { s with registry := { s.registry with zoneMin := put s.registry.zoneMin z l } }

/-- The destinations whose record a panel holds and `p` picks, ascending. -/
def heldBy (s : State) (n : Panel) (p : Protect → Bool) : List Dest :=
  ((entries s.registry.protects).filter (fun e =>
    match e.2 with
    | some r => decide (r.holder = n) && p r
    | none => false)).map (fun e => e.1)

/-- A release other than by the holder: the record is deleted and the PROTECT RELEASED flag set (R54). -/
def releaseProtect (n : Panel) (why : ReleaseReason) (s : State) (d : Dest) : State :=
  (s.setProtect d none).flagReleased d n why

end State

/-- ENROL PANEL (R45). -/
def runEnrolPanel (panel level : Byte) (s : State) : Reply × State :=
  match asPanelId panel, below 4 level.toNat with
  | none, _ => (.badField 1, s)
  | some _, none => (.badField 2, s)
  | some p, some l =>
    if (s.panelRec p).enrolled then (.refuse .panelExists, s) else (.ok [], s.setPanel p ⟨true, l⟩)

/-- SET PANEL LEVEL (R52): a demotion releases the records that have become stronger than their holder. -/
def runSetPanelLevel (panel level : Byte) (s : State) : Reply × State :=
  match asPanelId panel, below 4 level.toNat with
  | none, _ => (.badField 1, s)
  | some _, none => (.badField 2, s)
  | some p, some l =>
    let r := s.panelRec p
    if r.enrolled then
      let lost := if r.level < l then s.heldBy p (fun q => decide (q.level < l)) else []
      (.ok (e2 lost.length), (lost.foldl (State.releaseProtect p .demotion) s).setPanel p { r with level := l })
    else (.refuse .noPanel, s)

/-- WITHDRAW PANEL (R53). -/
def runWithdrawPanel (panel : Byte) (s : State) : Reply × State :=
  match asPanelId panel with
  | none => (.badField 1, s)
  | some p =>
    let r := s.panelRec p
    if r.enrolled then
      let lost := s.heldBy p (fun _ => true)
      (.ok (e2 lost.length),
        (lost.foldl (State.releaseProtect p .withdrawal) s).setPanel p { r with enrolled := false })
    else (.refuse .noPanel, s)

/-- SET ZONE (R48). -/
def runSetZone (zone level : Byte) (s : State) : Reply × State :=
  match below 8 zone.toNat, below 4 level.toNat with
  | none, _ => (.badField 1, s)
  | some _, none => (.badField 2, s)
  | some z, some l => (.ok [], s.setZoneMin z l)

/-- R50 from step 2 on. -/
def protectRequest (d : Dest) (panel : Byte) (k : ProtectKind) (l : Level) (restore : Bool) (s : State) :
    Reply × State :=
  match s.fieldLevel panel.toNat with
  | none => (.refuse .noPanel, s)
  | some (p, own) =>
    if l < own then (.refuse .levelDenied, s)
    else
      match s.zoneCheck d p own with
      | some code => (.refuse code, s)
      | none =>
        match s.protectOf d with
        | some r =>
          if r.holder = p then (.ok [], s.setProtect d (some ⟨p, k, l, restore⟩))
          else (.refuse (if r.kind = .lock then .locked else .guarded), s)
        | none => (.ok [], s.setProtect d (some ⟨p, k, l, restore⟩))

/-- PROTECT DEST (R50). -/
def runProtectDest (dest panel kind level restore : Byte) (s : State) : Reply × State :=
  match asProtectKind kind, below 4 level.toNat, asFlag restore with
  | none, _, _ => (.badField 3, s)
  | some _, none, _ => (.badField 4, s)
  | some _, some _, none => (.badField 5, s)
  | some k, some l, some r =>
    if k = .protect ∧ r then (.badField 5, s) else protectRequest dest.toFin panel k l r s

/-- RELEASE DEST (R51). -/
def runReleaseDest (dest panel : Byte) (s : State) : Reply × State :=
  let d : Dest := dest.toFin
  match s.fieldLevel panel.toNat, s.protectOf d with
  | none, _ => (.refuse .noPanel, s)
  | some _, none => (.refuse .notHolder, s)
  | some (p, _), some r =>
    if r.holder = p then (.ok [], s.setProtect d none)
    else if p = 0 then (.ok [], s.releaseProtect r.holder .force d)
    else (.refuse .notHolder, s)

namespace State

/-! ## Lock breach (R55, R56) -/

/-- The destination's RESTORE take that is active. -/
def restoreOf (s : State) (d : Dest) : Option Slot :=
  s.findTake (fun t => decide (t.dest = d) && decide (t.origin = .restore) && t.state.active)

/-- Admission of a RESTORE or REPAIR take: checks 4 and 9 (R26), with R25's fields. -/
def admitOwn (s : State) (d : Dest) (x : Src) (origin : TakeOrigin) (panel : Panel) : Except Status (Admitted × State) :=
  match s.outputCheck d with
  | some code => .error code
  | none =>
    match s.admitTake ⟨d, x, origin, panel, none, none, false⟩ with
    | none => .error .poolFull
    | some a => .ok a

/-- R56: the restore outcome of a breach of `lock` by a confirm of `x`, `before` being the pre-breach source. -/
def restore (s : State) (d : Dest) (lock : Protect) (x : Src) (before : Option Src) : RestoreOutcome × State :=
  if lock.restore = false then (.notRequested, s)
  else
    match s.restoreOf d with
    | some i => (.alreadyPending (s.tagOf i), s)
    | none =>
      match before with
      | none => (.refused .notLearned, s)
      | some y =>
        if y = x then (.notNeeded, s)
        else
          match s.admitOwn d y .restore lock.holder with
          | .error code => (.refused code, s)
          | .ok (a, s1) => (.admitted a.tag a.superseded, s1)

/-- R55: a foreign confirm of `x` is reported to the registry. -/
def breach (s : State) (d : Dest) (x : Src) (before : Option Src) : State :=
  match s.protectOf d with
  | none => s
  | some lock =>
    match lock.kind with
    | .protect => s
    | .lock =>
      let (o, s1) := s.restore d lock x before
      s1.flagLockBreach d x o

end State

/-! ## Meanings -/

def execEnrolPanel (tag panel level : Byte) (s : State) : Host.Outcome State Fault Refusal :=
  requestArrives (.enrolPanel tag panel level) (runEnrolPanel panel level) s

def execSetPanelLevel (tag panel level : Byte) (s : State) : Host.Outcome State Fault Refusal :=
  requestArrives (.setPanelLevel tag panel level) (runSetPanelLevel panel level) s

def execWithdrawPanel (tag panel : Byte) (s : State) : Host.Outcome State Fault Refusal :=
  requestArrives (.withdrawPanel tag panel) (runWithdrawPanel panel) s

def execSetZone (tag zone level : Byte) (s : State) : Host.Outcome State Fault Refusal :=
  requestArrives (.setZone tag zone level) (runSetZone zone level) s

def execProtectDest (tag dest panel kind level restore : Byte) (s : State) : Host.Outcome State Fault Refusal :=
  requestArrives (.protectDest tag dest panel kind level restore) (runProtectDest dest panel kind level restore) s

def execReleaseDest (tag dest panel : Byte) (s : State) : Host.Outcome State Fault Refusal :=
  requestArrives (.releaseDest tag dest panel) (runReleaseDest dest panel) s

end Sys2Proof.Machine
end

