-- ==== Sys2Proof/Machine/Buses.lean ====
section
/-! DEFINITION. Matrix bus transactions, readbacks, walks and bus requests (06_the_matrix_bus.md R93 to R120). -/

namespace Sys2Proof.Machine

namespace State

/-! ## Confirms -/

/-- The destination's outstanding take that carries source `x` (R102). -/
def matchedTake (s : State) (d : Dest) (x : Src) : Option Slot :=
  match s.outstandingOf d with
  | some i => if (s.slot i).holds (fun t => decide (t.source = x)) then some i else none
  | none => none

/-- R102: an own confirm. -/
def confirmOwn (s : State) (d : Dest) (x : Src) : State :=
  match s.matchedTake d x with
  | some i => (((s.endTake i .completed).applyReport d x .own).countCompletion d).settle
  | none => (s.applyReport d x .own).settle

/-- R106: a foreign confirm, reported to the registry once applied. -/
def confirmForeign (s : State) (d : Dest) (x : Src) : State :=
  ((s.applyReport d x .foreign).breach d x (s.dest d).source).settle

/-! ## Walks -/

def setBus (s : State) (b : Bus) : State := { s with bus := b }

/-- A verify walk is paused while the discrepancy list is full (R113). -/
def walkPaused (s : State) : Bool :=
  decide (s.bus.walk = .verify) && decide (Config.discrepancyLimit ≤ s.bus.discrepancies.length)

/-- R110: the handling of the destination `d` ends. -/
def walkOn (s : State) (d : Dest) : State :=
  if d = 255 then s.setBus { s.bus with walk := .none, walkCursor := 0, intervalStart := s.now }
  else s.setBus { s.bus with walkCursor := d + 1 }

/-- R110: a walk reads a destination, or passes it over. -/
def walkReads (s : State) (d : Dest) : Bool :=
  if s.activeDest d then false
  else
    match (s.dest d).output with
    | .faulted => false
    | .ready => decide (s.bus.walk = .verify)
    | .unknown => true
    | .offline => true

/-- A READBACK is sent (R107); the answer of a VERIFY walk's is to be compared if the destination is READY (R111). -/
def sendReadback (s : State) (d : Dest) (k : ReadbackKind) : State :=
  let compare := decide (k = .walk) && decide (s.bus.walk = .verify) && decide ((s.dest d).output = .ready)
  s.setBus { s.bus with readback := some ⟨d, k, s.now, compare⟩ }

/-- R110: from the cursor on, destinations not to be read are passed over until one is read or the walk ends; the first
argument bounds the destinations (log 20). -/
def walkNext : Nat → State → State
  | 0, s => s
  | fuel + 1, s =>
    if s.bus.walk = .none then s
    else if s.walkReads s.bus.walkCursor then s.sendReadback s.bus.walkCursor .walk
    else walkNext fuel (s.walkOn s.bus.walkCursor)

/-- The first destination of the priority list with no active slot (R107). -/
def priorityNext (s : State) : Option Dest := s.bus.priority.find? (fun d => !s.activeDest d)

/-- A READBACK may be sent: none is outstanding and no transfer is in progress (R107). -/
def busFree (s : State) : Bool := s.bus.readback.isNone && s.bus.transfers.isEmpty

/-- There is a destination to handle: on the priority list, or at the cursor of a walk that is not paused (R107). -/
def readbackDue (s : State) : Bool :=
  s.busFree && (s.priorityNext.isSome || (decide (s.bus.walk ≠ .none) && !s.walkPaused))

/-- READBACK (R107). -/
def readbackNext (s : State) : State :=
  if s.busFree then
    match s.priorityNext with
    | some d => (s.setBus { s.bus with priority := s.bus.priority.filter (fun x => x ≠ d) }).sendReadback d .priority
    | none => if s.walkPaused then s else walkNext 256 s
  else s

/-! ## Answers -/

/-- R111: the answer of `x` is compared: the table source if it is a discrepancy. -/
def discrepant (s : State) (r : Readback) (x : Src) : Option Src :=
  if r.compare && decide ((s.dest r.dest).output = .ready) && !s.activeDest r.dest then
    (s.dest r.dest).source.filter (fun y => decide (y ≠ x))
  else none

/-- R112: the repair of a discrepancy, after its answer has been applied. -/
def repair (s : State) (d : Dest) (y : Src) : RepairOutcome × State :=
  match s.bus.policy with
  | .report => (.none, s)
  | .repair =>
    match s.admitOwn d y .repair 0 with
    | .error code => (.refused code, s)
    | .ok (a, s1) => (.admitted a.tag, s1)

/-- R111: a discrepancy record joins the list. -/
def addDiscrepancy (s : State) (r : Discrepancy) : State :=
  s.setBus { s.bus with discrepancies := s.bus.discrepancies ++ [r] }

/-- The outstanding readback becomes none; a walk's moves the walk on (R108, R110). -/
def endReadback (s : State) (r : Readback) : State :=
  let s1 := s.setBus { s.bus with readback := none }
  if r.kind = .walk then s1.walkOn r.dest else s1

/-- R108, R111, R112: a source-carrying answer to the outstanding readback. -/
def answerSource (s : State) (r : Readback) (x : Src) : State :=
  let s1 := s.applyReport r.dest x .learned
  match s.discrepant r x with
  | none => s1.endReadback r
  | some y =>
    let (outcome, s2) := s1.repair r.dest y
    (s2.addDiscrepancy ⟨r.dest, y, x, s.now, s.bus.policy, outcome⟩).endReadback r

/-- R108: NO_CARD, or the answer timeout. -/
def answerNone (s : State) (r : Readback) : State := (s.applyNoAnswer r.dest).endReadback r

/-- ANSWER with the X256's master ID (R108): one for no outstanding readback, or for another destination, is discarded. -/
def answer (s : State) (d : Dest) (x : Option Src) : State :=
  match s.bus.readback with
  | none => s
  | some r =>
    if r.dest = d then
      (match x with
       | some y => s.answerSource r y
       | none => s.answerNone r).settle
    else s

/-- The outstanding readback has reached its answer timeout (R108). -/
def answerDue (s : State) : Bool :=
  match s.bus.readback with
  | some r => decide (Config.answerTimeout ≤ since s.now r.sentAt)
  | none => false

/-- ANSWER_TIMEOUT (R108). -/
def answerTimeout (s : State) : State :=
  match s.bus.readback with
  | some r => if s.answerDue then (s.answerNone r).settle else s
  | none => s

/-! ## Timers of the bus -/

/-- R109: a destination joins the priority readback list unless it is on it. -/
def joinPriority (s : State) (d : Dest) : State :=
  if s.bus.priority.contains d then s else s.setBus { s.bus with priority := s.bus.priority ++ [d] }

/-- The ABSENT timer of a slot's take has run its 100 ms (R105). -/
def absentDue (s : State) (i : Slot) : Bool :=
  s.bus.absent.any (fun a => decide (a.1.slot = i) && decide (Config.absentTimer ≤ since s.now a.2))

/-- ABSENT_TIMER_EXPIRY (R105). -/
def expireAbsent (s : State) (i : Slot) : State :=
  match (s.slot i).take with
  | none => s
  | some t =>
    if s.absentDue i then
      (((s.endTake i .unverified).outputEvent t.dest .unverified).joinPriority t.dest).settle
    else s

/-- A verify walk begins at dest 0 (R115). -/
def beginVerify (s : State) : State := s.setBus { s.bus with walk := .verify, walkCursor := 0 }

/-- The verify interval has elapsed with no walk in progress (R115). -/
def verifyDue (s : State) : Bool :=
  decide (s.bus.walk = .none) && decide (0 < s.bus.interval) &&
    decide (s.bus.interval * 1000000 ≤ since s.now s.bus.intervalStart)

/-- TRANSFER_END (R96): the transfer being sent has been sent. -/
def transferEnd (s : State) : State := s.setBus { s.bus with transfers := s.bus.transfers.tail }

end State

/-! ## Transactions as bytes (R94, R183) -/

/-- What a transaction heard on the bus is, once accepted. -/
inductive Heard
  | confirm (master : Byte) (d : Dest) (x : Src)
  | answer (master : Byte) (d : Dest) (x : Option Src)
  | discarded
  deriving DecidableEq, Repr

/-- R183: the check byte, the type, the master ID and the source. -/
def hearBus : List Byte → Heard
  | [kind, master, dest, hi, lo, check] =>
    if crc8 [kind, master, dest, hi, lo] = check ∧ (master = 1 ∨ master = 2) then
      match kind.toNat, below 512 (u16 hi lo).toNat with
      | 2, some x => .confirm master dest.toFin x
      | 4, some x => .answer master dest.toFin (some x)
      | 4, none => if u16 hi lo = 0xFFFF then .answer master dest.toFin none else .discarded
      | _, _ => .discarded
    else .discarded
  | _ => .discarded

/-- DISCARDED_TRANSACTION (R94): the bytes heard; one that fails its checks, or is not acted on, changes nothing. -/
def hearTransaction (bytes : List Byte) (s : State) : State :=
  match hearBus bytes with
  | .confirm m d x => if m = s.straps.masterId then s.confirmOwn d x else s.confirmForeign d x
  | .answer m d x => if m = s.straps.masterId then s.answer d x else s
  | .discarded => s

/-! ## Requests -/

/-- SET VERIFY (R117). -/
def runSetVerify (interval : U16) (policy : Byte) (s : State) : Reply × State :=
  if 3600 < interval.toNat then (.badField 1, s)
  else
    match asVerifyPolicy policy with
    | none => (.badField 2, s)
    | some p =>
      (.ok [], s.setBus { s.bus with
        interval := interval.toNat
        policy := p
        intervalStart := if s.bus.walk = .none then s.now else s.bus.intervalStart })

/-- START WALK (R118). -/
def runStartWalk (s : State) : Reply × State :=
  if s.bus.walk = .none then (.ok [], s.beginVerify) else (.refuse .walkBusy, s)

/-- CLEAR FAULT (R119). -/
def runClearFault (dest : Byte) (s : State) : Reply × State :=
  let d : Dest := dest.toFin
  if (s.dest d).output = .faulted then (.ok [], ((s.outputEvent d .clearFault).joinPriority d).settleWalls)
  else (.refuse .destActive, s)

/-- READ BUS (R120). DESIGN CHOICE (log 13): the discrepancy records are counted in 1 byte, and the destination at the head of
the priority list is an optional item, absent where the list is empty. -/
def readBusResult (s : State) : List Byte :=
  let b := s.bus
  [s.straps.masterId] ++
  (List.finRange 4).flatMap (fun d =>
    e1 (look b.debt d) ++ e1 (look b.cursor d).val ++ e1 (look b.retry d).length) ++
  e1 b.absent.length ++ e1 (walkCode b.walk) ++ eFlag s.walkPaused ++ e1 b.walkCursor.val ++
  eOpt (fun r : Readback => e1 r.dest.val ++ e1 (readbackKindCode r.kind)) b.readback ++
  e2 b.interval ++ e1 (policyCode b.policy) ++ eTime b.intervalStart ++
  e2 b.priority.length ++ eOpt (fun d : Dest => e1 d.val) b.priority.head? ++
  e1 b.discrepancies.length ++ eTime s.now

def runReadBus (s : State) : Reply × State := (.ok (readBusResult s), s)

/-! ## Meanings -/

def execSetVerify (tag : Byte) (interval : U16) (policy : Byte) (s : State) : Host.Outcome State Fault Refusal :=
  requestArrives (.setVerify tag interval policy) (runSetVerify interval policy) s

def execStartWalk (tag : Byte) (s : State) : Host.Outcome State Fault Refusal :=
  requestArrives (.startWalk tag) runStartWalk s

def execClearFault (tag dest : Byte) (s : State) : Host.Outcome State Fault Refusal :=
  requestArrives (.clearFault tag dest) (runClearFault dest) s

def execReadBus (tag : Byte) (s : State) : Host.Outcome State Fault Refusal :=
  requestArrives (.readBus tag) runReadBus s

def execConfirmOwn (d : Dest) (src : Src) (s : State) : Host.Outcome State Fault Refusal := .next (s.confirmOwn d src)

def execConfirmForeign (d : Dest) (src : Src) (s : State) : Host.Outcome State Fault Refusal :=
  .next (s.confirmForeign d src)

def execAnswer (d : Dest) (src : Option Src) (s : State) : Host.Outcome State Fault Refusal := .next (s.answer d src)

def execAnswerTimeout (s : State) : Host.Outcome State Fault Refusal := .next s.answerTimeout

def execDiscardedTransaction (bytes : List Byte) (s : State) : Host.Outcome State Fault Refusal :=
  .next (hearTransaction bytes s)

def execReadback (s : State) : Host.Outcome State Fault Refusal := .next s.readbackNext

def execTransferEnd (s : State) : Host.Outcome State Fault Refusal := .next s.transferEnd

def execAbsentTimerExpiry (slot : Slot) (s : State) : Host.Outcome State Fault Refusal := .next (s.expireAbsent slot)

/-- VERIFY_INTERVAL (R115). -/
def execVerifyInterval (s : State) : Host.Outcome State Fault Refusal :=
  .next (if s.verifyDue then s.beginVerify else s)

end Sys2Proof.Machine
end

