-- ==== Sys2Proof/Machine/Cues.lean ====
section
/-! DEFINITION. GPI inputs and cue comparators (09_events_gpi_and_cue_comparators.md R160 to R169). -/

namespace Sys2Proof.Machine

/-! ## GPI -/

namespace State

/-- GPI_PIN_CHANGE (R160): only a change of the pin's level acts. -/
def gpiPin (s : State) (i : Gpi) (high : Bool) : State :=
  let r := s.gpi i
  let moved := { r with pin := high }
  if high = r.pin then s
  else if high = r.level then s.setGpi i { moved with candidate := none }
  else if r.debounce = 0 then (s.setGpi i moved).takeLevel i high
  else s.setGpi i { moved with candidate := some (high, s.now) }

/-- A candidate held for the debounce time becomes the level, and its edge is raised (R160). -/
def judgeCandidate (s : State) (i : Gpi) : State :=
  match s.candidateDue i with
  | some high => s.takeLevel i high
  | none => s

end State

/-- SET GPI (R161). The reply's level has no code in 11.4: DESIGN CHOICE (log 27), LOW is 0 and HIGH is 1. -/
def runSetGpi (input debounce : Byte) (s : State) : Reply × State :=
  match below 8 input.toNat with
  | none => (.badField 1, s)
  | some i =>
    if 50 < debounce.toNat then (.badField 2, s)
    else
      let s1 := (s.setGpi i { s.gpi i with debounce := debounce.toNat }).judgeCandidate i
      (.ok (eFlag (s1.gpi i).level), s1)

/-! ## Comparators -/

/-- The configuration SET COMPARATOR carries beside the comparator, origin, margin and trigger, as step 1 reads it. -/
structure CmpConfig where
  domain : Dom
  strict : Bool
  mode : CmpMode
  panel : Panel
  onTrue : Action
  onFalse : Action
  deriving DecidableEq, Repr

/-- The two actions, or the lowest index that fails; the kinds stand at index 10 and 13 (R182). -/
def readActions (tk t1 t2 fk f1 f2 : Byte) : Except Nat (Action × Action) :=
  match asAction tk t1 t2, asAction fk f1 f2 with
  | .bad n, _ => .error (10 + n)
  | .good _, .bad n => .error (13 + n)
  | .good a, .good b => .ok (a, b)

/-- Step 1 of R168 but for the comparator number: the configuration, or the lowest index that fails. -/
def readCmpConfig (domain strict mode panel : Byte) (actions : Except Nat (Action × Action)) : Except Nat CmpConfig :=
  match below 4 domain.toNat, asFlag strict, asCmpMode mode, below 64 panel.toNat, actions with
  | none, _, _, _, _ => .error 2
  | some _, none, _, _, _ => .error 6
  | some _, some _, none, _, _ => .error 7
  | some _, some _, some _, none, _ => .error 9
  | some _, some _, some _, some _, .error n => .error n
  | some d, some b, some m, some p, .ok (t, f) => .ok ⟨d, b, m, p, t, f⟩

/-- The state a mode arms a comparator to (R168). -/
def CmpMode.armed : CmpMode → CmpState
  | .off => .off
  | .once => .armed
  | .onChange => .baseline
  | .every => .armed

/-- R168 once accepted. -/
def configureComparator (s : State) (k : Cmp) (c : CmpConfig) (origin margin period : Nat) (trigger : Byte) : State :=
  let s1 := s.setCmp k { s.cmp k with
    domain := c.domain, origin := origin, margin := margin, period := period, strict := c.strict, mode := c.mode,
    panel := c.panel, onTrue := c.onTrue, onFalse := c.onFalse, state := c.mode.armed, lastResult := none }
  { s1 with router := { s1.router with trigger := put s1.router.trigger k trigger } }

/-- R168 from step 2 on. -/
def setComparatorChecked (k : Cmp) (c : CmpConfig) (origin margin : U32) (period : U16) (trigger : Byte) (s : State) :
    Reply × State :=
  if s.timecodeFits c.domain origin.toNat = false then (.badField 3, s)
  else if s.timecodeFits c.domain margin.toNat = false then (.badField 4, s)
  else if trigger ≠ 0 ∧ (isEvent trigger = false ∨ isCmpEvent trigger) then (.refuse .badBinding, s)
  else (.ok [], configureComparator s k c origin.toNat margin.toNat period.toNat trigger)

/-- SET COMPARATOR (R168). -/
def runSetComparator (comparator domain : Byte) (origin margin : U32) (period : U16)
    (strict mode trigger panel trueKind trueParam1 trueParam2 falseKind falseParam1 falseParam2 : Byte) (s : State) :
    Reply × State :=
  match below 8 comparator.toNat, readCmpConfig domain strict mode panel
      (readActions trueKind trueParam1 trueParam2 falseKind falseParam1 falseParam2) with
  | none, _ => (.badField 1, s)
  | some _, .error n => (.badField n, s)
  | some k, .ok c => setComparatorChecked k c origin margin period trigger s

/-- READ COMPARATOR (R169). The trigger, a configuration field by R168 and an item of its own in R169, is sent once, after the
FALSE action: DESIGN CHOICE (log 33). -/
def readComparatorResult (s : State) (k : Cmp) : List Byte :=
  let r := s.cmp k
  let d := s.dom r.domain
  let latch := fun l : Nat × Time => e4 l.1 ++ eTime l.2
  e1 r.domain.val ++ e4 r.origin ++ e4 r.margin ++ e2 r.period ++ eFlag r.strict ++ e1 (cmpModeCode r.mode) ++
  e1 r.panel.val ++ eAction r.onTrue ++ eAction r.onFalse ++ [look s.router.trigger k] ++
  e1 (cmpStateCode r.state) ++ eOpt eFlag r.lastResult ++ eOpt latch r.trueLatch ++ eOpt latch r.falseLatch ++
  eOpt (fun a : LastAction => eFlag a.branch ++ eAction a.action ++ [statusCode a.result] ++ eTime a.time) r.lastAction ++
  e4 d.timecode ++ eFlag (r.evaluate d.standard d.timecode) ++ eTime s.now

def runReadComparator (comparator : Byte) (s : State) : Reply × State :=
  match below 8 comparator.toNat with
  | none => (.badField 1, s)
  | some k => (.ok (readComparatorResult s k), s)

/-! ## Meanings -/

def execSetGpi (tag input debounce : Byte) (s : State) : Host.Outcome State Fault Refusal :=
  requestArrives (.setGpi tag input debounce) (runSetGpi input debounce) s

def execSetComparator (tag comparator domain : Byte) (origin margin : U32) (period : U16)
    (strict mode trigger panel trueKind trueParam1 trueParam2 falseKind falseParam1 falseParam2 : Byte) (s : State) :
    Host.Outcome State Fault Refusal :=
  requestArrives (.setComparator tag comparator domain origin margin period strict mode trigger panel
      trueKind trueParam1 trueParam2 falseKind falseParam1 falseParam2)
    (runSetComparator comparator domain origin margin period strict mode trigger panel
      trueKind trueParam1 trueParam2 falseKind falseParam1 falseParam2) s

def execReadComparator (tag comparator : Byte) (s : State) : Host.Outcome State Fault Refusal :=
  requestArrives (.readComparator tag comparator) (runReadComparator comparator) s

def execGpiPinChange (input : Gpi) (high : Bool) (s : State) : Host.Outcome State Fault Refusal :=
  .next (s.gpiPin input high)

def execDebounceExpiry (input : Gpi) (s : State) : Host.Outcome State Fault Refusal :=
  .next (s.judgeCandidate input)

end Sys2Proof.Machine
end

