-- ==== Sys2Proof/Machine/Domains.lean ====
section
/-! DEFINITION. Requests and timer events of the reference domains (05_reference_domains_and_timecode.md R76 to R92). -/

namespace Sys2Proof.Machine

/-- A number within `lo`-`hi`. -/
def within (lo hi x : Nat) : Bool := decide (lo ≤ x) && decide (x ≤ hi)

/-! ## Configuration -/

/-- R88: the four values are written; a change of standard reduces the timecode, the mark preset and a pending timecode. -/
def DomRec.configure (r : DomRec) (standard : Fin 8) (settle holdover hold : Nat) : DomRec :=
  let n := Config.framesPerDay standard
  let w := { r with standard := standard, settleCount := settle, holdoverLimit := holdover, holdLimit := hold }
  if standard = r.standard then w
  else { w with
    timecode := r.timecode % n
    markPreset := r.markPreset % n
    pendingTimecode := r.pendingTimecode.map (fun e => (e.1 % n, e.2)) }

/-- SET DOMAIN (R88). -/
def runSetDomain (domain standard settle holdover : Byte) (hold : U16) (s : State) : Reply × State :=
  match below 4 domain.toNat, below 8 standard.toNat with
  | none, _ => (.badField 1, s)
  | some _, none => (.badField 2, s)
  | some d, some c =>
    if within 4 64 settle.toNat = false then (.badField 3, s)
    else if within 0 250 holdover.toNat = false then (.badField 4, s)
    else if within 100 10000 hold.toNat = false then (.badField 5, s)
    else if (s.dom d).lock ≠ .closed then (.refuse .domainActive, s)
    else (.ok [], s.setDom d ((s.dom d).configure c settle.toNat holdover.toNat hold.toNat))

/-! ## Opening and closing -/

/-- OPEN DOMAIN (R87); a judgement the monitor already holds waits for the next reference frame start (R77). -/
def runOpenDomain (domain : Byte) (s : State) : Reply × State :=
  match below 4 domain.toNat with
  | none => (.badField 1, s)
  | some d =>
    if (s.dom d).lock ≠ .closed then (.refuse .domainActive, s)
    else
      let s1 := s.setLock d .acquiring
      (.ok [], s1.setDom d { s1.dom d with openDetection := decide ((s1.dom d).seen ≠ .none) })

/-- R89: the closing flag is set, and what the mode calls for is flushed at once. -/
def closeDomain (d : Dom) (mode : CloseMode) (s : State) : Reply × State :=
  let s1 := s.setDom d { s.dom d with closing := some mode }
  let flushed := if mode = .flush ∨ s1.onlyHeld d then (s1.queue d).length else 0
  let s2 := (if mode = .flush then s1.flushDomain d else s1).settle
  (.ok (e1 flushed ++ e1 (lockCode (s2.dom d).lock)), s2)

/-- CLOSE DOMAIN (R89). -/
def runCloseDomain (domain mode : Byte) (s : State) : Reply × State :=
  match below 4 domain.toNat, asCloseMode mode with
  | none, _ => (.badField 1, s)
  | some _, none => (.badField 2, s)
  | some d, some m => if (s.dom d).lock = .closed then (.refuse .domainClosed, s) else closeDomain d m s

/-! ## Timecode and marks -/

/-- SET TIMECODE (R83). -/
def runSetTimecode (domain : Byte) (value : U32) (s : State) : Reply × State :=
  match below 4 domain.toNat with
  | none => (.badField 1, s)
  | some d =>
    if s.timecodeFits d value.toNat then
      (.ok [], s.setDom d { s.dom d with pendingTimecode := some (value.toNat, .request) })
    else (.badField 2, s)

/-- The Event Router binds a mark (R158). -/
def State.bindMark (s : State) (d : Dom) (event : Byte) : State :=
  { s with router := { s.router with mark := put s.router.mark d event } }

/-- ARM MARK (R84). -/
def runArmMark (domain mode : Byte) (preset : U32) (event : Byte) (s : State) : Reply × State :=
  match below 4 domain.toNat, asMarkMode mode with
  | none, _ => (.badField 1, s)
  | some _, none => (.badField 2, s)
  | some d, some continuous =>
    if s.timecodeFits d preset.toNat = false then (.badField 3, s)
    else if isEvent event = false then (.refuse .badBinding, s)
    else if (s.dom d).markStatus = .doneSingle then (.refuse .markNotCleared, s)
    else
      (.ok [], (s.setDom d { s.dom d with
        markPreset := preset.toNat
        markStatus := if continuous then .continuous else .armedSingle }).bindMark d event)

/-- DISARM MARK (R86). -/
def runDisarmMark (domain : Byte) (s : State) : Reply × State :=
  match below 4 domain.toNat with
  | none => (.badField 1, s)
  | some d =>
    (.ok [], (s.setDom d { s.dom d with
      markStatus := .idle
      markCounter := 0
      pendingTimecode := (s.dom d).pendingTimecode.filter (fun e => decide (e.2 ≠ .mark)) }).bindMark d 0)

/-- READ DOMAIN (R92). The closing flag with its mode is sent as an optional item: DESIGN CHOICE (log 13). -/
def readDomainResult (s : State) (d : Dom) : List Byte :=
  let r := s.dom d
  e1 r.standard.val ++ e1 r.settleCount ++ e1 r.holdoverLimit ++ e2 r.holdLimit ++ e1 (lockCode r.lock) ++
  eOpt (fun m => e1 (closeModeCode m)) r.closing ++ e1 (seenCode r.seen) ++ e1 r.settleProgress ++
  e1 r.holdoverCount ++ eTime r.stopMoment ++ bytes32 r.number ++ e4 r.timecode ++
  eOpt (fun e : Nat × TimecodeSource => e4 e.1 ++ e1 (timecodeSourceCode e.2)) r.pendingTimecode ++
  e1 (markStatusCode r.markStatus) ++ e4 r.markPreset ++ e1 r.markCounter.val ++ [look s.router.mark d] ++
  [TakeState.queued, .held, .issued, .retry].flatMap (fun st => e1 (s.countTakes d st)) ++ eTime s.now

def runReadDomain (domain : Byte) (s : State) : Reply × State :=
  match below 4 domain.toNat with
  | none => (.badField 1, s)
  | some d => (.ok (readDomainResult s d), s)

/-! ## Reference and timer events -/

/-- REFERENCE_LOSS_TIMEOUT (R76): acts once one and a half periods have passed (log 6). A loss already pending stays the
one to be judged (log 29). -/
def loseByTimeout (d : Dom) (s : State) : State :=
  if s.lossDue d then
    if (s.dom d).lossPending then s.forgetReference d none else s.loseReference d none
  else s

/-- TIMER_FRAME_START (R76, R79): in HOLDOVER it acts once the frame period has passed (log 6). -/
def timerFrame (d : Dom) (refFollows : Bool) (s : State) : State :=
  match (s.dom d).lock with
  | .locked => s.lockedFrame d refFollows
  | .holdover => if s.holdoverDue d then s.holdoverFrame d else s
  | _ => s

/-! ## Meanings -/

def execSetDomain (tag domain standard settle holdover : Byte) (holdLimit : U16) (s : State) :
    Host.Outcome State Fault Refusal :=
  requestArrives (.setDomain tag domain standard settle holdover holdLimit)
    (runSetDomain domain standard settle holdover holdLimit) s

def execOpenDomain (tag domain : Byte) (s : State) : Host.Outcome State Fault Refusal :=
  requestArrives (.openDomain tag domain) (runOpenDomain domain) s

def execCloseDomain (tag domain mode : Byte) (s : State) : Host.Outcome State Fault Refusal :=
  requestArrives (.closeDomain tag domain mode) (runCloseDomain domain mode) s

def execSetTimecode (tag domain : Byte) (value : U32) (s : State) : Host.Outcome State Fault Refusal :=
  requestArrives (.setTimecode tag domain value) (runSetTimecode domain value) s

def execArmMark (tag domain mode : Byte) (preset : U32) (event : Byte) (s : State) :
    Host.Outcome State Fault Refusal :=
  requestArrives (.armMark tag domain mode preset event) (runArmMark domain mode preset event) s

def execDisarmMark (tag domain : Byte) (s : State) : Host.Outcome State Fault Refusal :=
  requestArrives (.disarmMark tag domain) (runDisarmMark domain) s

def execReadDomain (tag domain : Byte) (s : State) : Host.Outcome State Fault Refusal :=
  requestArrives (.readDomain tag domain) (runReadDomain domain) s

def execReferenceFrameStart (domain : Dom) (s : State) : Host.Outcome State Fault Refusal :=
  .next (s.referenceStart domain)

def execReferenceLossTimeout (domain : Dom) (s : State) : Host.Outcome State Fault Refusal :=
  .next (loseByTimeout domain s)

def execTimerFrameStart (domain : Dom) (refFollows : Bool) (s : State) : Host.Outcome State Fault Refusal :=
  .next (timerFrame domain refFollows s)

end Sys2Proof.Machine
end

