-- ==== Sys2Proof/Machine/PartnerOps.lean ====
section
/-! DEFINITION. The receivers of the wall links and recorder ports (R183, 11.7). -/

namespace Sys2Proof.Machine

/-- A frame a partner link accepts by its shape: kind and body. -/
structure PartnerFrame where
  kind : Byte
  body : List Byte
  deriving DecidableEq, Repr

/-- The frame that `held` completes, if its CRC matches. -/
def partnerJudge : List Byte → Option PartnerFrame
  | _ :: hi :: lo :: kind :: rest =>
    let body := rest.take (u16 hi lo).toNat
    if rest.drop (u16 hi lo).toNat = bytes16 (crc16 (partnerCovered kind body)) then some ⟨kind, body⟩ else none
  | _ => none

/-- The length bytes of the frame `held` begins have come, and its body is too long. -/
def partnerTooLong : List Byte → Bool
  | [_, hi, lo] => decide (Config.partnerBodyLimit < (u16 hi lo).toNat)
  | _ => false

/-- `held` has every byte its length bytes call for: 6 beside the body. -/
def partnerWhole : List Byte → Bool
  | l@(_ :: hi :: lo :: _) => decide (l.length = 6 + (u16 hi lo).toNat)
  | _ => false

/-- One byte reaches a receiver (R183). -/
def PartnerRx.feed (r : PartnerRx) (now : Time) (b : Byte) : PartnerRx × Option PartnerFrame :=
  let before := if Config.partnerGap < since now r.lastByteAt then [] else r.held
  let held := if before = [] ∧ b ≠ 0x5A then [] else before ++ [b]
  if partnerTooLong held then (⟨[], now⟩, none)
  else if partnerWhole held then (⟨[], now⟩, partnerJudge held)
  else (⟨held, now⟩, none)

/-- A gap of over 2000 µs has passed inside a frame (R183). -/
def PartnerRx.gapDue (r : PartnerRx) (now : Time) : Bool :=
  decide (r.held ≠ []) && decide (Config.partnerGap < since now r.lastByteAt)

/-- The bytes received so far are discarded (R183). -/
def PartnerRx.drop (r : PartnerRx) : PartnerRx := { r with held := [] }

end Sys2Proof.Machine
end

