-- ==== Sys2Proof/Machine/Recorders.lean ====
section
/-! DEFINITION. Recorder replies, timeouts, guard times and requests (08_recorder_ports.md R137 to R156). -/

namespace Sys2Proof.Machine

/-- The time base has reached a moment set within the last half wrap (R142). -/
def reached (now t : Time) : Bool := decide (since now t < 2147483648)

/-- The port is BUSY with an exchange of the kinds `p` picks. -/
def PortRec.awaits (r : PortRec) (p : ExchangeKind → Bool) : Bool :=
  decide (r.exchange = .busy) &&
    (match r.inFlight with
     | some f => p f.kind
     | none => false)

/-- R143: the port's part of a STATUS that ends a poll. -/
def PortRec.takeStatus (r : PortRec) (now : Time) (x : RecorderState) : PortRec :=
  (PortRec.judgeStart { r with silent := 0, online := true, reported := x, lastStatusAt := some now } now r.reported).enterGuard now

/-- R144, R152: the port's part of a CMD ACK that ends a command. -/
def PortRec.takeAck (r : PortRec) (now : Time) (c : RecorderCommand) (accepted : Bool) : PortRec :=
  PortRec.enterGuard { r with
    silent := 0
    online := true
    lastCommand := some ⟨c, if accepted then .accepted else .refused, now⟩
    recordStamp := if c = .record ∧ accepted then some now else r.recordStamp } now

/-- R145: the port's part of a timeout. -/
def PortRec.takeTimeout (r : PortRec) (now : Time) (k : ExchangeKind) : PortRec :=
  PortRec.enterGuard { r with
    silent := min 3 (r.silent + 1)
    lastCommand := match k with
      | .command c => some ⟨c, .noReply, now⟩
      | .poll => r.lastCommand } now

/-- R149: the port's part of going OFFLINE. -/
def PortRec.goOffline (r : PortRec) : PortRec :=
  { r with online := false, reported := .unknown, queue := [], markPending := false }

/-- R142: the port's part of the end of GUARD. -/
def PortRec.endGuard (r : PortRec) (now : Time) : PortRec :=
  PortRec.start { r with exchange := .ready, guardEnd := none } now

namespace State

/-- R147: a reply on an OFFLINE port sets the RECORDER flag; `was` is the link before the reply. -/
def flagOnline (s : State) (p : Port) (was : Bool) : State :=
  if was then s else s.flagRecorder p true (s.port p).reported

/-- STATUS (R143): one that the exchange does not expect, or that carries no state of 1-5, is discarded (R148, R183). -/
def recorderStatus (s : State) (p : Port) (x : RecorderState) : State :=
  let r := s.port p
  if r.awaits (fun k => decide (k = .poll)) && decide (x ≠ .unknown) then
    ((((s.setPort p (r.takeStatus s.now x)).reportedChanged p r.reported).flagOnline p r.online).settle).raise
      (pollDoneEvent p)
  else s

/-- CMD ACK (R144): one that the exchange does not expect is discarded (R148). -/
def recorderAck (s : State) (p : Port) (c : RecorderCommand) (accepted : Bool) : State :=
  let r := s.port p
  if r.awaits (fun k => decide (k = .command c)) then
    (s.setPort p (r.takeAck s.now c accepted)).flagOnline p r.online
  else s

/-- The poll timeout of the exchange in flight has passed (R145). -/
def pollDue (s : State) (p : Port) : Bool :=
  match (s.port p).inFlight with
  | some f => decide ((s.port p).exchange = .busy) && decide (f.timeout * 1000 ≤ since s.now f.sentAt)
  | none => false

/-- R149: an ONLINE port whose silent count has reached 3 goes OFFLINE. -/
def judgeSilence (s : State) (p : Port) : State :=
  let r := s.port p
  if r.online ∧ r.silent = 3 then
    ((s.setPort p r.goOffline).reportedChanged p r.reported).flagRecorder p false .unknown
  else s

/-- POLL_TIMEOUT (R145). -/
def recorderTimeout (s : State) (p : Port) : State :=
  match (s.port p).inFlight with
  | none => s
  | some f =>
    if s.pollDue p then ((s.setPort p ((s.port p).takeTimeout s.now f.kind)).judgeSilence p).settle else s

/-- The guard time has passed (R142). -/
def guardDue (s : State) (p : Port) : Bool :=
  match (s.port p).guardEnd with
  | some t => decide ((s.port p).exchange = .guard) && reached s.now t
  | none => false

/-- GUARD_END (R142): PORT READY is delivered once the port has started what was pending. -/
def endGuard (s : State) (p : Port) : State :=
  if s.guardDue p then (s.setPort p ((s.port p).endGuard s.now)).raise (portReadyEvent p) else s

/-- A frame accepted by its shape on a recorder port (R183). -/
def recorderFrame (s : State) (p : Port) (f : PartnerFrame) : State :=
  match f.kind.toNat, f.body with
  | 0x81, [x] =>
    match asReported x with
    | some y => s.recorderStatus p y
    | none => s
  | 0x82, [c, result] =>
    match asCommand c, asFlag result with
    | some y, some accepted => s.recorderAck p y accepted
    | _, _ => s
  | _, _ => s

def setRecorderRx (s : State) (p : Port) (r : PartnerRx) : State := { s with recorderRx := put s.recorderRx p r }

/-- A byte on a recorder port's receive pair. -/
def recorderByte (p : Port) (s : State) (b : Byte) : State :=
  let (r, frame) := (look s.recorderRx p).feed s.now b
  let s1 := s.setRecorderRx p r
  match frame with
  | some f => s1.recorderFrame p f
  | none => s1

/-- The Event Router binds a port's poll (R158). -/
def bindPoll (s : State) (p : Port) (event : Byte) : State :=
  { s with router := { s.router with poll := put s.router.poll p event } }

end State

/-! ## Requests -/

/-- The values BIND RECORDER writes. -/
structure PortConfig where
  dest : Option Dest
  policy : GuardPolicy
  event : Byte
  guardTime : Nat
  pollTimeout : Nat
  deriving DecidableEq, Repr

/-- The current source of an optional destination. -/
def State.sourceOf (s : State) (d : Option Dest) : Option Src := d.bind (fun x => (s.dest x).source)

/-- The hold test is applied again to an optional destination's waiting take (R30). -/
def State.retestOpt (s : State) : Option Dest → State
  | some d => s.retestHold d
  | none => s

/-- R154 once accepted: the values, the record counts of a recording port whose destination changes, and the hold test. -/
def bindRecorder (s : State) (p : Port) (c : PortConfig) : State :=
  let r := s.port p
  let s1 := (s.setPort p { r with
    dest := c.dest, policy := c.policy, guardTime := c.guardTime, pollTimeout := c.pollTimeout }).bindPoll p c.event
  let s2 :=
    if r.dest ≠ c.dest ∧ r.reported = .recording then
      (s1.moveShare (s.sourceOf r.dest) (s.sourceOf c.dest) (0, 0, 1)).recolour s (s.sourceOf r.dest) (s.sourceOf c.dest)
    else s1
  if r.dest ≠ c.dest ∨ r.policy ≠ c.policy then (s2.retestOpt r.dest).retestOpt c.dest else s2

/-- Another port holds the destination (R138, R154). -/
def boundElsewhere (s : State) (p : Port) (d : Option Dest) : Bool :=
  d.isSome && (entries s.ports).any (fun e => decide (e.1 ≠ p) && decide (e.2.dest = d))

/-- R154 from step 2 on. -/
def bindRequest (p : Port) (c : PortConfig) (s : State) : Reply × State :=
  if c.event ≠ 0 ∧ isEvent c.event = false then (.refuse .badBinding, s)
  else if boundElsewhere s p c.dest then (.refuse .destBound, s)
  else (.ok [], (bindRecorder s p c).settle)

/-- BIND RECORDER (R154). -/
def runBindRecorder (port : Byte) (dest : OptField Byte) (policy event guardTime pollTimeout : Byte) (s : State) :
    Reply × State :=
  match below 16 port.toNat, asOpt (fun b : Byte => some b.toFin) dest, asGuardPolicy policy with
  | none, _, _ => (.badField 1, s)
  | some _, none, _ => (.badField 2, s)
  | some _, some _, none => (.badField 3, s)
  | some p, some d, some g =>
    if guardTime.toNat < 1 ∨ 100 < guardTime.toNat then (.badField 5, s)
    else if pollTimeout.toNat < 5 ∨ 200 < pollTimeout.toNat then (.badField 6, s)
    else bindRequest p ⟨d, g, event, guardTime.toNat, pollTimeout.toNat⟩ s

/-- RECORDER COMMAND (R155). -/
def runRecorderCommand (port command : Byte) (s : State) : Reply × State :=
  match below 16 port.toNat, asCommand command with
  | none, _ => (.badField 1, s)
  | some _, none => (.badField 2, s)
  | some p, some c =>
    match s.queueCommand p c with
    | (.ok, position, s1) => (.ok (e1 position), s1)
    | (code, _, _) => (.refuse code, s)

/-- READ RECORDER (R156). -/
def readRecorderResult (s : State) (p : Port) : List Byte :=
  let r := s.port p
  eOpt (fun d : Dest => e1 d.val) r.dest ++ e1 (guardPolicyCode r.policy) ++ [look s.router.poll p] ++
  e1 r.guardTime ++ e1 r.pollTimeout ++ e1 (exchangeStateCode r.exchange) ++
  eOpt (fun f : InFlight => e1 (exchangeKindCode f.kind) ++ eTime f.sentAt) r.inFlight ++
  eOpt eTime r.guardEnd ++ eFlag r.pollPending ++ e1 (onlineCode r.online) ++ e1 r.silent ++
  e1 (reportedCode r.reported) ++ eOpt eTime r.lastStatusAt ++
  e1 r.queue.length ++ r.queue.flatMap (fun c => e1 (commandCode c)) ++ eFlag r.markPending ++
  eOpt (fun l : LastCommand => e1 (commandCode l.command) ++ e1 (commandResultCode l.result) ++ eTime l.time)
    r.lastCommand ++
  eOpt eTime r.recordStamp ++ eOpt e3 r.startDelay ++
  eOpt (fun d : Dest => eSource (s.dest d).source) r.dest ++ eTime s.now

def runReadRecorder (port : Byte) (s : State) : Reply × State :=
  match below 16 port.toNat with
  | none => (.badField 1, s)
  | some p => (.ok (readRecorderResult s p), s)

/-! ## Meanings -/

def execBindRecorder (tag port : Byte) (dest : OptField Byte) (policy event guardTime pollTimeout : Byte) (s : State) :
    Host.Outcome State Fault Refusal :=
  requestArrives (.bindRecorder tag port dest policy event guardTime pollTimeout)
    (runBindRecorder port dest policy event guardTime pollTimeout) s

def execRecorderCommand (tag port command : Byte) (s : State) : Host.Outcome State Fault Refusal :=
  requestArrives (.recorderCommand tag port command) (runRecorderCommand port command) s

def execReadRecorder (tag port : Byte) (s : State) : Host.Outcome State Fault Refusal :=
  requestArrives (.readRecorder tag port) (runReadRecorder port) s

def execStatus (port : Port) (reported : RecorderState) (s : State) : Host.Outcome State Fault Refusal :=
  .next (s.recorderStatus port reported)

def execCmdAck (port : Port) (command : RecorderCommand) (accepted : Bool) (s : State) :
    Host.Outcome State Fault Refusal :=
  .next (s.recorderAck port command accepted)

def execPollTimeout (port : Port) (s : State) : Host.Outcome State Fault Refusal := .next (s.recorderTimeout port)

def execGuardEnd (port : Port) (s : State) : Host.Outcome State Fault Refusal := .next (s.endGuard port)

/-- RECORDER_REPLY_DISCARDED (R148): bytes on a recorder port; only a frame that passes every check acts (log 16). -/
def execRecorderReplyDiscarded (port : Port) (bytes : List Byte) (s : State) : Host.Outcome State Fault Refusal :=
  .next (bytes.foldl (State.recorderByte port) s)

end Sys2Proof.Machine
end

