-- ==== Sys2Proof/Machine/Takes.lean ====
section
/-! DEFINITION. TAKE, CANCEL TAKE, READ TAKE and the hold limit (02_takes_and_the_frame_queues.md R38 to R43). -/

namespace Sys2Proof.Machine

/-- The origin of a take a panel's request admits (R25). -/
def panelOrigin (p : Panel) : TakeOrigin := if p = 0 then .direct else .panel p

/-- TAKE from its checks on (R26, R27, R40). -/
def admitRequest (dest source : U16) (panel : Byte) (condition : Option Src) (report : Bool) (s : State) :
    Reply × State :=
  match s.admissionChecks dest.toNat source.toNat panel.toNat condition with
  | .fail code => (.naming code dest.toNat, s)
  | .pass d x p =>
    match s.admitTake ⟨d, x, panelOrigin p, p, none, condition, report⟩ with
    | none => (.naming .poolFull dest.toNat, s)
    | some (a, s1) => (.ok (eTag a.tag ++ eOpt eTag a.superseded), s1.settle)

/-- TAKE (R40). -/
def runTake (dest source : U16) (panel : Byte) (condition : OptField U16) (report : Byte) (s : State) :
    Reply × State :=
  match asOpt (fun v : U16 => below 512 v.toNat) condition, asFlag report with
  | none, _ => (.badField 4, s)
  | some _, none => (.badField 5, s)
  | some c, some r => admitRequest dest source panel c r s

/-- What a tag names (R21). -/
inductive Named
  | live (t : Take)
  | ended (e : EndedTake)
  | nothing
  deriving DecidableEq, Repr

def State.named (s : State) (t : Tag) : Named :=
  let r := s.slot t.slot
  match r.take, r.previous with
  | some k, p =>
    if r.gen = t.gen then .live k
    else
      match p with
      | some e => if e.tag = t then .ended e else .nothing
      | none => .nothing
  | none, some e => if e.tag = t then .ended e else .nothing
  | none, none => .nothing

/-- CANCEL TAKE (R41). -/
def runCancelTake (slot gen : Byte) (s : State) : Reply × State :=
  match below 128 slot.toNat with
  | none => (.badField 1, s)
  | some i =>
    match s.named ⟨i, gen⟩ with
    | .live t => if t.state.waiting then (.ok [], (s.endTake i .cancelled).settle) else (.refuse .tooLate, s)
    | .ended _ => (.refuse .tooLate, s)
    | .nothing => (.refuse .noTake, s)

/-- A slot's previous take. The destination is sent in 1 byte: DESIGN CHOICE (log 13), as the field is tabled in 2 bytes in
TAKE and in 1 byte in the TAKE REPORT detail (R182). -/
def eEnded (e : EndedTake) : List Byte := eTag e.tag ++ e1 e.dest.val ++ e2 e.source.val ++ e1 (outcomeCode e.outcome)

/-- Every field of a live take's slot record, in R20's order. The destination is sent in 1 byte (DESIGN CHOICE, log 13). -/
def eTake (r : SlotRec) (t : Take) : List Byte :=
  [r.gen] ++ e1 (takeStateCode t.state) ++ e1 t.dest.val ++ e2 t.source.val ++ eOrigin t.origin ++ e1 t.panel.val ++
  eOpt eGroup t.group ++ eOpt (fun x : Src => e2 x.val) t.condition ++ eFlag t.report ++ eTime t.admittedAt ++
  eTime t.ageStart ++ eOpt bytes32 t.issuedAt ++ eFlag t.reissued ++ eOpt (fun o => e1 (outcomeCode o)) t.outcome ++
  eOpt eEnded r.previous

/-- The position of a waiting take in its queue, from 1 at the head (R42). -/
def State.position (s : State) (i : Slot) (t : Take) : Option Nat :=
  if t.state.waiting then some ((s.queue (s.takeDomain t)).idxOf i + 1) else none

/-- READ TAKE (R42). The destination of an ended take is sent in 1 byte (DESIGN CHOICE, log 13). -/
def runReadTake (slot gen : Byte) (s : State) : Reply × State :=
  match below 128 slot.toNat with
  | none => (.badField 1, s)
  | some i =>
    match s.named ⟨i, gen⟩ with
    | .live t => (.ok (eTake (s.slot i) t ++ eOpt e1 (s.position i t)), s)
    | .ended e => (.ok (e1 6 ++ e1 e.dest.val ++ e2 e.source.val ++ e1 (outcomeCode e.outcome)), s)
    | .nothing => (.refuse .noTake, s)

/-- The take in a slot has reached its hold limit (R38). -/
def State.holdLimitDue (s : State) (i : Slot) : Bool :=
  (s.slot i).holds (fun t =>
    let r := s.dom (s.takeDomain t)
    t.state.waiting && !r.lock.switching && decide (r.holdLimit * 1000 ≤ since s.now t.ageStart))

/-- HOLD_LIMIT_EXPIRY (R38). -/
def expireHold (i : Slot) (s : State) : State :=
  if s.holdLimitDue i then (s.endTake i .expired).settle else s

/-! ## Meanings -/

def execTake (tag : Byte) (dest source : U16) (panel : Byte) (condition : OptField U16) (report : Byte) (s : State) :
    Host.Outcome State Fault Refusal :=
  requestArrives (.take tag dest source panel condition report) (runTake dest source panel condition report) s

def execCancelTake (tag slot gen : Byte) (s : State) : Host.Outcome State Fault Refusal :=
  requestArrives (.cancelTake tag slot gen) (runCancelTake slot gen) s

def execReadTake (tag slot gen : Byte) (s : State) : Host.Outcome State Fault Refusal :=
  requestArrives (.readTake tag slot gen) (runReadTake slot gen) s

def execHoldLimitExpiry (slot : Slot) (s : State) : Host.Outcome State Fault Refusal :=
  .next (expireHold slot s)

end Sys2Proof.Machine
end

