-- ==== Sys2Proof/Machine/Salvos.lean ====
section
/-! DEFINITION. Storing, erasing, firing, undoing and reading salvos (04_salvos_and_undo.md R60 to R73). -/

namespace Sys2Proof.Machine

namespace State

def salvo (s : State) (n : Salvo) : List (Dest × Src) := look s.store.salvos n
def setSalvo (s : State) (n : Salvo) (l : List (Dest × Src)) : State :=
  { s with store := { s.store with salvos := put s.store.salvos n l } }

/-- Salvo memory in use (R60). -/
def memoryUsed (s : State) : Nat := (s.store.salvos.toList.map List.length).sum

/-- Memory available to a store into salvo `n` (R62). -/
def memoryFor (s : State) (n : Salvo) : Nat := Config.salvoMemory - (s.memoryUsed - (s.salvo n).length)

end State

/-- The entries of STORE SALVO, or the index of the first source field above 511; `index` is that of the first entry's
source field (R182: entry k's source has index 2 + 2k). -/
def readEntries : Nat → List (Byte × U16) → Except Nat (List (Dest × Src))
  | _, [] => .ok []
  | index, (d, x) :: rest =>
    match below 512 x.toNat with
    | none => .error index
    | some y => (readEntries (index + 2) rest).map (fun l => (d.toFin, y) :: l)

/-- The first destination that occurs a second time, with that position counted from 1 (R62). Where several destinations
occur twice the spec does not say which is named: DESIGN CHOICE (log 26), the one whose second occurrence stands first. -/
def secondOccurrence : List Dest → Nat → List Dest → Option (Dest × Nat)
  | _, _, [] => none
  | seen, position, d :: rest =>
    if seen.contains d then some (d, position) else secondOccurrence (d :: seen) (position + 1) rest

/-- R62 from step 2 on. -/
def storeEntries (n : Salvo) (l : List (Dest × Src)) (s : State) : Reply × State :=
  match secondOccurrence [] 1 (l.map Prod.fst) with
  | some (d, position) => (⟨.dupDest, e1 d.val ++ e1 position⟩, s)
  | none =>
    if s.salvoBusy n then (.refuse .salvoBusy, s)
    else if s.memoryFor n < l.length then (⟨.storeFull, e2 (s.memoryFor n)⟩, s)
    else (.ok [], s.setSalvo n l)

/-- STORE SALVO (R62). -/
def runStoreSalvo (salvo : Byte) (content : List (Byte × U16)) (s : State) : Reply × State :=
  match below 32 salvo.toNat with
  | none => (.badField 1, s)
  | some n =>
    if content.length = 0 ∨ 64 < content.length then (.badField 2, s)
    else
      match readEntries 4 content with
      | .error index => (.badField index, s)
      | .ok l => storeEntries n l s

/-- ERASE SALVO (R63). -/
def runEraseSalvo (salvo : Byte) (s : State) : Reply × State :=
  match below 32 salvo.toNat with
  | none => (.badField 1, s)
  | some n =>
    if s.salvo n = [] then (.refuse .noSalvo, s)
    else if s.salvoBusy n then (.refuse .salvoBusy, s)
    else (.ok [], s.setSalvo n [])

/-- The origin a request's panel field gives its takes; an unenrolled panel's entries all fail check 3 (R25). -/
def fieldOrigin (panel : Byte) : TakeOrigin :=
  match below 64 panel.toNat with
  | some p => panelOrigin p
  | none => .direct

/-- The items of R68 and R72 from the group serial on. -/
def eFired (serial : U16) (admitted superseded : Nat) (first : Option (Status × Dest)) : List Byte :=
  bytes16 serial ++ e1 admitted ++ e1 superseded ++ eOpt (fun f : Status × Dest => [statusCode f.1] ++ e2 f.2.val) first

/-- A refused fire's reply: with its destination, or with none (R68). -/
def fireRefusal (code : Status) : Option Dest → Reply
  | some d => .naming code d.val
  | none => .refuse code

/-- FIRE SALVO (R64 to R68). -/
def runFireSalvo (salvo panel mode report : Byte) (s : State) : Reply × State :=
  match below 32 salvo.toNat, asGroupMode mode, asFlag report with
  | none, _, _ => (.badField 1, s)
  | some _, none, _ => (.badField 3, s)
  | some _, some _, none => (.badField 4, s)
  | some n, some m, some r =>
    match s.fireSalvo n ⟨panel.toNat, m, r, fieldOrigin panel, some n⟩ with
    | (.refused code d, _) => (fireRefusal code d, s)
    | (.fired serial admitted superseded first, s1) => (.ok (eFired serial admitted superseded first), s1.settle)

/-- UNDO (R71, R72). -/
def runUndo (panel : Byte) (s : State) : Reply × State :=
  match s.store.undo with
  | [] => (.refuse .nothingToUndo, s)
  | u :: rest =>
    match s.fireEntries ⟨panel.toNat, .partialMode, false, .undo, none⟩ u.pairs with
    | (.refused code d, _) => (fireRefusal code d, s)
    | (.fired serial admitted superseded first, s1) =>
      (.ok (e1 u.salvo.val ++ eFired serial admitted superseded first),
        State.settle { s1 with store := { s1.store with undo := rest } })

/-- The live members of a salvo's group in a state, or the first live member (R73). -/
def State.members (s : State) (n : Salvo) : List Take :=
  (s.pool.slots.toList.filterMap SlotRec.take).filter (fun t => t.state.active &&
    (match t.group with
     | some g => decide (g.salvo = some n)
     | none => false))

/-- The group serial of the live members, and their number in each state (R73). -/
def eBusy (l : List Take) : List Byte :=
  (match l.head?.bind Take.group with
   | some g => bytes16 g.serial
   | none => e2 0) ++
  [TakeState.queued, .held, .issued, .retry].flatMap
    (fun st => e1 (l.filter (fun t => decide (t.state = st))).length)

/-- READ SALVO (R73). "Stored or empty" is one byte, 1 or 0, as 11.4 gives it no code, and the count and entries follow a 1
alone. The BUSY flag is one byte, and the group serial and the four counts follow a 1 alone, with no presence byte of their
own. DESIGN CHOICE, both (log 31). -/
def readSalvoResult (s : State) (n : Salvo) : List Byte :=
  let l := s.salvo n
  (if l = [] then e1 0 else e1 1 ++ e1 l.length ++ l.flatMap (fun e => e1 e.1.val ++ e2 e.2.val)) ++
  (if s.salvoBusy n then eFlag true ++ eBusy (s.members n) else eFlag false) ++
  e2 (Config.salvoMemory - s.memoryUsed) ++ e1 s.store.undo.length ++ s.store.undo.flatMap (fun u => e1 u.salvo.val)

def runReadSalvo (salvo : Byte) (s : State) : Reply × State :=
  match below 32 salvo.toNat with
  | none => (.badField 1, s)
  | some n => (.ok (readSalvoResult s n), s)

/-! ## Meanings -/

def execStoreSalvo (tag salvo : Byte) (content : List (Byte × U16)) (s : State) : Host.Outcome State Fault Refusal :=
  requestArrives (.storeSalvo tag salvo content) (runStoreSalvo salvo content) s

def execEraseSalvo (tag salvo : Byte) (s : State) : Host.Outcome State Fault Refusal :=
  requestArrives (.eraseSalvo tag salvo) (runEraseSalvo salvo) s

def execFireSalvo (tag salvo panel mode report : Byte) (s : State) : Host.Outcome State Fault Refusal :=
  requestArrives (.fireSalvo tag salvo panel mode report) (runFireSalvo salvo panel mode report) s

def execUndo (tag panel : Byte) (s : State) : Host.Outcome State Fault Refusal :=
  requestArrives (.undo tag panel) (runUndo panel) s

def execReadSalvo (tag salvo : Byte) (s : State) : Host.Outcome State Fault Refusal :=
  requestArrives (.readSalvo tag salvo) (runReadSalvo salvo) s

end Sys2Proof.Machine
end

