-- ==== Sys2Proof/Machine/Tables.lean ====
section
/-! DEFINITION. SET SOURCE LABEL, SET DEST CONFIG, READ DEST and READ SOURCE (01_the_crosspoint_table.md R16 to R19). -/

namespace Sys2Proof.Machine

/-- SET SOURCE LABEL (R16). -/
def runSetSourceLabel (source : U16) (label : TextField) (s : State) : Reply × State :=
  match below 512 source.toNat with
  | none => (.badField 1, s)
  | some x =>
    if textOk label then (.ok [], ((s.setSrc x { s.src x with label := label }).hand (.source x)).settleWalls)
    else (.badField 2, s)

/-- The fields SET DEST CONFIG writes. -/
structure DestConfig where
  name : Option Text
  domain : Dom
  zone : Zone
  role : Role
  deriving DecidableEq, Repr

/-- R17 once the request has passed: the fields, the counts of a role change, and the hand-over of a new name. -/
def configureDest (s : State) (d : Dest) (c : DestConfig) : State :=
  let s1 := s.changeRole d c.role
  let s2 := s1.setDest d { s1.dest d with name := c.name, domain := c.domain, zone := c.zone }
  if c.name = (s.dest d).name then s2 else s2.hand (.dest d)

/-- SET DEST CONFIG (R17). -/
def runSetDestConfig (dest : Byte) (name : TextField) (domain zone role : Byte) (s : State) : Reply × State :=
  let d : Dest := dest.toFin
  if textOk name = false then (.badField 2, s)
  else
    match below 4 domain.toNat, below 8 zone.toNat, asRole role with
    | none, _, _ => (.badField 3, s)
    | some _, none, _ => (.badField 4, s)
    | some _, some _, none => (.badField 5, s)
    | some m, some z, some r =>
      if m ≠ (s.dest d).domain ∧ s.activeDest d then (.refuse .destActive, s)
      else (.ok [], (configureDest s d ⟨name, m, z, r⟩).settleWalls)

/-- The code of the state a slot is in; FREE is 0 (R20). -/
def State.slotStateCode (s : State) (i : Slot) : Nat :=
  match (s.slot i).take with
  | some t => takeStateCode t.state
  | none => 0

/-- The take activity of a destination (R18): 0 IDLE, else the take state's code. -/
def State.activityCode (s : State) (d : Dest) : Nat :=
  match s.outstandingOf d, s.waitingOf d with
  | some i, _ => s.slotStateCode i
  | none, some j => s.slotStateCode j
  | none, none => 0

/-- READ DEST (R18). -/
def readDestResult (s : State) (d : Dest) : List Byte :=
  let r := s.dest d
  eText r.name ++ e1 r.domain.val ++ e1 r.zone.val ++ e1 (roleCode r.role) ++ eSource r.source ++
  e1 (outputCode r.output) ++ e1 (changeOriginCode r.origin) ++ eTime r.stamp ++ [r.takeCount] ++
  e1 (s.activityCode d) ++
  eOpt eTag ((s.waitingOf d).map s.tagOf) ++ eOpt eTag ((s.outstandingOf d).map s.tagOf) ++
  eOpt (fun p : Port => e1 p.val) (s.portOf d) ++
  eOpt (fun p : Protect => e1 p.holder.val ++ e1 (protectKindCode p.kind)) (s.protectOf d)

def runReadDest (dest : Byte) (s : State) : Reply × State :=
  (.ok (readDestResult s dest.toFin), s)

/-- READ SOURCE (R19). An absent label is sent with the absent marker of R19 and R182, not as R16's "SRC nnn": DEDUCED
(log 30). -/
def readSourceResult (r : SrcRec) : List Byte :=
  eText r.label ++ e2 r.programme ++ e2 r.preview ++ e2 r.record ++ e1 (colourCode r.colour)

def runReadSource (source : U16) (s : State) : Reply × State :=
  match below 512 source.toNat with
  | none => (.badField 1, s)
  | some x => (.ok (readSourceResult (s.src x)), s)

/-! ## Meanings -/

def execSetSourceLabel (tag : Byte) (source : U16) (label : TextField) (s : State) :
    Host.Outcome State Fault Refusal :=
  requestArrives (.setSourceLabel tag source label) (runSetSourceLabel source label) s

def execSetDestConfig (tag dest : Byte) (name : TextField) (domain zone role : Byte) (s : State) :
    Host.Outcome State Fault Refusal :=
  requestArrives (.setDestConfig tag dest name domain zone role) (runSetDestConfig dest name domain zone role) s

def execReadDest (tag dest : Byte) (s : State) : Host.Outcome State Fault Refusal :=
  requestArrives (.readDest tag dest) (runReadDest dest) s

def execReadSource (tag : Byte) (source : U16) (s : State) : Host.Outcome State Fault Refusal :=
  requestArrives (.readSource tag source) (runReadSource source) s

end Sys2Proof.Machine
end

