-- ==== Sys2Proof/Machine/Walls.lean ====
section
/-! DEFINITION. Wall link frames, timeouts and requests (07_wall_links.md R126 to R136). -/

namespace Sys2Proof.Machine

namespace State

/-- HELLO (R130). -/
def wallHello (s : State) (w : Wall) : State :=
  let s1 := (s.setWall w { s.wall w with outstanding := none }).fullRefresh w
  ((s1.setWall w { s1.wall w with link := .idle }).flagWall w .idle).sendUpdate w

/-- The outstanding frame has been acknowledged or timed out: it is removed and the link takes the state given. -/
def dropFrame (s : State) (w : Wall) (l : WallState) : State :=
  s.setWall w { s.wall w with outstanding := none, link := l }

/-- The frame number of the outstanding frame while the link is AWAIT ACK. -/
def awaited (s : State) (w : Wall) : Option Byte :=
  if (s.wall w).link = .awaitAck then (s.wall w).outstanding.map OutFrame.number else none

/-- ACK (R128): one of any other number, or in any other state, is discarded. -/
def wallAck (s : State) (w : Wall) (number : Byte) : State :=
  if s.awaited w = some number then (s.dropFrame w .idle).sendUpdate w else s

/-- The outstanding frame has waited 20,000 µs (R129). -/
def ackDue (s : State) (w : Wall) : Bool :=
  match (s.wall w).outstanding with
  | some f => decide ((s.wall w).link = .awaitAck) && decide (Config.ackTimeout ≤ since s.now f.sentAt)
  | none => false

/-- ACK_TIMEOUT (R129). -/
def ackTimeout (s : State) (w : Wall) : State :=
  if s.ackDue w then (s.dropFrame w .stalled).flagWall w .stalled else s

/-- A frame accepted by its shape on a wall link; one that is neither HELLO nor ACK is discarded (R132). -/
def wallFrame (s : State) (w : Wall) (f : PartnerFrame) : State :=
  match f.kind.toNat, f.body with
  | 1, [] => s.wallHello w
  | 2, [number] => s.wallAck w number
  | _, _ => s

def setWallRx (s : State) (w : Wall) (r : PartnerRx) : State := { s with wallRx := put s.wallRx w r }

/-- A byte on a wall link's receive pair. -/
def wallByte (w : Wall) (s : State) (b : Byte) : State :=
  let (r, frame) := (look s.wallRx w).feed s.now b
  let s1 := s.setWallRx w r
  match frame with
  | some f => s1.wallFrame w f
  | none => s1

/-- R131, R135: a full refresh; a STALLED link becomes IDLE. -/
def refreshWall (s : State) (w : Wall) : State :=
  let s1 := s.fullRefresh w
  if (s1.wall w).link = .stalled then s1.setWall w { s1.wall w with link := .idle } else s1

/-- BIND TILE once accepted: the binding, the mark, and a frame if the link is IDLE (R134). -/
def bindTile (s : State) (w : Wall) (t : Tile) (b : Binding) : State :=
  let r := s.wall w
  (s.setWall w { r with tiles := put r.tiles t b, queue := enqueueTiles r.queue [t] }).sendUpdate w

end State

/-! ## Requests -/

/-- A binding of BIND TILE, or the index of the field that fails (R134); the value is not read for NONE. -/
def asBinding (kind : Byte) (value : U16) : Except Nat Binding :=
  match kind.toNat with
  | 0 => .ok .none
  | 1 =>
    match below 256 value.toNat with
    | some d => .ok (.dest d)
    | none => .error 4
  | 2 =>
    match below 512 value.toNat with
    | some x => .ok (.source x)
    | none => .error 4
  | _ => .error 3

/-- BIND TILE (R134). -/
def runBindTile (wall tile kind : Byte) (value : U16) (s : State) : Reply × State :=
  match below 8 wall.toNat, below 64 tile.toNat, asBinding kind value with
  | none, _, _ => (.badField 1, s)
  | some _, none, _ => (.badField 2, s)
  | some _, some _, .error index => (.badField index, s)
  | some w, some t, .ok b => (.ok [], s.bindTile w t b)

/-- REFRESH WALL (R135): the reply tells the link as the request leaves it, its first frame sent (log 25). -/
def runRefreshWall (wall : Byte) (s : State) : Reply × State :=
  match below 8 wall.toNat with
  | none => (.badField 1, s)
  | some w =>
    let s1 := (s.refreshWall w).sendUpdate w
    (.ok (e1 (wallStateCode (s1.wall w).link) ++ e1 (s1.wall w).queue.length), s1)

/-- READ WALL (R136). The tile's content is an optional item with its presence byte (R182; log 13). -/
def readWallResult (s : State) (w : Wall) (tile : Option Tile) : List Byte :=
  let r := s.wall w
  let tiles := fun l : List Tile => e1 l.length ++ l.flatMap (fun t => e1 t.val)
  e1 (wallStateCode r.link) ++ [r.number] ++
  eOpt (fun f : OutFrame => [f.number] ++ tiles f.tiles ++ eTime f.sentAt) r.outstanding ++
  tiles r.queue ++ r.tiles.toList.flatMap eBinding ++
  eOpt (fun t => eContent (s.compose (look r.tiles t))) tile ++ eTime s.now

def runReadWall (wall : Byte) (tile : OptField Byte) (s : State) : Reply × State :=
  match below 8 wall.toNat, asOpt (fun b : Byte => below 64 b.toNat) tile with
  | none, _ => (.badField 1, s)
  | some _, none => (.badField 2, s)
  | some w, some t => (.ok (readWallResult s w t), s)

/-! ## Meanings -/

def execBindTile (tag wall tile kind : Byte) (value : U16) (s : State) : Host.Outcome State Fault Refusal :=
  requestArrives (.bindTile tag wall tile kind value) (runBindTile wall tile kind value) s

def execRefreshWall (tag wall : Byte) (s : State) : Host.Outcome State Fault Refusal :=
  requestArrives (.refreshWall tag wall) (runRefreshWall wall) s

def execReadWall (tag wall : Byte) (tile : OptField Byte) (s : State) : Host.Outcome State Fault Refusal :=
  requestArrives (.readWall tag wall tile) (runReadWall wall tile) s

def execHello (wall : Wall) (s : State) : Host.Outcome State Fault Refusal := .next (s.wallHello wall)

def execAck (wall : Wall) (number : Byte) (s : State) : Host.Outcome State Fault Refusal := .next (s.wallAck wall number)

def execAckTimeout (wall : Wall) (s : State) : Host.Outcome State Fault Refusal := .next (s.ackTimeout wall)

/-- WALL_FRAME_DISCARDED (R132): bytes on a wall link; only a frame that passes every check acts (log 16). -/
def execWallFrameDiscarded (wall : Wall) (bytes : List Byte) (s : State) : Host.Outcome State Fault Refusal :=
  .next (bytes.foldl (State.wallByte wall) s)

end Sys2Proof.Machine
end

