-- ==== Sys2Proof/Machine/Links.lean ====
section
/-! DEFINITION. The framing receiver, attention, identity, RESTART and cold reset (10_the_control_link.md R171 to R181),
and the execution of a queued request. -/

namespace Sys2Proof.Machine

/-! ## Attention (R176, R177) -/

/-- What READ ATTENTION delivers: cause, detail, and the summary without it. -/
structure Delivery where
  cause : Nat
  detail : List Byte
  rest : State

namespace State

def setFlags (s : State) (f : Flags) : State := { s with flags := f }

def deliverDestFault (s : State) : Option Delivery :=
  (firstPending s.flags.destFault).map (fun e =>
    ⟨1, e1 e.1.val ++ eTag e.2, s.setFlags { s.flags with destFault := put s.flags.destFault e.1 none }⟩)

def deliverLockBreach (s : State) : Option Delivery :=
  (firstPending s.flags.lockBreach).map (fun e =>
    ⟨2, eLockBreach e.1 e.2.1 e.2.2, s.setFlags { s.flags with lockBreach := put s.flags.lockBreach e.1 none }⟩)

def deliverDomain (s : State) : Option Delivery :=
  (firstPending s.flags.domain).map (fun e =>
    ⟨3, e1 e.1.val ++ e1 (lockCode e.2.1) ++ eFlag e.2.2,
      s.setFlags { s.flags with domain := put s.flags.domain e.1 none }⟩)

def deliverRecorder (s : State) : Option Delivery :=
  (firstPending s.flags.recorder).map (fun e =>
    ⟨4, e1 e.1.val ++ e1 (onlineCode e.2.1) ++ e1 (reportedCode e.2.2),
      s.setFlags { s.flags with recorder := put s.flags.recorder e.1 none }⟩)

def deliverWall (s : State) : Option Delivery :=
  (firstPending s.flags.wall).map (fun e =>
    ⟨5, e1 e.1.val ++ e1 (wallStateCode e.2), s.setFlags { s.flags with wall := put s.flags.wall e.1 none }⟩)

/-- R113: the head of the discrepancy list. -/
def deliverDiscrepancy (s : State) : Option Delivery :=
  s.bus.discrepancies.head?.map (fun r =>
    ⟨6, eDiscrepancy r, s.setBus { s.bus with discrepancies := s.bus.discrepancies.tail }⟩)

def deliverReleased (s : State) : Option Delivery :=
  (firstPending s.flags.released).map (fun e =>
    ⟨7, e1 e.1.val ++ e1 e.2.1.val ++ e1 (reasonCode e.2.2),
      s.setFlags { s.flags with released := put s.flags.released e.1 none }⟩)

def deliverComparator (s : State) : Option Delivery :=
  (firstPending s.flags.comparator).map (fun e =>
    ⟨8, e1 e.1.val ++ eFlag e.2.1 ++ [statusCode e.2.2],
      s.setFlags { s.flags with comparator := put s.flags.comparator e.1 none }⟩)

/-- The ended take of a DONE slot. -/
def endedOf (s : State) (i : Slot) : Option EndedTake :=
  (s.slot i).take.bind (fun t => t.outcome.map (fun o => ⟨s.tagOf i, t.dest, t.source, o⟩))

/-- R43: the head of the report list leaves it, and its slot is freed. -/
def deliverReport (s : State) : Option Delivery :=
  s.pool.reports.head?.bind (fun i => (s.endedOf i).map (fun e =>
    let s1 := s.setSlot i ⟨(s.slot i).gen, none, some e⟩
    ⟨9, eReport e, { s1 with pool := { s1.pool with reports := s1.pool.reports.tail } }⟩))

/-- The instance of highest priority (R177). -/
def nextDelivery (s : State) : Option Delivery :=
  s.deliverDestFault.or (s.deliverLockBreach.or (s.deliverDomain.or (s.deliverRecorder.or (s.deliverWall.or
    (s.deliverDiscrepancy.or (s.deliverReleased.or (s.deliverComparator.or s.deliverReport)))))))

end State

/-- READ ATTENTION (R177): the cause, the instances still pending, the detail (11.3). -/
def runReadAttention (s : State) : Reply × State :=
  match s.nextDelivery with
  | some d => (.ok (e1 d.cause ++ e2 d.rest.instances ++ d.detail), d.rest)
  | none => (.refuse .none, s)

/-! ## Identity -/

/-- IDENTIFY (R179). -/
def runIdentify (s : State) : Reply × State := (.ok (identityRecord s.straps), s)

/-! ## RESTART (R180) -/

/-- R23: every slot is freed with its generation kept and its previous take cleared; queues and lists are emptied. -/
def Pool.restart (p : Pool) : Pool where
  slots := mapTable (fun _ r => ⟨r.gen, none, none⟩) p.slots
  queues := Vector.replicate 4 []
  reports := []
  issued := []

/-- R164: a comparator is OFF, with no last result. -/
def CmpRec.restart (r : CmpRec) : CmpRec := { r with state := .off, lastResult := none }

/-- R153: the command queue and the MARK slot are emptied. -/
def PortRec.restart (r : PortRec) : PortRec := { r with queue := [], markPending := false }

/-- R2: a FAULTED destination becomes UNKNOWN. -/
def DestRec.restart (r : DestRec) : DestRec := { r with output := r.output.after .restart }

/-- The destinations RESTART moves from FAULTED to UNKNOWN, ascending (R2). -/
def State.faulted (s : State) : List Dest :=
  ((entries s.dests).filter (fun e => decide (e.2.output = .faulted))).map (fun e => e.1)

/-- R116: the bus's part, with the priority readback list as R2 leaves it. -/
def Bus.restart (b : Bus) (faulted : List Dest) : Bus :=
  { b with
    retry := Vector.replicate 4 []
    absent := []
    discrepancies := []
    priority := b.priority ++ faulted.filter (fun d => !b.priority.contains d) }

/-- R180: RESTART, all but its reply. Every record restarts; then each closing domain, its pool empty, becomes CLOSED, and
each wall is refreshed and an IDLE link sends. -/
def State.restartAll (s : State) : State :=
  let s1 : State := { s with
    dests := mapTable (fun _ r => r.restart) s.dests
    pool := s.pool.restart
    registry := { s.registry with protects := Vector.replicate 256 none }
    store := { s.store with undo := [] }
    bus := s.bus.restart s.faulted
    ports := mapTable (fun _ r => r.restart) s.ports
    cmps := mapTable (fun _ r => r.restart) s.cmps
    link := { s.link with queue := [] }
    flags := Flags.reset }
  (List.finRange 8).foldl (fun t w => (t.refreshWall w).sendUpdate w) s1.serveClosings

def runRestart (s : State) : Reply × State := (.ok [], s.restartAll)

/-! ## Execution of a queued request (R174) -/

/-- A command that is no request: it is never decoded from a frame. -/
def noRequest (s : State) : Reply × State := (.refuse .badKind, s)

/-- The owning block's effect of each request. -/
def requestEffect : Instr → State → Reply × State
  | .identify _ => runIdentify
  | .readAttention _ => runReadAttention
  | .restart _ => runRestart
  | .setSourceLabel _ source label => runSetSourceLabel source label
  | .setDestConfig _ dest name domain zone role => runSetDestConfig dest name domain zone role
  | .readDest _ dest => runReadDest dest
  | .readSource _ source => runReadSource source
  | .take _ dest source panel condition report => runTake dest source panel condition report
  | .cancelTake _ slot gen => runCancelTake slot gen
  | .readTake _ slot gen => runReadTake slot gen
  | .enrolPanel _ panel level => runEnrolPanel panel level
  | .setPanelLevel _ panel level => runSetPanelLevel panel level
  | .withdrawPanel _ panel => runWithdrawPanel panel
  | .setZone _ zone level => runSetZone zone level
  | .protectDest _ dest panel kind level restore => runProtectDest dest panel kind level restore
  | .releaseDest _ dest panel => runReleaseDest dest panel
  | .storeSalvo _ salvo content => runStoreSalvo salvo content
  | .eraseSalvo _ salvo => runEraseSalvo salvo
  | .fireSalvo _ salvo panel mode report => runFireSalvo salvo panel mode report
  | .undo _ panel => runUndo panel
  | .readSalvo _ salvo => runReadSalvo salvo
  | .setDomain _ domain standard settle holdover hold => runSetDomain domain standard settle holdover hold
  | .openDomain _ domain => runOpenDomain domain
  | .closeDomain _ domain mode => runCloseDomain domain mode
  | .setTimecode _ domain value => runSetTimecode domain value
  | .armMark _ domain mode preset event => runArmMark domain mode preset event
  | .disarmMark _ domain => runDisarmMark domain
  | .readDomain _ domain => runReadDomain domain
  | .setVerify _ interval policy => runSetVerify interval policy
  | .startWalk _ => runStartWalk
  | .clearFault _ dest => runClearFault dest
  | .readBus _ => runReadBus
  | .bindTile _ wall tile kind value => runBindTile wall tile kind value
  | .refreshWall _ wall => runRefreshWall wall
  | .readWall _ wall tile => runReadWall wall tile
  | .bindRecorder _ port dest policy event guardTime pollTimeout =>
    runBindRecorder port dest policy event guardTime pollTimeout
  | .recorderCommand _ port command => runRecorderCommand port command
  | .readRecorder _ port => runReadRecorder port
  | .setGpi _ input debounce => runSetGpi input debounce
  | .setComparator _ k domain origin margin period strict mode trigger panel tk t1 t2 fk f1 f2 =>
    runSetComparator k domain origin margin period strict mode trigger panel tk t1 t2 fk f1 f2
  | .readComparator _ k => runReadComparator k
  | .coldReset .. => noRequest
  | .ctlRxByte .. => noRequest
  | .truncated => noRequest
  | .transmitFrameSent => noRequest
  | .badKind .. => noRequest
  | .confirmOwn .. => noRequest
  | .confirmForeign .. => noRequest
  | .answer .. => noRequest
  | .answerTimeout => noRequest
  | .discardedTransaction .. => noRequest
  | .readback => noRequest
  | .transferEnd => noRequest
  | .absentTimerExpiry .. => noRequest
  | .verifyInterval => noRequest
  | .referenceFrameStart .. => noRequest
  | .referenceLossTimeout .. => noRequest
  | .timerFrameStart .. => noRequest
  | .holdLimitExpiry .. => noRequest
  | .gpiPinChange .. => noRequest
  | .debounceExpiry .. => noRequest
  | .status .. => noRequest
  | .cmdAck .. => noRequest
  | .pollTimeout .. => noRequest
  | .guardEnd .. => noRequest
  | .recorderReplyDiscarded .. => noRequest
  | .hello .. => noRequest
  | .ack .. => noRequest
  | .ackTimeout .. => noRequest
  | .wallFrameDiscarded .. => noRequest
  | .partnerByteGap .. => noRequest

/-- What execution makes of a frame (R174): its kind, its body size, then the owning block. -/
def frameEffect (f : ReqFrame) (s : State) : Reply × State :=
  match decodeRequest f with
  | .badKind => (.refuse .badKind, s)
  | .badLength => (.refuse .badLength, s)
  | .request c => requestEffect c s

namespace State

def setLink (s : State) (l : Link) : State := { s with link := l }

/-- The head of the request queue is executed if no reply is held (R174). -/
def executeHead (s : State) : State :=
  match s.link.queue with
  | [] => s
  | f :: rest => if s.replyHeld then s else (s.setLink { s.link with queue := rest }).answerRequest f (frameEffect f)

/-- A completed frame (R173, R174). -/
def frameComplete (s : State) (f : ReqFrame) : State :=
  if s.linkFree then s.answerRequest f (frameEffect f) else s.joinQueue f

/-! ## The framing receiver (R171, R172) -/

/-- What a byte makes of a receiver: a receiver, and the frame it completes or the reason it is rejected for. -/
inductive Received
  | none
  | frame (f : ReqFrame)
  | rejected (reason : Nat)
  deriving DecidableEq, Repr

end State

/-- R171's table. -/
def Receiver.feed : Receiver → Byte → Receiver × State.Received
  | .hunt, b => (if b = 0xA5 then .length none else .hunt, .none)
  | .length none, b => (.length (some b), .none)
  | .length (some a), b =>
    if Config.bodyLimit < (u16 a b).toNat then (.hunt, .rejected 2) else (.header (u16 a b) none, .none)
  | .header len none, b => (.header len (some b), .none)
  | .header len (some kind), b => (if len = 0 then .crc len kind b [] none else .body len kind b [], .none)
  | .body len kind tag held, b =>
    let got := held ++ [b]
    (if got.length = len.toNat then .crc len kind tag got none else .body len kind tag got, .none)
  | .crc len kind tag held none, b => (.crc len kind tag held (some b), .none)
  | .crc len kind tag held (some a), b =>
    (.hunt, if crc16 (bytes16 len ++ (kind :: tag :: held)) = u16 a b then .frame ⟨kind, tag, held⟩ else .rejected 1)

namespace State

/-- The receiver is outside HUNT, and 5000 µs have passed with no byte (R172). -/
def truncationDue (s : State) : Bool :=
  decide (s.link.receiver ≠ .hunt) && decide (Config.byteGap ≤ since s.now s.link.lastByteAt)

/-- The frame being received ends as TRUNCATED (R172). -/
def truncate (s : State) : State := (s.setLink { s.link with receiver := .hunt }).reject 3

/-- A byte with a good stop bit (R171). -/
def receive (s : State) (b : Byte) : State :=
  let (r, what) := s.link.receiver.feed b
  let s1 := s.setLink { s.link with receiver := r, lastByteAt := s.now }
  match what with
  | .none => s1
  | .frame f => s1.frameComplete f
  | .rejected reason => s1.reject reason

/-- CTL_RX_BYTE (R171, R172). -/
def rxByte (s : State) (b : Byte) (stopError : Bool) : State :=
  if stopError then (if s.link.receiver = .hunt then s else s.truncate) else s.receive b

/-- TRANSMIT_FRAME_SENT (R174, R175): the head frame has been sent; if it was a reply, the head request is executed. -/
def frameSent (s : State) : State :=
  match s.link.transmit with
  | [] => s
  | _ :: rest => (s.setLink { s.link with transmit := rest }).executeHead

/-! ## Partner links -/

/-- PARTNER_BYTE_GAP (R183): a gap of over 2000 µs inside a frame. -/
def partnerGap (s : State) : PartnerLink → State
  | .wall w => if (look s.wallRx w).gapDue s.now then s.setWallRx w (look s.wallRx w).drop else s
  | .recorder p => if (look s.recorderRx p).gapDue s.now then s.setRecorderRx p (look s.recorderRx p).drop else s

end State

/-! ## Meanings -/

/-- COLD_RESET (R178): every record at its cold reset value; the pins stand, and each GPI record takes its pin's level
(R160). -/
def execColdReset (masterHigh rate1 rate0 : Bool) (s : State) : Host.Outcome State Fault Refusal :=
  .next (State.coldReset ⟨masterHigh, rate1, rate0⟩ (mapTable (fun _ r => GpiRec.reset r.pin) s.gpis)
    s.choices s.pending)

def execCtlRxByte (b : Byte) (stopError : Bool) (s : State) : Host.Outcome State Fault Refusal :=
  .next (s.rxByte b stopError)

/-- TRUNCATED (R172). -/
def execTruncated (s : State) : Host.Outcome State Fault Refusal := .next (if s.truncationDue then s.truncate else s)

def execTransmitFrameSent (s : State) : Host.Outcome State Fault Refusal := .next s.frameSent

/-- BAD_KIND (R174): a frame whose kind is not a request kind. -/
def execBadKind (tag kind : Byte) (body : List Byte) (s : State) : Host.Outcome State Fault Refusal :=
  requestArrives (.badKind tag kind body) noRequest s

def execIdentify (tag : Byte) (s : State) : Host.Outcome State Fault Refusal :=
  requestArrives (.identify tag) runIdentify s

def execReadAttention (tag : Byte) (s : State) : Host.Outcome State Fault Refusal :=
  requestArrives (.readAttention tag) runReadAttention s

def execRestart (tag : Byte) (s : State) : Host.Outcome State Fault Refusal :=
  requestArrives (.restart tag) runRestart s

def execPartnerByteGap (link : PartnerLink) (s : State) : Host.Outcome State Fault Refusal :=
  .next (s.partnerGap link)

end Sys2Proof.Machine
end

