-- ==== Sys2Proof/Machine/Dispatch.lean ====
section
/-! DEFINITION. One arm for each command: its meaning. -/

namespace Sys2Proof.Machine

def exec (i : Instr) (s : State) : Host.Outcome State Fault Refusal :=
  match i with
  | .coldReset masterHigh rate1 rate0 => Sys2Proof.Machine.execColdReset masterHigh rate1 rate0 s
  | .ctlRxByte b stopError => Sys2Proof.Machine.execCtlRxByte b stopError s
  | .truncated => Sys2Proof.Machine.execTruncated s
  | .transmitFrameSent => Sys2Proof.Machine.execTransmitFrameSent s
  | .badKind tag kind body => Sys2Proof.Machine.execBadKind tag kind body s
  | .identify tag => Sys2Proof.Machine.execIdentify tag s
  | .readAttention tag => Sys2Proof.Machine.execReadAttention tag s
  | .restart tag => Sys2Proof.Machine.execRestart tag s
  | .setSourceLabel tag source label => Sys2Proof.Machine.execSetSourceLabel tag source label s
  | .setDestConfig tag dest name domain zone role => Sys2Proof.Machine.execSetDestConfig tag dest name domain zone role s
  | .readDest tag dest => Sys2Proof.Machine.execReadDest tag dest s
  | .readSource tag source => Sys2Proof.Machine.execReadSource tag source s
  | .take tag dest source panel condition report => Sys2Proof.Machine.execTake tag dest source panel condition report s
  | .cancelTake tag slot gen => Sys2Proof.Machine.execCancelTake tag slot gen s
  | .readTake tag slot gen => Sys2Proof.Machine.execReadTake tag slot gen s
  | .enrolPanel tag panel level => Sys2Proof.Machine.execEnrolPanel tag panel level s
  | .setPanelLevel tag panel level => Sys2Proof.Machine.execSetPanelLevel tag panel level s
  | .withdrawPanel tag panel => Sys2Proof.Machine.execWithdrawPanel tag panel s
  | .setZone tag zone level => Sys2Proof.Machine.execSetZone tag zone level s
  | .protectDest tag dest panel kind level restore => Sys2Proof.Machine.execProtectDest tag dest panel kind level restore s
  | .releaseDest tag dest panel => Sys2Proof.Machine.execReleaseDest tag dest panel s
  | .storeSalvo tag salvo content => Sys2Proof.Machine.execStoreSalvo tag salvo content s
  | .eraseSalvo tag salvo => Sys2Proof.Machine.execEraseSalvo tag salvo s
  | .fireSalvo tag salvo panel mode report => Sys2Proof.Machine.execFireSalvo tag salvo panel mode report s
  | .undo tag panel => Sys2Proof.Machine.execUndo tag panel s
  | .readSalvo tag salvo => Sys2Proof.Machine.execReadSalvo tag salvo s
  | .setDomain tag domain standard settle holdover holdLimit => Sys2Proof.Machine.execSetDomain tag domain standard settle holdover holdLimit s
  | .openDomain tag domain => Sys2Proof.Machine.execOpenDomain tag domain s
  | .closeDomain tag domain mode => Sys2Proof.Machine.execCloseDomain tag domain mode s
  | .setTimecode tag domain value => Sys2Proof.Machine.execSetTimecode tag domain value s
  | .armMark tag domain mode preset event => Sys2Proof.Machine.execArmMark tag domain mode preset event s
  | .disarmMark tag domain => Sys2Proof.Machine.execDisarmMark tag domain s
  | .readDomain tag domain => Sys2Proof.Machine.execReadDomain tag domain s
  | .setVerify tag interval policy => Sys2Proof.Machine.execSetVerify tag interval policy s
  | .startWalk tag => Sys2Proof.Machine.execStartWalk tag s
  | .clearFault tag dest => Sys2Proof.Machine.execClearFault tag dest s
  | .readBus tag => Sys2Proof.Machine.execReadBus tag s
  | .bindTile tag wall tile kind value => Sys2Proof.Machine.execBindTile tag wall tile kind value s
  | .refreshWall tag wall => Sys2Proof.Machine.execRefreshWall tag wall s
  | .readWall tag wall tile => Sys2Proof.Machine.execReadWall tag wall tile s
  | .bindRecorder tag port dest policy event guardTime pollTimeout => Sys2Proof.Machine.execBindRecorder tag port dest policy event guardTime pollTimeout s
  | .recorderCommand tag port command => Sys2Proof.Machine.execRecorderCommand tag port command s
  | .readRecorder tag port => Sys2Proof.Machine.execReadRecorder tag port s
  | .setGpi tag input debounce => Sys2Proof.Machine.execSetGpi tag input debounce s
  | .setComparator tag comparator domain origin margin period strict mode trigger panel trueKind trueParam1 trueParam2 falseKind falseParam1 falseParam2 => Sys2Proof.Machine.execSetComparator tag comparator domain origin margin period strict mode trigger panel trueKind trueParam1 trueParam2 falseKind falseParam1 falseParam2 s
  | .readComparator tag comparator => Sys2Proof.Machine.execReadComparator tag comparator s
  | .confirmOwn d src => Sys2Proof.Machine.execConfirmOwn d src s
  | .confirmForeign d src => Sys2Proof.Machine.execConfirmForeign d src s
  | .answer d src => Sys2Proof.Machine.execAnswer d src s
  | .answerTimeout => Sys2Proof.Machine.execAnswerTimeout s
  | .discardedTransaction bytes => Sys2Proof.Machine.execDiscardedTransaction bytes s
  | .readback => Sys2Proof.Machine.execReadback s
  | .transferEnd => Sys2Proof.Machine.execTransferEnd s
  | .absentTimerExpiry slot => Sys2Proof.Machine.execAbsentTimerExpiry slot s
  | .verifyInterval => Sys2Proof.Machine.execVerifyInterval s
  | .referenceFrameStart domain => Sys2Proof.Machine.execReferenceFrameStart domain s
  | .referenceLossTimeout domain => Sys2Proof.Machine.execReferenceLossTimeout domain s
  | .timerFrameStart domain refFollows => Sys2Proof.Machine.execTimerFrameStart domain refFollows s
  | .holdLimitExpiry slot => Sys2Proof.Machine.execHoldLimitExpiry slot s
  | .gpiPinChange input high => Sys2Proof.Machine.execGpiPinChange input high s
  | .debounceExpiry input => Sys2Proof.Machine.execDebounceExpiry input s
  | .status port reported => Sys2Proof.Machine.execStatus port reported s
  | .cmdAck port command accepted => Sys2Proof.Machine.execCmdAck port command accepted s
  | .pollTimeout port => Sys2Proof.Machine.execPollTimeout port s
  | .guardEnd port => Sys2Proof.Machine.execGuardEnd port s
  | .recorderReplyDiscarded port bytes => Sys2Proof.Machine.execRecorderReplyDiscarded port bytes s
  | .hello wall => Sys2Proof.Machine.execHello wall s
  | .ack wall number => Sys2Proof.Machine.execAck wall number s
  | .ackTimeout wall => Sys2Proof.Machine.execAckTimeout wall s
  | .wallFrameDiscarded wall bytes => Sys2Proof.Machine.execWallFrameDiscarded wall bytes s
  | .partnerByteGap link => Sys2Proof.Machine.execPartnerByteGap link s

end Sys2Proof.Machine
end

