-- ==== Sys2Proof/Machine/Timers.lean ====
section
/-! DEFINITION. Which events of the part's own timers are due (log 1). -/

namespace Sys2Proof.Machine

namespace State

/-- The numbers for which `p` holds, each as its command. -/
def dueEach {n : Nat} (p : Fin n → Bool) (c : Fin n → Instr) : List Instr := ((List.finRange n).filter p).map c

def dueOnce (p : Bool) (c : Instr) : List Instr := if p then [c] else []

/-- The timer events due at this moment. A LOCKED domain's timer frame starts come from outside (log 7). -/
def due (s : State) : List Instr :=
  dueOnce s.truncationDue .truncated ++
  dueOnce s.answerDue .answerTimeout ++
  dueOnce s.readbackDue .readback ++
  dueOnce s.verifyDue .verifyInterval ++
  dueEach s.absentDue .absentTimerExpiry ++
  dueEach s.lossDue .referenceLossTimeout ++
  dueEach s.holdoverDue (fun d => .timerFrameStart d false) ++
  dueEach s.holdLimitDue .holdLimitExpiry ++
  dueEach (fun i => (s.candidateDue i).isSome) .debounceExpiry ++
  dueEach s.pollDue .pollTimeout ++
  dueEach s.guardDue .guardEnd ++
  dueEach s.ackDue .ackTimeout ++
  dueEach (fun w => (look s.wallRx w).gapDue s.now) (fun w => .partnerByteGap (.wall w)) ++
  dueEach (fun p => (look s.recorderRx p).gapDue s.now) (fun p => .partnerByteGap (.recorder p))

/-- One of the timer events due; which of several comes first is a free choice (log 2). -/
def nextDue (s : State) : Option (Instr × State) :=
  match s.due with
  | [] => none
  | c :: rest =>
    let (i, s1) := s.choose (rest.length + 1)
    some ((c :: rest).getD i c, s1)

/-- One microsecond passes (R91). -/
def tick (s : State) : State := { s with now := s.now + 1 }

end State

end Sys2Proof.Machine
end

