-- ==== Sys2Proof/Safety.lean ====
section
/-! DEFINITION. What the statements speak of: numbers as fields carry them, a request executed at once, and the laws every
reachable state keeps. -/

namespace Sys2Proof.Machine

/-- A number as a one-byte field carries it. -/
def num8 {n : Nat} (i : Fin n) : Byte := BitVec.ofNat 8 i.val
/-- A number as a two-byte field carries it. -/
def num16 {n : Nat} (i : Fin n) : U16 := BitVec.ofNat 16 i.val

/-- The request `c` is executed at once: exec answers `t` with the reply of this status and tail at the tail of the
transmit order (R174, R175, 11.1). -/
def Answers (c : Instr) (s : State) (status : Status) (tail : List Byte) (t : State) : Prop :=
  ∃ f, encodeRequest c = some f ∧
    exec c s = .next { t with link := { t.link with
      transmit := t.link.transmit ++ [⟨.reply, 0x80, f.tag, f.kind :: statusCode status :: tail⟩] } }

/-- `t` with one more immediate frame, unless it would be a ninth (R175). -/
def withImmediate (t : State) (f : TxFrame) : State :=
  if t.immediates < 8 then { t with link := { t.link with transmit := t.link.transmit ++ [f] } } else t

/-- The REJECT frame of a reason (11.1). -/
def rejectFrame (reason : Byte) : TxFrame := ⟨.reject, 0xF1, 0, [reason]⟩

/-- The bytes of a list reach CTL_RX one after another. -/
def rxBytes : List Byte → State → Host.Outcome State Fault Refusal
  | [], s => .next s
  | b :: bs, s =>
    match exec (.ctlRxByte b false) s with
    | .next t => rxBytes bs t
    | o => o

/-- No instance of cause 1 to `k` is pending (R176). -/
def ClearTo (s : State) (k : Nat) : Prop :=
  (1 ≤ k → ∀ d, look s.flags.destFault d = none) ∧ (2 ≤ k → ∀ d, look s.flags.lockBreach d = none) ∧
  (3 ≤ k → ∀ d, look s.flags.domain d = none) ∧ (4 ≤ k → ∀ p, look s.flags.recorder p = none) ∧
  (5 ≤ k → ∀ w, look s.flags.wall w = none) ∧ (6 ≤ k → s.bus.discrepancies = []) ∧
  (7 ≤ k → ∀ d, look s.flags.released d = none) ∧ (8 ≤ k → ∀ n, look s.flags.comparator n = none) ∧
  (9 ≤ k → s.pool.reports = [])

/-- A wall whose update queue holds `q` once its link has sent an UPDATE of up to 8 tiles with the content of `s` (R127).
-/
def afterUpdate (s : State) (r : WallRec) (q : List Tile) : WallRec :=
  { r with
    queue := q.drop 8
    number := r.number + 1
    link := .awaitAck
    outstanding := some ⟨r.number + 1, q.take 8, s.now⟩
    sent := some (r.number + 1, (q.take 8).map (fun x => (x, s.compose (look r.tiles x)))) }

/-- The update queue of a wall after a full refresh (R131). -/
def refreshed (r : WallRec) : List Tile :=
  r.queue ++ (List.finRange 64).filter (fun x => decide (look r.tiles x ≠ .none) && !r.queue.contains x)

/-- The slot holds a take of the destination in one of the states. -/
def SlotHas (s : State) (i : Slot) (d : Dest) (states : List TakeState) : Prop :=
  ∃ t, (s.slot i).take = some t ∧ t.dest = d ∧ t.state ∈ states

/-- The tag names the live take `t` (R21). -/
def NamesLive (s : State) (g : Tag) (t : Take) : Prop := (s.slot g.slot).take = some t ∧ (s.slot g.slot).gen = g.gen

/-- The tag names the ended take `e` (R21). -/
def NamesEnded (s : State) (g : Tag) (e : EndedTake) : Prop :=
  (s.slot g.slot).previous = some e ∧ e.tag = g ∧ ∀ t, ¬ NamesLive s g t

/-! ## Laws of the reachable states -/

/-- The framing receiver holds no more than its length bytes call for (R171). -/
def ReceiverLaw : Receiver → Prop
  | .hunt => True
  | .length _ => True
  | .header len _ => len.toNat ≤ 1020
  | .body len _ _ held => held.length < len.toNat ∧ len.toNat ≤ 1020
  | .crc len _ _ body _ => body.length = len.toNat ∧ len.toNat ≤ 1020

/-- The control link's bounds (R171, R173, R174, R175): 4 queued requests, and only while a reply is held; one reply, 8
immediate frames and one READY in the transmit order. -/
def LinkLaw (s : State) : Prop :=
  ReceiverLaw s.link.receiver ∧ s.link.queue.length ≤ 4 ∧ (s.link.queue ≠ [] → s.replyHeld = true) ∧
  s.immediates ≤ 8 ∧ (s.link.transmit.filter (fun f => decide (f.sort = .reply))).length ≤ 1 ∧
  (s.link.transmit.filter (fun f => decide (f.sort = .ready))).length ≤ 1

/-- The Salvo Store's bounds (R60, R69): salvos of at most 64 entries with distinct destinations, 1024 entries in all, 4
undo records. -/
def StoreLaw (s : State) : Prop :=
  (∀ n, (look s.store.salvos n).length ≤ 64 ∧ ((look s.store.salvos n).map Prod.fst).Nodup) ∧
  ((List.finRange 32).map (fun n => (look s.store.salvos n).length)).sum ≤ 1024 ∧
  s.store.undo.length ≤ 4 ∧ ∀ u ∈ s.store.undo, u.pairs.length ≤ 64

/-- R49: a protect's holder is panel 0 or enrolled, its level is no stronger than the holder's, and a PROTECT restores
nothing. -/
def ProtectLaw (s : State) : Prop :=
  ∀ d q, s.protectOf d = some q →
    (q.holder = 0 ∨ ((look s.registry.panels q.holder).enrolled = true ∧ (look s.registry.panels q.holder).level ≤ q.level)) ∧
    (q.kind = .protect → q.restore = false)

/-- R125, R126, R127: an update queue holds a tile once; a frame is outstanding exactly in AWAIT ACK, with 1 to 8 tiles and
the link's number; an IDLE link has sent all it had; and no hand-over is left unserved. -/
def WallLaw (s : State) : Prop :=
  s.handed = [] ∧
  ∀ w, let r := s.wall w
    r.queue.Nodup ∧ (r.outstanding.isSome = true ↔ r.link = .awaitAck) ∧ (r.link = .idle → r.queue = []) ∧
    ∀ f, r.outstanding = some f → f.number = r.number ∧ f.tiles.length ≤ 8 ∧ f.tiles ≠ []

/-- R137, R138, R141, R149, R151: the ranges of a port record, what its exchange state means, and that a READY port has
nothing left to send. -/
def PortLaw (s : State) : Prop :=
  (∀ p q d, (s.port p).dest = some d → (s.port q).dest = some d → p = q) ∧
  ∀ p, let r := s.port p
    1 ≤ r.guardTime ∧ r.guardTime ≤ 100 ∧ 5 ≤ r.pollTimeout ∧ r.pollTimeout ≤ 200 ∧ r.queue.length ≤ 4 ∧
    r.silent ≤ 3 ∧ (r.online = false ↔ r.silent = 3) ∧
    (r.online = false → r.reported = .unknown ∧ r.queue = [] ∧ r.markPending = false) ∧
    (r.inFlight.isSome = true ↔ r.exchange = .busy) ∧ (r.guardEnd.isSome = true ↔ r.exchange = .guard) ∧
    (r.exchange = .ready → r.queue = [] ∧ r.markPending = false ∧ r.pollPending = false)

/-- R74, R77, R79, R89: the ranges of a domain record, and what its lock state means for its counts and for a pending loss. -/
def DomainLaw (s : State) : Prop :=
  ∀ d, let r := s.dom d
    let n := Config.framesPerDay r.standard
    4 ≤ r.settleCount ∧ r.settleCount ≤ 64 ∧ r.holdoverLimit ≤ 250 ∧ 100 ≤ r.holdLimit ∧ r.holdLimit ≤ 10000 ∧
    r.timecode < n ∧ r.markPreset < n ∧ (∀ e, r.pendingTimecode = some e → e.1 < n) ∧
    (r.lock = .closed → r.closing = none) ∧
    (if r.lock = .settling then r.settleProgress < r.settleCount else r.settleProgress = 0) ∧
    (if r.lock = .holdover then r.holdoverCount < r.holdoverLimit else r.holdoverCount = 0) ∧
    (r.lossPending = true → r.lock = .locked)

/-- R95, R96, R107, R110, R113: the bounds of the bus's lists, and that a walk's readback reads its cursor. -/
def BusLaw (s : State) : Prop :=
  let b := s.bus
  (∀ d, look b.debt d ≤ 8) ∧ b.discrepancies.length ≤ 16 ∧ b.priority.Nodup ∧ b.interval ≤ 3600 ∧
  (∀ ws ∈ b.transfers, ws ≠ [] ∧ ws.length ≤ 32) ∧ (b.walk = .none → b.walkCursor = 0) ∧
  (∀ r, b.readback = some r →
    (r.kind = .walk → b.walk ≠ .none ∧ r.dest = b.walkCursor) ∧
    (r.compare = true → r.kind = .walk ∧ b.walk = .verify ∧ b.discrepancies.length < 16))

/-- R20, R22, R29, R43, R95: every waiting take stands once on its domain's queue, every outstanding one once in the order
of issue, every RETRY take once on its domain's retry list, every DONE one once on the report list; an ABSENT timer
belongs to an outstanding take; a destination has at most one take waiting and one outstanding. -/
def PoolLaw (s : State) : Prop :=
  let holds (i : Slot) (p : Take → Prop) : Prop := ∃ k, (s.slot i).take = some k ∧ p k
  (∀ d, (s.queue d).Nodup ∧ ∀ i, i ∈ s.queue d ↔
    holds i (fun k => (s.dest k.dest).domain = d ∧ (k.state = .queued ∨ k.state = .held))) ∧
  (s.pool.issued.Nodup ∧ ∀ i, i ∈ s.pool.issued ↔ holds i (fun k => k.state = .issued ∨ k.state = .retry)) ∧
  (∀ d, (look s.bus.retry d).Nodup ∧ ∀ g, g ∈ look s.bus.retry d ↔
    (g.gen = (s.slot g.slot).gen ∧ holds g.slot (fun k => (s.dest k.dest).domain = d ∧ k.state = .retry))) ∧
  (s.pool.reports.Nodup ∧ ∀ i, i ∈ s.pool.reports ↔ holds i (fun k => k.state = .done)) ∧
  ((s.bus.absent.map (fun a => a.1.slot)).Nodup ∧ ∀ a ∈ s.bus.absent, a.1.gen = (s.slot a.1.slot).gen ∧
    holds a.1.slot (fun k => k.state = .issued ∨ k.state = .retry)) ∧
  (∀ i k, (s.slot i).take = some k →
    (k.state = .done ↔ k.outcome ≠ none) ∧ (k.state = .done → k.report = true) ∧
    ((k.state = .issued ∨ k.state = .retry) → k.issuedAt ≠ none)) ∧
  (∀ i j k l, (s.slot i).take = some k → (s.slot j).take = some l → k.dest = l.dest →
    (((k.state = .queued ∨ k.state = .held) ∧ (l.state = .queued ∨ l.state = .held)) ∨
      ((k.state = .issued ∨ k.state = .retry) ∧ (l.state = .issued ∨ l.state = .retry))) → i = j)

/-- R10: the counts of a source are the numbers of destinations that carry it: in the PROGRAMME role, in the PREVIEW role,
and recording. -/
def TallyLaw (s : State) : Prop :=
  ∀ x,
    let carry (p : Dest → Bool) : Nat :=
      ((List.finRange 256).filter (fun d => decide ((s.dest d).source = some x) && p d)).length
    (s.src x).programme = carry (fun d => decide ((s.dest d).role = .programme)) ∧
    (s.src x).preview = carry (fun d => decide ((s.dest d).role = .preview)) ∧
    (s.src x).record = carry s.recording

/-- An outcome keeps a law: a next state obeys it. -/
def Keeps (P : State → Prop) (o : Host.Outcome State Fault Refusal) : Prop := ∀ t, o = .next t → P t

end Sys2Proof.Machine
end

