-- ==== Sys2Proof/Certificates/Slice0/Obligations.lean ====
section
/-! DEFINITION. The statements for the provers. -/

open Sys2Proof Sys2Proof.Machine

/-! ## Steps -/

/-- A step takes the front command and runs exec on the state with the queue's rest. -/
def Obligations.StepRunsFrontCommand : Prop :=
  ∀ (s : State) (c : Instr) (rest : List Instr),
    step { s with pending := c :: rest } = exec c { s with pending := rest }

/-- The model's choice (logs 1 and 2): with no command waiting, time moves on or a due timer event runs. -/
def Obligations.IdleStepRunsDueTimerOrTicks : Prop :=
  ∀ s : State, s.pending = [] →
    (s.due = [] → step s = .next { s with now := s.now + 1 }) ∧
    (∀ c, s.due = [c] → step s = exec c s) ∧
    (∀ c c' rest, s.due = c :: c' :: rest →
      ∃ k ∈ s.due, step s = exec k { s with choices := s.choices + 1 })

/-- Every record the spec gives a cold reset value (R1, R3, R20, R43, R44, R48, R49, R60, R69, R74, R95, R121, R125,
R126, R137, R158, R160, R162, R171, R173, R176, R178, R91). -/
def Obligations.ResetValues : Prop :=
  let s := State.reset
  s.now = 0 ∧
  (∀ d, s.dest d = ⟨none, 0, 0, .monitor, none, .unknown, .none, 0, 0⟩) ∧
  (∀ x, s.src x = ⟨none, 0, 0, 0⟩ ∧ (s.src x).colour = .off) ∧
  (∀ i, s.slot i = ⟨0, none, none⟩) ∧ (∀ d, s.queue d = []) ∧ s.pool.reports = [] ∧
  (∀ p, (look s.registry.panels p).enrolled = false) ∧ (∀ z, s.zoneMin z = 3) ∧ (∀ d, s.protectOf d = none) ∧
  (∀ n, look s.store.salvos n = []) ∧ s.store.serial = 0 ∧ s.store.undo = [] ∧
  (∀ d, let r := s.dom d
    r.standard = 2 ∧ r.settleCount = 16 ∧ r.holdoverLimit = 50 ∧ r.holdLimit = 2000 ∧ r.lock = .closed ∧
    r.closing = none ∧ r.seen = .none ∧ r.settleProgress = 0 ∧ r.holdoverCount = 0 ∧ r.stopMoment = 0 ∧
    r.number = 0 ∧ r.timecode = 0 ∧ r.pendingTimecode = none ∧ r.markStatus = .idle ∧ r.markPreset = 0 ∧
    r.markCounter = 0) ∧
  (∀ d, look s.bus.debt d = 0 ∧ look s.bus.cursor d = 0 ∧ look s.bus.retry d = []) ∧
  s.bus.absent = [] ∧ s.bus.transfers = [] ∧ s.bus.readback = none ∧ s.bus.walk = .learn ∧ s.bus.walkCursor = 0 ∧
  s.bus.interval = 0 ∧ s.bus.policy = .report ∧ s.bus.intervalStart = 0 ∧ s.bus.priority = [] ∧
  s.bus.discrepancies = [] ∧
  (∀ w, let r := s.wall w
    (∀ t, look r.tiles t = .none) ∧ r.queue = [] ∧ r.link = .down ∧ r.number = 0 ∧ r.outstanding = none) ∧
  (∀ p, s.port p = ⟨none, .free, 10, 40, .ready, none, none, false, true, 0, .unknown, none, [], false, none, none,
    none⟩) ∧
  (∀ k, look s.router.trigger k = 0) ∧ (∀ p, look s.router.poll p = 0) ∧ (∀ d, look s.router.mark d = 0) ∧
  (∀ i, (s.gpi i).debounce = 5 ∧ (s.gpi i).level = (s.gpi i).pin ∧ (s.gpi i).candidate = none) ∧
  (∀ k, s.cmp k = ⟨0, 0, 0, 0, false, .off, 0, .none, .none, .off, none, none, none, none⟩) ∧
  s.link.receiver = .hunt ∧ s.link.queue = [] ∧
  s.link.transmit = [⟨.ready, 0xF0, 0, identityRecord s.straps⟩] ∧ s.instances = 0 ∧ s.attn = false ∧
  s.pending = []

/-! ## The control link -/

/-- A request's frame decodes to the request, with every field at every value it can carry; a frame whose kind is no
request kind decodes to BAD_KIND. -/
def Obligations.DecodeOfEncodeIsTheRequest : Prop :=
  ∀ (c : Instr) (f : ReqFrame), wellFormed c = true → encodeRequest c = some f →
    ((∀ t k b, c ≠ .badKind t k b) → decodeRequest f = .request c) ∧
    (∀ t k b, c = .badKind t k b → decodeRequest f = .badKind)

/-- The bytes of a request's frame (11.1), received from HUNT, do what the request command does, as log 4
reads the command. -/
def Obligations.FrameBytesActAsTheRequest : Prop :=
  ∀ (c : Instr) (f : ReqFrame) (s : State), wellFormed c = true → encodeRequest c = some f →
    s.link.receiver = .hunt →
    rxBytes (controlFrame f.kind f.tag f.body) s = exec c { s with link := { s.link with lastByteAt := s.now } }

/-- R173: a frame completed while the link cannot execute it joins the queue, is answered BUSY, or is dropped; a command
no frame can spell is refused (log 5). -/
def Obligations.RequestIsQueuedOrAnsweredBusy : Prop :=
  ∀ (c : Instr) (s : State),
    (wellFormed c = false → exec c s = .refused .illFormed) ∧
    (∀ f, wellFormed c = true → encodeRequest c = some f → s.linkFree = false →
      (s.link.queue.length < 4 →
        exec c s = .next { s with link := { s.link with queue := s.link.queue ++ [f] } }) ∧
      (4 ≤ s.link.queue.length →
        exec c s = .next (withImmediate s ⟨.busyReply, 0x80, f.tag, [f.kind, 1]⟩)))

/-- R171: the receiver's table, row by row, but for the completion of a frame (FrameBytesActAsTheRequest). R172: 5000 µs
with no byte, or a stop-bit error, outside HUNT. That TRUNCATED changes nothing in HUNT or before its time is the model's
choice (log 6). -/
def Obligations.ReceiverFollowsItsTableAndTruncates : Prop :=
  (∀ (s : State) (b : Byte),
      let at_ (r : Receiver) : State := { s with link := { s.link with receiver := r, lastByteAt := s.now } }
      let out := exec (.ctlRxByte b false) s
      (s.link.receiver = .hunt → b = 0xA5 → out = .next (at_ (.length none))) ∧
      (s.link.receiver = .hunt → b ≠ 0xA5 → out = .next (at_ .hunt)) ∧
      (s.link.receiver = .length none → out = .next (at_ (.length (some b)))) ∧
      (∀ a, s.link.receiver = .length (some a) →
        (1020 < 256 * a.toNat + b.toNat → out = .next (withImmediate (at_ .hunt) (rejectFrame 2))) ∧
        (256 * a.toNat + b.toNat ≤ 1020 → out = .next (at_ (.header (a ++ b) none)))) ∧
      (∀ len, s.link.receiver = .header len none → out = .next (at_ (.header len (some b)))) ∧
      (∀ len kind, s.link.receiver = .header len (some kind) →
        (len = 0 → out = .next (at_ (.crc len kind b [] none))) ∧
        (len ≠ 0 → out = .next (at_ (.body len kind b [])))) ∧
      (∀ len kind tag held, s.link.receiver = .body len kind tag held →
        (held.length + 1 = len.toNat → out = .next (at_ (.crc len kind tag (held ++ [b]) none))) ∧
        (held.length + 1 ≠ len.toNat → out = .next (at_ (.body len kind tag (held ++ [b]))))) ∧
      (∀ len kind tag held, s.link.receiver = .crc len kind tag held none →
        out = .next (at_ (.crc len kind tag held (some b)))) ∧
      (∀ len kind tag held a, s.link.receiver = .crc len kind tag held (some a) →
        crc16 (bytes16 len ++ (kind :: tag :: held)) ≠ a ++ b →
        out = .next (withImmediate (at_ .hunt) (rejectFrame 1)))) ∧
  (∀ (s : State) (b : Byte),
      let cut := withImmediate { s with link := { s.link with receiver := .hunt } } (rejectFrame 3)
      (s.link.receiver ≠ .hunt → exec (.ctlRxByte b true) s = .next cut) ∧
      (s.link.receiver = .hunt → exec (.ctlRxByte b true) s = .next s) ∧
      (s.link.receiver ≠ .hunt → 5000 ≤ (s.now - s.link.lastByteAt).toNat → exec .truncated s = .next cut) ∧
      ((s.link.receiver = .hunt ∨ (s.now - s.link.lastByteAt).toNat < 5000) → exec .truncated s = .next s))

/-- R174, R175: the head frame has been sent. With no reply left, the head request is executed, as it would have been on
arrival. -/
def Obligations.FrameSentExecutesTheHeadRequest : Prop :=
  ∀ (s : State),
    (s.link.transmit = [] → exec .transmitFrameSent s = .next s) ∧
    (∀ f rest, s.link.transmit = f :: rest →
      ((s.link.queue = [] ∨ ∃ g ∈ rest, g.sort = .reply) →
        exec .transmitFrameSent s = .next { s with link := { s.link with transmit := rest } }) ∧
      (∀ g q, s.link.queue = g :: q → (∀ h ∈ rest, h.sort ≠ .reply) →
        let u : State := { s with link := { s.link with transmit := rest, queue := q } }
        exec .transmitFrameSent s = .next ((frameEffect g u).2.send ((frameEffect g u).1.frame g.kind g.tag)))) ∧
    (∀ c f, wellFormed c = true → encodeRequest c = some f → s.linkFree = true →
      exec c s = .next ((frameEffect f s).2.send ((frameEffect f s).1.frame f.kind f.tag)))

/-- R178: a cold reset leaves every record at its cold reset value, the GPI levels at their pins, and READY alone in the
transmit order; waiting commands stand. R174: a frame of no request kind is answered BAD_KIND, and one of a request kind
whose body has not the size 11.3 gives it is answered BAD_LENGTH, when its bytes complete it and when it is executed from the
queue. R179: IDENTIFY. The reset values of fields no table names are the model's choice (log 23), and the revision number is
free (log 14). -/
def Obligations.ColdResetBadKindAndIdentity : Prop :=
  (∀ (s : State) (m r1 r0 : Bool), ∃ t,
      exec (.coldReset m r1 r0) s = .next t ∧
      t = { State.reset with
        straps := ⟨m, r1, r0⟩
        gpis := t.gpis
        link := ⟨.hunt, 0, [], [⟨.ready, 0xF0, 0, identityRecord ⟨m, r1, r0⟩⟩]⟩
        choices := s.choices
        pending := s.pending } ∧
      (∀ i, t.gpi i = ⟨5, (s.gpi i).pin, none, (s.gpi i).pin⟩)) ∧
  (∀ (s : State) (tag : Byte), s.linkFree = true →
      (∀ kind body, kind ∉ requestKinds → body.length ≤ 1020 → Answers (.badKind tag kind body) s .badKind [] s) ∧
      Answers (.identify tag) s .ok
        ([0x4C, 0x07, 0x02, 0x56, Config.revision] ++
          [512, 256, 16, 4, 128, 63, 8, 32, 64, 1024, 4, 32, 16, 8, 64, 16, 8, 8, 4, 1020].flatMap
            (fun n : Nat => bytes16 (BitVec.ofNat 16 n)) ++
          [if s.straps.masterHigh then 2 else 1,
           if s.straps.rate1 = false ∧ s.straps.rate0 = true then 1
           else if s.straps.rate1 = true ∧ s.straps.rate0 = false then 2 else 0]) s) ∧
  (∀ (s : State) (kind tag : Byte) (body : List Byte),
      let count (i : Nat) : Nat := (body.getD i 0).toNat
      let text (i : Nat) : Nat := if count i = 255 then 0 else count i
      let present (i size : Nat) : Nat := if count i = 0 then 0 else size
      let sizes : List (Byte × Nat) :=
        [(0x01, 0), (0x02, 0), (0x03, 0), (0x10, 3 + text 2), (0x11, 5 + text 1), (0x12, 1), (0x13, 2),
         (0x20, 7 + present 5 2), (0x21, 2), (0x22, 2), (0x28, 2), (0x29, 2), (0x2A, 1), (0x2B, 2), (0x2C, 5), (0x2D, 2),
         (0x30, 2 + 3 * count 1), (0x31, 1), (0x32, 4), (0x33, 1), (0x34, 1)] ++
        [(0x38, 6), (0x39, 1), (0x3A, 2), (0x3B, 5), (0x3C, 7), (0x3D, 1), (0x3E, 1), (0x40, 3), (0x41, 0), (0x42, 1),
         (0x43, 0), (0x48, 5), (0x49, 1), (0x4A, 2 + present 1 1), (0x50, 6 + present 1 1), (0x51, 2), (0x52, 1), (0x58, 2),
         (0x59, 22), (0x5A, 1)]
      ∀ size, (kind, size) ∈ sizes → body.length ≠ size →
        frameEffect ⟨kind, tag, body⟩ s = (⟨.badLength, []⟩, s) ∧
        (s.link.receiver = .hunt → s.linkFree = true → body.length ≤ 1020 →
          rxBytes (controlFrame kind tag body) s = .next { s with link := { s.link with
            lastByteAt := s.now, transmit := s.link.transmit ++ [⟨.reply, 0x80, tag, [kind, 3]⟩] } }))

/-! ## Attention and RESTART -/

/-- R177: READ ATTENTION delivers the pending instance of highest priority, lowest number or head first, and removes it;
with none pending it is answered NONE. -/
def Obligations.ReadAttentionDeliversInPriorityOrder : Prop :=
  ∀ (s : State) (tag : Byte), s.linkFree = true →
    let out (detail : List Byte) (cause : Byte) (t : State) : Prop :=
      Answers (.readAttention tag) s .ok (cause :: (e2 (s.instances - 1) ++ detail)) t
    (ClearTo s 9 → Answers (.readAttention tag) s .none [] s) ∧
    (∀ d x, (∀ e < d, look s.flags.destFault e = none) → look s.flags.destFault d = some x →
      out (e1 d.val ++ eTag x) 1 { s with flags := { s.flags with destFault := put s.flags.destFault d none } }) ∧
    (∀ d x o, ClearTo s 1 → (∀ e < d, look s.flags.lockBreach e = none) → look s.flags.lockBreach d = some (x, o) →
      out (eLockBreach d x o) 2 { s with flags := { s.flags with lockBreach := put s.flags.lockBreach d none } }) ∧
    (∀ d l m, ClearTo s 2 → (∀ e < d, look s.flags.domain e = none) → look s.flags.domain d = some (l, m) →
      out (e1 d.val ++ e1 (lockCode l) ++ eFlag m) 3
        { s with flags := { s.flags with domain := put s.flags.domain d none } }) ∧
    (∀ p o r, ClearTo s 3 → (∀ e < p, look s.flags.recorder e = none) → look s.flags.recorder p = some (o, r) →
      out (e1 p.val ++ e1 (onlineCode o) ++ e1 (reportedCode r)) 4
        { s with flags := { s.flags with recorder := put s.flags.recorder p none } }) ∧
    (∀ w l, ClearTo s 4 → (∀ e < w, look s.flags.wall e = none) → look s.flags.wall w = some l →
      out (e1 w.val ++ e1 (wallStateCode l)) 5
        { s with flags := { s.flags with wall := put s.flags.wall w none } }) ∧
    (∀ r rest, ClearTo s 5 → s.bus.discrepancies = r :: rest →
      out (eDiscrepancy r) 6 { s with bus := { s.bus with discrepancies := rest } }) ∧
    (∀ d p y, ClearTo s 6 → (∀ e < d, look s.flags.released e = none) → look s.flags.released d = some (p, y) →
      out (e1 d.val ++ e1 p.val ++ e1 (reasonCode y)) 7
        { s with flags := { s.flags with released := put s.flags.released d none } }) ∧
    (∀ k b c, ClearTo s 7 → (∀ e < k, look s.flags.comparator e = none) → look s.flags.comparator k = some (b, c) →
      out (e1 k.val ++ eFlag b ++ [statusCode c]) 8
        { s with flags := { s.flags with comparator := put s.flags.comparator k none } }) ∧
    (∀ i rest k o, ClearTo s 8 → s.pool.reports = i :: rest → (s.slot i).take = some k → k.outcome = some o →
      out (eTag (s.tagOf i) ++ e1 k.dest.val ++ e2 k.source.val ++ e1 (outcomeCode o)) 9
        { s with pool := { s.pool with
          slots := put s.pool.slots i ⟨(s.slot i).gen, none, some ⟨s.tagOf i, k.dest, k.source, o⟩⟩
          reports := rest } })

/-- R180, R181 with R2, R23, R49, R69, R74, R90, R116, R125, R132, R153 and R162's RESTART: what RESTART changes, and what
it keeps; a closing domain becomes CLOSED with the rest of its record kept, but for a pending loss (the
model's reading, log 29). When a closing is judged is log 21. -/
def Obligations.RestartRestartsTheWorkingState : Prop :=
  ∀ (s : State) (tag : Byte), s.linkFree = true → ∃ t, Answers (.restart tag) s .ok [] t ∧
    t = { s with dests := t.dests, pool := t.pool, registry := { s.registry with protects := t.registry.protects }
                 store := { s.store with undo := [] }, domains := t.domains, bus := t.bus, walls := t.walls
                 ports := t.ports, cmps := t.cmps, flags := t.flags, link := { s.link with queue := [] } } ∧
    (∀ d, t.dest d = if (s.dest d).output = .faulted then { s.dest d with output := .unknown } else s.dest d) ∧
    (∀ i, t.slot i = ⟨(s.slot i).gen, none, none⟩) ∧ (∀ d, t.queue d = []) ∧ t.pool.reports = [] ∧ t.pool.issued = [] ∧
    (∀ d, t.protectOf d = none) ∧
    t.bus = { s.bus with
      retry := Vector.replicate 4 [], absent := [], discrepancies := []
      priority := s.bus.priority ++ (List.finRange 256).filter (fun d =>
        decide ((s.dest d).output = .faulted) && !s.bus.priority.contains d) } ∧
    (∀ p, t.port p = { s.port p with queue := [], markPending := false }) ∧
    (∀ k, t.cmp k = { s.cmp k with state := .off, lastResult := none }) ∧
    (∀ d, (s.dom d).closing = none → t.dom d = s.dom d ∧ look t.flags.domain d = none) ∧
    (∀ d, (s.dom d).closing ≠ none →
      t.dom d = { s.dom d with
        lock := .closed, closing := none, settleProgress := 0, holdoverCount := 0, lossPending := false
        stopMoment := if (s.dom d).lock = .locked ∨ (s.dom d).lock = .holdover then s.now else (s.dom d).stopMoment } ∧
      look t.flags.domain d = some (.closed, false)) ∧
    (∀ d, look t.flags.destFault d = none ∧ look t.flags.lockBreach d = none ∧ look t.flags.released d = none) ∧
    (∀ p, look t.flags.recorder p = none) ∧ (∀ w, look t.flags.wall w = none) ∧
    (∀ k, look t.flags.comparator k = none) ∧
    (∀ w, let r := s.wall w
      ((r.link = .down ∨ r.link = .awaitAck) → t.wall w = { r with queue := refreshed r }) ∧
      ((r.link = .idle ∨ r.link = .stalled) →
        (refreshed r = [] → t.wall w = { r with link := .idle }) ∧
        (refreshed r ≠ [] → t.wall w = afterUpdate t r (refreshed r))))

/-! ## Walls -/

/-- R122, R123: the content of a tile. R14: the colour of a source, by its counts. -/
def Obligations.TileContentFollowsItsBinding : Prop :=
  ∀ (s : State),
    s.compose .none = .blank ∧
    (∀ x, s.compose (.source x) = .source ((s.src x).label.getD (absentLabel x)) (s.src x).colour) ∧
    (∀ d, let caption := (s.dest d).name.getD (absentName d)
      let marker : Marker :=
        if s.activeDest d then .pending
        else if (s.dest d).output = .faulted ∨ (s.dest d).output = .offline then .fault else .none
      (∀ x, (s.dest d).source = some x →
        s.compose (.dest d) = .dest caption ((s.src x).label.getD (absentLabel x)) (s.src x).colour marker) ∧
      ((s.dest d).source = none →
        s.compose (.dest d) = .dest caption [0x2D, 0x2D, 0x2D, 0x2D] .off marker)) ∧
    (∀ x, let r := s.src x
      (0 < r.programme → r.colour = .red) ∧
      (r.programme = 0 → 0 < r.preview → r.colour = .green) ∧
      (r.programme = 0 → r.preview = 0 → 0 < r.record → r.colour = .amber) ∧
      (r.programme = 0 → r.preview = 0 → r.record = 0 → r.colour = .off))

/-- R124, R125, R127: when an event has been applied, each wall's queue gains the tiles its handed objects mark, in
ascending order and each once, and an IDLE link then sends up to 8 tiles with the content of this moment. Nothing else
changes. -/
def Obligations.HandedObjectsMarkTilesAndIdleLinksSend : Prop :=
  ∀ (s : State), s.handed ≠ [] →
    s.settleWalls = { s with walls := s.settleWalls.walls, handed := [] } ∧
    ∀ w, let r := s.wall w
      let marked (b : Binding) : Prop :=
        match b with
        | .none => False
        | .source x => .source x ∈ s.handed
        | .dest d => .dest d ∈ s.handed ∨ ∃ x, (s.dest d).source = some x ∧ .source x ∈ s.handed
      ∃ m : List Tile, m.Pairwise (· < ·) ∧ (∀ x, x ∈ m ↔ marked (look r.tiles x)) ∧
        let q := r.queue ++ m.filter (fun x => x ∉ r.queue)
        ((r.link ≠ .idle ∨ q = []) → s.settleWalls.wall w = { r with queue := q }) ∧
        (r.link = .idle → q ≠ [] → s.settleWalls.wall w = afterUpdate s r q)

/-- R134: BIND TILE. -/
def Obligations.BindTileRebindsAndMarks : Prop :=
  ∀ (s : State) (tag : Byte), s.linkFree = true →
    (∀ wall tile kind value, 7 < wall.toNat → Answers (.bindTile tag wall tile kind value) s .badField [1] s) ∧
    (∀ (w : Wall) tile kind value, 63 < tile.toNat →
      Answers (.bindTile tag (num8 w) tile kind value) s .badField [2] s) ∧
    (∀ (w : Wall) (x : Tile) kind value, 2 < kind.toNat →
      Answers (.bindTile tag (num8 w) (num8 x) kind value) s .badField [3] s) ∧
    (∀ (w : Wall) (x : Tile) (value : U16), 255 < value.toNat →
      Answers (.bindTile tag (num8 w) (num8 x) 1 value) s .badField [4] s) ∧
    (∀ (w : Wall) (x : Tile) (value : U16), 511 < value.toNat →
      Answers (.bindTile tag (num8 w) (num8 x) 2 value) s .badField [4] s) ∧
    (∀ (w : Wall) (x : Tile) (kind : Byte) (value : U16) (b : Binding),
      ((kind = 0 ∧ b = .none) ∨ (kind = 1 ∧ ∃ d, value = num16 d ∧ b = .dest d) ∨
        (kind = 2 ∧ ∃ y, value = num16 y ∧ b = .source y)) →
      let q := if x ∈ (s.wall w).queue then (s.wall w).queue else (s.wall w).queue ++ [x]
      let bound : WallRec := { s.wall w with tiles := put (s.wall w).tiles x b, queue := q }
      let after : WallRec := if bound.link = .idle then afterUpdate s bound q else bound
      Answers (.bindTile tag (num8 w) (num8 x) kind value) s .ok [] { s with walls := put s.walls w after })

/-- R128: an ACK with the outstanding number while AWAIT ACK makes the link IDLE, and the next frame is sent if the queue
holds entries; any other ACK is discarded and changes nothing. R129: 20,000 µs with no matching ACK stall the link and set
its WALL flag; the entries are not returned. That ACK_TIMEOUT changes nothing before its time or with no frame awaited is the
model's choice (log 6). R130, R131: HELLO forgets the outstanding frame, queues a full refresh, makes the link IDLE, sets the
flag, and sends. -/
def Obligations.WallFramesAndTimeouts : Prop :=
  (∀ (s : State) (w : Wall) (n : Byte),
      let r := s.wall w
      ((r.link ≠ .awaitAck ∨ ∀ f, r.outstanding = some f → f.number ≠ n) → exec (.ack w n) s = .next s) ∧
      (∀ f, r.link = .awaitAck → r.outstanding = some f → f.number = n →
        (r.queue = [] →
          exec (.ack w n) s = .next { s with walls := put s.walls w { r with outstanding := none, link := .idle } }) ∧
        (r.queue ≠ [] → exec (.ack w n) s = .next { s with walls := put s.walls w (afterUpdate s r r.queue) }))) ∧
  (∀ (s : State) (w : Wall),
      let r := s.wall w
      (∀ f, r.link = .awaitAck → r.outstanding = some f →
        (20000 ≤ (s.now - f.sentAt).toNat →
          exec (.ackTimeout w) s = .next { s with
            walls := put s.walls w { r with outstanding := none, link := .stalled }
            flags := { s.flags with wall := put s.flags.wall w (some .stalled) } }) ∧
        ((s.now - f.sentAt).toNat < 20000 → exec (.ackTimeout w) s = .next s)) ∧
      ((r.link ≠ .awaitAck ∨ r.outstanding = none) → exec (.ackTimeout w) s = .next s) ∧
      (let flags : Flags := { s.flags with wall := put s.flags.wall w (some .idle) };
        (refreshed r = [] → exec (.hello w) s = .next { s with
          walls := put s.walls w { r with outstanding := none, link := .idle, queue := [] }, flags := flags }) ∧
        (refreshed r ≠ [] → exec (.hello w) s = .next { s with
          walls := put s.walls w (afterUpdate s r (refreshed r)), flags := flags })))

/-- R135, with the reply's reading of log 25: REFRESH WALL. R136: READ WALL changes nothing and answers the snapshot, in the
layout the model chose (log 13; the value of a NONE binding, log 32). -/
def Obligations.RefreshWallAndReadWall : Prop :=
  ∀ (s : State) (tag : Byte), s.linkFree = true →
    (∀ wall, 7 < wall.toNat → Answers (.refreshWall tag wall) s .badField [1] s) ∧
    (∀ (w : Wall), let r := s.wall w
      let q := refreshed r
      ((r.link = .down ∨ r.link = .awaitAck) →
        Answers (.refreshWall tag (num8 w)) s .ok (e1 (wallStateCode r.link) ++ e1 q.length)
          { s with walls := put s.walls w { r with queue := q } }) ∧
      ((r.link = .idle ∨ r.link = .stalled) → q = [] →
        Answers (.refreshWall tag (num8 w)) s .ok [1, 0]
          { s with walls := put s.walls w { r with link := .idle, queue := [] } }) ∧
      ((r.link = .idle ∨ r.link = .stalled) → q ≠ [] →
        Answers (.refreshWall tag (num8 w)) s .ok (2 :: e1 (q.drop 8).length)
          { s with walls := put s.walls w (afterUpdate s r q) })) ∧
    (∀ wall tile, optFits tile = true → 7 < wall.toNat → Answers (.readWall tag wall tile) s .badField [1] s) ∧
    (∀ (w : Wall) (flag tile : Byte), flag ≠ 0 → (flag ≠ 1 ∨ 63 < tile.toNat) →
      Answers (.readWall tag (num8 w) (some (flag, tile))) s .badField [2] s) ∧
    (∀ (w : Wall) (x : Option Tile), let r := s.wall w
      Answers (.readWall tag (num8 w) (x.map (fun y => (1, num8 y)))) s .ok
        (e1 (wallStateCode r.link) ++ [r.number] ++
          (match r.outstanding with
           | none => [0]
           | some f => [1, f.number] ++ e1 f.tiles.length ++ f.tiles.flatMap (fun y => e1 y.val) ++ bytes32 f.sentAt) ++
          e1 r.queue.length ++ r.queue.flatMap (fun y => e1 y.val) ++
          (List.finRange 64).flatMap (fun y => eBinding (look r.tiles y)) ++
          (match x with
           | some y => 1 :: eContent (s.compose (look r.tiles y))
           | none => [0]) ++ bytes32 s.now) s)

/-! ## Crosspoint Table -/

/-- R16: SET SOURCE LABEL replaces the label and hands the source over. R17, R12: SET DEST CONFIG, with the counts of a role
change. -/
def Obligations.LabelAndDestConfigRequests : Prop :=
  (∀ (s : State) (tag : Byte), s.linkFree = true →
      (∀ (source : U16) label, textFits label = true → 511 < source.toNat →
        Answers (.setSourceLabel tag source label) s .badField [1] s) ∧
      (∀ (x : Src) (cs : Text), cs.length ≤ 254 → (16 < cs.length ∨ ∃ c ∈ cs, c.toNat < 0x20 ∨ 0x7E < c.toNat) →
        Answers (.setSourceLabel tag (num16 x) (some cs)) s .badField [2] s) ∧
      (∀ (x : Src) (label : Option Text),
        (∀ cs, label = some cs → cs.length ≤ 16 ∧ ∀ c ∈ cs, 0x20 ≤ c.toNat ∧ c.toNat ≤ 0x7E) →
        let changed : State := { s with srcs := put s.srcs x { s.src x with label := label }
                                        handed := s.handed ++ [.source x] }
        Answers (.setSourceLabel tag (num16 x) label) s .ok [] changed.settleWalls)) ∧
  (∀ (s : State) (tag : Byte) (d : Dest), s.linkFree = true →
      (∀ (cs : Text) domain zone role, cs.length ≤ 254 → (16 < cs.length ∨ ∃ c ∈ cs, c.toNat < 0x20 ∨ 0x7E < c.toNat) →
        Answers (.setDestConfig tag (num8 d) (some cs) domain zone role) s .badField [2] s) ∧
      (∀ (name : Option Text), (∀ cs, name = some cs → cs.length ≤ 16 ∧ ∀ c ∈ cs, 0x20 ≤ c.toNat ∧ c.toNat ≤ 0x7E) →
        (∀ domain zone role, 3 < domain.toNat →
          Answers (.setDestConfig tag (num8 d) name domain zone role) s .badField [3] s) ∧
        (∀ (m : Dom) zone role, 7 < zone.toNat →
          Answers (.setDestConfig tag (num8 d) name (num8 m) zone role) s .badField [4] s) ∧
        (∀ (m : Dom) (z : Zone) role, 2 < role.toNat →
          Answers (.setDestConfig tag (num8 d) name (num8 m) (num8 z) role) s .badField [5] s) ∧
        (∀ (m : Dom) (z : Zone) (code : Byte) (role : Role),
          ((code = 0 ∧ role = .programme) ∨ (code = 1 ∧ role = .preview) ∨ (code = 2 ∧ role = .monitor)) →
          let r := s.dest d
          let named : List Handed := if name = r.name then [] else [.dest d]
          let dests := put s.dests d { r with name := name, domain := m, zone := z, role := role }
          (m ≠ r.domain → s.activeDest d = true →
            Answers (.setDestConfig tag (num8 d) name (num8 m) (num8 z) code) s .destActive [] s) ∧
          ((m = r.domain ∨ s.activeDest d = false) →
            (r.source = none →
              let changed : State := { s with dests := dests, handed := s.handed ++ named }
              Answers (.setDestConfig tag (num8 d) name (num8 m) (num8 z) code) s .ok [] changed.settleWalls) ∧
            (∀ x, r.source = some x →
              let y : SrcRec := { s.src x with
                programme := (s.src x).programme - (if r.role = .programme then 1 else 0) +
                  (if role = .programme then 1 else 0)
                preview := (s.src x).preview - (if r.role = .preview then 1 else 0) + (if role = .preview then 1 else 0) }
              let coloured : List Handed := if y.colour = (s.src x).colour then [] else [.source x]
              let changed : State := { s with dests := dests, srcs := put s.srcs x y
                                              handed := s.handed ++ (coloured ++ named) }
              Answers (.setDestConfig tag (num8 d) name (num8 m) (num8 z) code) s .ok [] changed.settleWalls)))))

/-- R4, R5, R11, R14, R15: a report of source `x` for destination `d`. -/
def Obligations.ReportSetsTheCurrentSource : Prop :=
  ∀ (s : State) (d : Dest) (x : Src) (o : ChangeOrigin),
    let r := s.dest d
    let out : OutputState := if r.output = .faulted then .faulted else .ready
    let on := s.recording d
    (r.source = some x → out = r.output → s.applyReport d x o = s) ∧
    (r.source = some x → out ≠ r.output →
      s.applyReport d x o = { s with
        dests := put s.dests d { r with output := out, origin := o, stamp := s.now }, handed := s.handed ++ [.dest d] }) ∧
    (r.source ≠ some x →
      let t := s.applyReport d x o
      let old : List Handed := match r.source with
        | some y => if (t.src y).colour = (s.src y).colour then [] else [.source y]
        | none => []
      let new : List Handed := if (t.src x).colour = (s.src x).colour then [] else [.source x]
      t = { s with
        dests := put s.dests d { r with source := some x, output := out, origin := o, stamp := s.now }
        srcs := t.srcs
        handed := s.handed ++ ([.dest d] ++ old ++ new) } ∧
      t.src x = { s.src x with
        programme := (s.src x).programme + (if r.role = .programme then 1 else 0)
        preview := (s.src x).preview + (if r.role = .preview then 1 else 0)
        record := (s.src x).record + (if on then 1 else 0) } ∧
      (∀ y, r.source = some y → t.src y = { s.src y with
        programme := (s.src y).programme - (if r.role = .programme then 1 else 0)
        preview := (s.src y).preview - (if r.role = .preview then 1 else 0)
        record := (s.src y).record - (if on then 1 else 0) }) ∧
      (∀ y, y ≠ x → r.source ≠ some y → t.src y = s.src y))

/-! ## Take Pool -/

/-- What the pool's questions ask (R10, R17, R21, R26, R27, R30, R39, R61). -/
def Obligations.PoolQuestionsAskTheSlots : Prop :=
  ∀ (s : State) (d : Dest),
    (s.activeDest d = true ↔ ∃ i, SlotHas s i d [.queued, .held, .issued, .retry]) ∧
    (∀ i, s.waitingOf d = some i ↔ SlotHas s i d [.queued, .held] ∧ ∀ j < i, ¬ SlotHas s j d [.queued, .held]) ∧
    (∀ i, s.outstandingOf d = some i ↔ SlotHas s i d [.issued, .retry] ∧ ∀ j < i, ¬ SlotHas s j d [.issued, .retry]) ∧
    (∀ i, s.freeSlot = some i ↔ (s.slot i).take = none ∧ ∀ j < i, (s.slot j).take ≠ none) ∧
    (∀ p, s.portOf d = some p ↔ (s.port p).dest = some d ∧ ∀ q < p, (s.port q).dest ≠ some d) ∧
    (s.holdTest d = true ↔ ∃ p, s.portOf d = some p ∧ (s.port p).policy = .hold ∧
      ((s.port p).reported = .recording ∨ (s.port p).reported = .unknown)) ∧
    (s.recording d = true ↔ ∃ p, s.portOf d = some p ∧ (s.port p).reported = .recording) ∧
    (∀ m : Dom, s.activeDomain m = true ↔ ∃ i k, (s.slot i).take = some k ∧ (s.dest k.dest).domain = m ∧
      k.state ∈ [TakeState.queued, .held, .issued, .retry]) ∧
    (∀ m : Dom, s.onlyHeld m = true ↔
      s.queue m ≠ [] ∧ ∀ i ∈ s.queue m, ∃ k, (s.slot i).take = some k ∧ k.state = .held) ∧
    (∀ n : Salvo, s.salvoBusy n = true ↔ ∃ i k g, (s.slot i).take = some k ∧
      k.state ∈ [TakeState.queued, .held, .issued, .retry] ∧ k.group = some g ∧ g.salvo = some n)

/-- R26, R46, R47: admission checks 1 to 8, in order. -/
def Obligations.AdmissionChecksRunInOrder : Prop :=
  ∀ (s : State) (c : Option Src),
    (∀ dest source panel, 256 ≤ dest → s.admissionChecks dest source panel c = .fail .badDest) ∧
    (∀ (d : Dest) source panel, 512 ≤ source → s.admissionChecks d.val source panel c = .fail .badSource) ∧
    (∀ (d : Dest) (x : Src) panel, 64 ≤ panel → s.admissionChecks d.val x.val panel c = .fail .noPanel) ∧
    (∀ (d : Dest) (x : Src) (p : Panel),
      let r := s.dest d
      let level : Level := if p = 0 then 0 else (look s.registry.panels p).level
      s.admissionChecks d.val x.val p.val c =
        if p ≠ 0 ∧ (look s.registry.panels p).enrolled = false then .fail .noPanel
        else if r.output = .offline then .fail .noOutput
        else if r.output = .faulted then .fail .destFaulted
        else if r.output = .unknown then .fail .notLearned
        else if (s.dom r.domain).lock = .closed ∨ (s.dom r.domain).closing ≠ none then .fail .domainClosed
        else if p ≠ 0 ∧ s.zoneMin r.zone < level then .fail .zoneDenied
        else if (∃ q, s.protectOf d = some q ∧ q.kind = .lock ∧ q.holder ≠ p) then .fail .locked
        else if (∃ q, s.protectOf d = some q ∧ q.kind = .protect ∧ q.holder ≠ p ∧ p ≠ 0 ∧ q.level < level) then
          .fail .guarded
        else if (∃ y, c = some y ∧ r.source ≠ some y) then .fail .condFailed
        else .pass d x p)

/-- R21, R24, R25, R27, R28: check 9 and the slot step. That a fresh allocation clears the slot's previous take is the model's
reading (log 11). -/
def Obligations.SlotStepAllocatesOrSupersedes : Prop :=
  ∀ (s : State) (q : AdmitFields),
    let m := (s.dest q.dest).domain
    let k : Take := {
      state := if s.holdTest q.dest then .held else .queued
      dest := q.dest, source := q.source, origin := q.origin, panel := q.panel, group := q.group
      condition := q.condition, report := q.report, admittedAt := s.now, ageStart := s.now
      issuedAt := none, reissued := false, outcome := none }
    (s.waitingOf q.dest = none → s.freeSlot = none → s.admitTake q = none) ∧
    (∀ i, s.waitingOf q.dest = none → s.freeSlot = some i →
      s.admitTake q = some (⟨⟨i, (s.slot i).gen + 1⟩, none⟩, { s with
        pool := { s.pool with
          slots := put s.pool.slots i ⟨(s.slot i).gen + 1, some k, none⟩
          queues := put s.pool.queues m (s.queue m ++ [i]) }
        handed := s.handed ++ (if s.activeDest q.dest then [] else [.dest q.dest]) })) ∧
    (∀ i t, s.waitingOf q.dest = some i → (s.slot i).take = some t →
      let old : Tag := ⟨i, (s.slot i).gen⟩
      s.admitTake q = some (⟨⟨i, (s.slot i).gen + 1⟩, some old⟩, { s with
        pool := { s.pool with
          slots := put s.pool.slots i ⟨(s.slot i).gen + 1, some k, some ⟨old, q.dest, t.source, .superseded⟩⟩
          queues := put s.pool.queues m ((s.queue m).filter (fun j => j ≠ i) ++ [i])
          issued := s.pool.issued.filter (fun j => j ≠ i) }
        bus := { s.bus with
          retry := put s.bus.retry m ((look s.bus.retry m).filter (fun g => g.slot ≠ i))
          absent := s.bus.absent.filter (fun a => a.1.slot ≠ i) } }))

/-- R22, R24: the take in slot `i` ends with outcome `o`. -/
def Obligations.EndOfTakeFreesOrReports : Prop :=
  ∀ (s : State) (i : Slot) (k : Take) (o : TakeOutcome), (s.slot i).take = some k →
    let m := (s.dest k.dest).domain
    let lists (slot : SlotRec) (reports : List Slot) (handed : List Handed) : State := { s with
      pool := { s.pool with
        slots := put s.pool.slots i slot
        queues := put s.pool.queues m ((s.queue m).filter (fun j => j ≠ i))
        issued := s.pool.issued.filter (fun j => j ≠ i)
        reports := reports }
      bus := { s.bus with
        retry := put s.bus.retry m ((look s.bus.retry m).filter (fun g => g.slot ≠ i))
        absent := s.bus.absent.filter (fun a => a.1.slot ≠ i) }
      handed := handed }
    let other : Prop := ∃ j, j ≠ i ∧ SlotHas s j k.dest [.queued, .held, .issued, .retry]
    ∃ handed, ((other → handed = s.handed) ∧ (¬ other → handed = s.handed ++ [.dest k.dest])) ∧
      (k.report = true → s.endTake i o =
        lists { s.slot i with take := some { k with state := .done, outcome := some o } } (s.pool.reports ++ [i]) handed) ∧
      (k.report = false → s.endTake i o =
        lists ⟨(s.slot i).gen, none, some ⟨⟨i, (s.slot i).gen⟩, k.dest, k.source, o⟩⟩ s.pool.reports handed)

/-- R40: TAKE. -/
def Obligations.TakeIsAdmittedOrRefused : Prop :=
  ∀ (s : State) (tag : Byte) (dest source : U16) (panel : Byte), s.linkFree = true →
    (∀ (flag : Byte) (v : U16) report, flag ≠ 0 → (flag ≠ 1 ∨ 511 < v.toNat) →
      Answers (.take tag dest source panel (some (flag, v)) report) s .badField [4] s) ∧
    (∀ (c : Option Src) (report : Byte), 1 < report.toNat →
      Answers (.take tag dest source panel (c.map (fun x => (1, num16 x))) report) s .badField [5] s) ∧
    (∀ (c : Option Src) (report : Bool),
      let request : Instr := .take tag dest source panel (c.map (fun x => (1, num16 x))) (if report then 1 else 0)
      (∀ code, s.admissionChecks dest.toNat source.toNat panel.toNat c = .fail code →
        Answers request s code (bytes16 dest) s) ∧
      (∀ d x p, s.admissionChecks dest.toNat source.toNat panel.toNat c = .pass d x p →
        let q : AdmitFields := ⟨d, x, if p = 0 then .direct else .panel p, p, none, c, report⟩
        (s.admitTake q = none → Answers request s .poolFull (bytes16 dest) s) ∧
        (∀ a t, s.admitTake q = some (a, t) →
          Answers request s .ok (num8 a.tag.slot :: a.tag.gen ::
            (match a.superseded with
             | none => [0]
             | some g => [1, num8 g.slot, g.gen])) t.settle)))

/-- R41: CANCEL TAKE. R38: HOLD_LIMIT_EXPIRY; that it changes nothing before its time is the model's choice (log 6). -/
def Obligations.WaitingTakesAreCancelledAndExpire : Prop :=
  ∀ (s : State),
    (∀ tag, s.linkFree = true →
      (∀ slot gen, 127 < slot.toNat → Answers (.cancelTake tag slot gen) s .badField [1] s) ∧
      (∀ (g : Tag), let request : Instr := .cancelTake tag (num8 g.slot) g.gen
        (∀ k, NamesLive s g k → (k.state = .queued ∨ k.state = .held) →
          Answers request s .ok [] (s.endTake g.slot .cancelled).settle) ∧
        (∀ k, NamesLive s g k → (k.state = .issued ∨ k.state = .retry ∨ k.state = .done) →
          Answers request s .tooLate [] s) ∧
        (∀ e, NamesEnded s g e → Answers request s .tooLate [] s) ∧
        ((∀ k, ¬ NamesLive s g k) → (∀ e, ¬ NamesEnded s g e) → Answers request s .noTake [] s))) ∧
    (∀ (i : Slot),
      let aged (k : Take) : Prop :=
        let r := s.dom (s.dest k.dest).domain
        (k.state = .queued ∨ k.state = .held) ∧ r.lock ≠ .locked ∧ r.lock ≠ .holdover ∧
          r.holdLimit * 1000 ≤ (s.now - k.ageStart).toNat
      (∀ k, (s.slot i).take = some k → aged k →
        exec (.holdLimitExpiry i) s = .next (s.endTake i .expired).settle) ∧
      ((∀ k, (s.slot i).take = some k → ¬ aged k) → exec (.holdLimitExpiry i) s = .next s))

/-! ## Panel Registry -/

/-- R45: ENROL PANEL. R48: SET ZONE. R52, R53, R54: SET PANEL LEVEL and WITHDRAW PANEL release the protects they leave behind. -/
def Obligations.PanelAndZoneRequests : Prop :=
  (∀ (s : State) (tag : Byte), s.linkFree = true →
      (∀ panel level, (panel = 0 ∨ 63 < panel.toNat) → Answers (.enrolPanel tag panel level) s .badField [1] s) ∧
      (∀ (p : Panel), p ≠ 0 →
        (∀ level, 3 < level.toNat → Answers (.enrolPanel tag (num8 p) level) s .badField [2] s) ∧
        (∀ (l : Level),
          ((look s.registry.panels p).enrolled = true →
            Answers (.enrolPanel tag (num8 p) (num8 l)) s .panelExists [] s) ∧
          ((look s.registry.panels p).enrolled = false →
            Answers (.enrolPanel tag (num8 p) (num8 l)) s .ok []
              { s with registry := { s.registry with panels := put s.registry.panels p ⟨true, l⟩ } }))) ∧
      (∀ zone level, 7 < zone.toNat → Answers (.setZone tag zone level) s .badField [1] s) ∧
      (∀ (z : Zone) level, 3 < level.toNat → Answers (.setZone tag (num8 z) level) s .badField [2] s) ∧
      (∀ (z : Zone) (l : Level), Answers (.setZone tag (num8 z) (num8 l)) s .ok []
        { s with registry := { s.registry with zoneMin := put s.registry.zoneMin z l } })) ∧
  (∀ (s : State) (tag : Byte), s.linkFree = true →
      (∀ panel level, (panel = 0 ∨ 63 < panel.toNat) →
        Answers (.setPanelLevel tag panel level) s .badField [1] s ∧
        Answers (.withdrawPanel tag panel) s .badField [1] s) ∧
      (∀ (p : Panel), p ≠ 0 →
        (∀ level, 3 < level.toNat → Answers (.setPanelLevel tag (num8 p) level) s .badField [2] s) ∧
        ((look s.registry.panels p).enrolled = false →
          (∀ l : Level, Answers (.setPanelLevel tag (num8 p) (num8 l)) s .noPanel [] s) ∧
          Answers (.withdrawPanel tag (num8 p)) s .noPanel [] s) ∧
        ((look s.registry.panels p).enrolled = true →
          let released (lost : Dest → Prop) (why : ReleaseReason) (record : PanelRec) (request : Instr) : Prop :=
            ∃ (t : State) (ds : List Dest), ds.Nodup ∧ (∀ d, d ∈ ds ↔ lost d) ∧ Answers request s .ok (e2 ds.length) t ∧
              t = { s with
                registry := { s.registry with
                  panels := put s.registry.panels p record, protects := t.registry.protects }
                flags := { s.flags with released := t.flags.released } } ∧
              ∀ d, (lost d → t.protectOf d = none ∧ look t.flags.released d = some (p, why)) ∧
                (¬ lost d → t.protectOf d = s.protectOf d ∧ look t.flags.released d = look s.flags.released d)
          (∀ l : Level,
            released (fun d => (look s.registry.panels p).level < l ∧
                ∃ q, s.protectOf d = some q ∧ q.holder = p ∧ q.level < l)
              .demotion ⟨true, l⟩ (.setPanelLevel tag (num8 p) (num8 l))) ∧
          released (fun d => ∃ q, s.protectOf d = some q ∧ q.holder = p)
            .withdrawal ⟨false, (look s.registry.panels p).level⟩ (.withdrawPanel tag (num8 p)))))

/-- R50: PROTECT DEST. R51, R54: RELEASE DEST. -/
def Obligations.ProtectAndReleaseRequests : Prop :=
  (∀ (s : State) (tag : Byte) (d : Dest), s.linkFree = true →
      (∀ panel kind level restore, 1 < kind.toNat →
        Answers (.protectDest tag (num8 d) panel kind level restore) s .badField [3] s) ∧
      (∀ panel kind level restore, kind.toNat ≤ 1 → 3 < level.toNat →
        Answers (.protectDest tag (num8 d) panel kind level restore) s .badField [4] s) ∧
      (∀ panel kind (l : Level) restore, kind.toNat ≤ 1 → (1 < restore.toNat ∨ (kind = 1 ∧ restore = 1)) →
        Answers (.protectDest tag (num8 d) panel kind (num8 l) restore) s .badField [5] s) ∧
      (∀ (code : Byte) (k : ProtectKind) (l : Level) (restore : Bool),
        ((code = 0 ∧ k = .lock) ∨ (code = 1 ∧ k = .protect ∧ restore = false)) →
        let request (panel : Byte) : Instr := .protectDest tag (num8 d) panel code (num8 l) (if restore then 1 else 0)
        (∀ panel, 63 < panel.toNat → Answers (request panel) s .noPanel [] s) ∧
        (∀ p : Panel,
          let own : Level := if p = 0 then 0 else (look s.registry.panels p).level
          (p ≠ 0 → (look s.registry.panels p).enrolled = false → Answers (request (num8 p)) s .noPanel [] s) ∧
          ((p = 0 ∨ (look s.registry.panels p).enrolled = true) →
            (l < own → Answers (request (num8 p)) s .levelDenied [] s) ∧
            (own ≤ l → p ≠ 0 → s.zoneMin (s.dest d).zone < own → Answers (request (num8 p)) s .zoneDenied [] s) ∧
            (own ≤ l → (p = 0 ∨ own ≤ s.zoneMin (s.dest d).zone) →
              (∀ q, s.protectOf d = some q → q.holder ≠ p →
                Answers (request (num8 p)) s (if q.kind = .lock then .locked else .guarded) [] s) ∧
              ((∀ q, s.protectOf d = some q → q.holder = p) →
                Answers (request (num8 p)) s .ok [] { s with registry := { s.registry with
                  protects := put s.registry.protects d (some ⟨p, k, l, restore⟩) } })))))) ∧
  (∀ (s : State) (tag : Byte) (d : Dest), s.linkFree = true →
      let freed : Registry := { s.registry with protects := put s.registry.protects d none }
      (∀ panel, 63 < panel.toNat → Answers (.releaseDest tag (num8 d) panel) s .noPanel [] s) ∧
      (∀ p : Panel,
        let request : Instr := .releaseDest tag (num8 d) (num8 p)
        (p ≠ 0 → (look s.registry.panels p).enrolled = false → Answers request s .noPanel [] s) ∧
        ((p = 0 ∨ (look s.registry.panels p).enrolled = true) →
          (s.protectOf d = none → Answers request s .notHolder [] s) ∧
          (∀ q, s.protectOf d = some q →
            (q.holder = p → Answers request s .ok [] { s with registry := freed }) ∧
            (q.holder ≠ p → p ≠ 0 → Answers request s .notHolder [] s) ∧
            (q.holder ≠ p → p = 0 → Answers request s .ok [] { s with
              registry := freed
              flags := { s.flags with released := put s.flags.released d (some (q.holder, .force)) } })))))

/-- R106, R55, R56, R57: a foreign confirm is applied, and a LOCK struck by it is a breach with its restore outcome. -/
def Obligations.ForeignConfirmOnALockIsABreach : Prop :=
  ∀ (s : State) (d : Dest) (x : Src),
    let u := s.applyReport d x .foreign
    let breach (o : RestoreOutcome) (t : State) : State :=
      { t with flags := { t.flags with lockBreach := put t.flags.lockBreach d (some (x, o)) } }
    let answers (t : State) : Prop := exec (.confirmForeign d x) s = .next t.settle
    let restores (i : Slot) : Prop :=
      ∃ k, (s.slot i).take = some k ∧ k.dest = d ∧ k.origin = .restore ∧ k.state ∈ [TakeState.queued, .held, .issued, .retry]
    ((∀ q, s.protectOf d = some q → q.kind = .protect) → answers u) ∧
    (∀ q, s.protectOf d = some q → q.kind = .lock →
      (q.restore = false → answers (breach .notRequested u)) ∧
      (q.restore = true →
        (∀ i, restores i → (∀ j < i, ¬ restores j) → answers (breach (.alreadyPending ⟨i, (s.slot i).gen⟩) u)) ∧
        ((∀ i, ¬ restores i) →
          ((s.dest d).source = some x → answers (breach .notNeeded u)) ∧
          ((s.dest d).source = none → answers (breach (.refused .notLearned) u)) ∧
          (∀ y, (s.dest d).source = some y → y ≠ x →
            let fields : AdmitFields := ⟨d, y, .restore, q.holder, none, none, false⟩
            ((s.dest d).output = .faulted → answers (breach (.refused .destFaulted) u)) ∧
            ((s.dest d).output ≠ .faulted → u.admitTake fields = none → answers (breach (.refused .poolFull) u)) ∧
            (∀ a t, (s.dest d).output ≠ .faulted → u.admitTake fields = some (a, t) →
              answers (breach (.admitted a.tag a.superseded) t))))))

/-! ## Salvo Store -/

/-- R62: STORE SALVO. R63: ERASE SALVO. Where several destinations are shared, which one DUP_DEST names is the model's choice
(log 26): the one whose second occurrence stands first. -/
def Obligations.SalvosAreStoredAndErasedWhole : Prop :=
  ∀ (s : State) (tag : Byte), s.linkFree = true →
    let sent (l : List (Dest × Src)) : List (Byte × U16) := l.map (fun e => (num8 e.1, num16 e.2))
    (∀ salvo content, content.length ≤ 255 → 31 < salvo.toNat →
      Answers (.storeSalvo tag salvo content) s .badField [1] s) ∧
    (∀ salvo, 31 < salvo.toNat → Answers (.eraseSalvo tag salvo) s .badField [1] s) ∧
    (∀ n : Salvo,
      let stored (l : List (Dest × Src)) : State := { s with store := { s.store with salvos := put s.store.salvos n l } }
      let others : Nat := (((List.finRange 32).filter (fun k => k ≠ n)).map (fun k => (look s.store.salvos k).length)).sum
      (∀ content, content.length ≤ 255 → (content = [] ∨ 64 < content.length) →
        Answers (.storeSalvo tag (num8 n) content) s .badField [2] s) ∧
      (∀ (l : List (Dest × Src)) (dest : Byte) (source : U16) rest, l.length + rest.length ≤ 63 → 511 < source.toNat →
        Answers (.storeSalvo tag (num8 n) (sent l ++ (dest, source) :: rest)) s .badField (e1 (4 + 2 * l.length)) s) ∧
      (∀ (l : List (Dest × Src)) (e : Dest × Src) (rest : List (Dest × Src)), l.length + rest.length ≤ 63 →
        (l.map Prod.fst).Nodup → e.1 ∈ l.map Prod.fst →
        Answers (.storeSalvo tag (num8 n) (sent (l ++ e :: rest))) s .dupDest [num8 e.1, BitVec.ofNat 8 (l.length + 1)]
          s) ∧
      (∀ l : List (Dest × Src), l ≠ [] → l.length ≤ 64 → (l.map Prod.fst).Nodup →
        (s.salvoBusy n = true → Answers (.storeSalvo tag (num8 n) (sent l)) s .salvoBusy [] s) ∧
        (s.salvoBusy n = false →
          (1024 - others < l.length → Answers (.storeSalvo tag (num8 n) (sent l)) s .storeFull (e2 (1024 - others)) s) ∧
          (others + l.length ≤ 1024 → Answers (.storeSalvo tag (num8 n) (sent l)) s .ok [] (stored l)))) ∧
      (look s.store.salvos n = [] → Answers (.eraseSalvo tag (num8 n)) s .noSalvo [] s) ∧
      (look s.store.salvos n ≠ [] →
        (s.salvoBusy n = true → Answers (.eraseSalvo tag (num8 n)) s .salvoBusy [] s) ∧
        (s.salvoBusy n = false → Answers (.eraseSalvo tag (num8 n)) s .ok [] (stored []))))

/-- R65, R66, R67: a fire's entries are judged by checks 1 to 8 and the pool's accounting, and admitted in order. -/
def Obligations.FireJudgesThenAdmits : Prop :=
  ∀ (s : State) (f : Firing) (content : List (Dest × Src)), content ≠ [] →
    let failure (e : Dest × Src) : Option Status :=
      match s.admissionChecks e.1.val e.2.val f.panel none with
      | .fail code => some code
      | .pass .. => none
    let failed : List (Status × Dest) := content.filterMap (fun e => (failure e).map (fun c => (c, e.1)))
    let passed := content.filter (fun e => (failure e).isNone)
    let fresh := passed.filter (fun e => (s.waitingOf e.1).isNone)
    let free := ((List.finRange 128).filter (fun i => (s.slot i).take.isNone)).length
    (∀ c d rest, failed = (c, d) :: rest → (f.mode = .all ∨ passed = []) →
      s.fireEntries f content = (.refused c (some d), s)) ∧
    (passed ≠ [] → (f.mode = .partialMode ∨ failed = []) →
      (∀ e, fresh[free]? = some e → s.fireEntries f content = (.refused .poolFull (some e.1), s)) ∧
      (∀ p : Panel, p.val = f.panel → fresh.length ≤ free →
        let group : Group := ⟨f.salvo, s.store.serial + 1, f.mode⟩
        let member (t : State) (e : Dest × Src) : State :=
          match t.admitTake ⟨e.1, e.2, f.origin, p, some group, none, f.report⟩ with
          | some (_, u) => u
          | none => t
        s.fireEntries f content =
          (.fired (s.store.serial + 1) passed.length (passed.length - fresh.length) failed.head?,
            passed.foldl member { s with store := { s.store with serial := s.store.serial + 1 } })))

/-- R67: after a fire of entries with distinct destinations, every passing entry has its waiting take, with the fire's
group. -/
def Obligations.FireGivesEveryPassingEntryATake : Prop :=
  ∀ (s t : State) (f : Firing) (content : List (Dest × Src)) (serial : U16) (a b : Nat) (first : Option (Status × Dest)),
    (content.map Prod.fst).Nodup → s.fireEntries f content = (.fired serial a b first, t) →
    t.store.serial = serial ∧ serial = s.store.serial + 1 ∧ 0 < a ∧ b ≤ a ∧
    (∀ e ∈ content, ∀ d x p, s.admissionChecks e.1.val e.2.val f.panel none = .pass d x p →
      ∃ i k, (t.slot i).take = some k ∧ k.dest = e.1 ∧ k.source = e.2 ∧ (k.state = .queued ∨ k.state = .held) ∧
        k.group = some ⟨f.salvo, serial, f.mode⟩ ∧ k.panel = p ∧ k.origin = f.origin ∧ k.report = f.report ∧
        i ∈ t.queue (s.dest e.1).domain)

/-- R61, R64, R68, R70: FIRE SALVO. R71, R72: UNDO. -/
def Obligations.FireSalvoPushesAndUndoPops : Prop :=
  ∀ (s : State) (tag panel : Byte), s.linkFree = true →
    let first (r : Option (Status × Dest)) : List Byte :=
      match r with
      | none => [0]
      | some (c, d) => 1 :: statusCode c :: e2 d.val
    let items (serial : U16) (a b : Nat) (r : Option (Status × Dest)) : List Byte := bytes16 serial ++ e1 a ++ e1 b ++ first r
    (∀ salvo mode report, 31 < salvo.toNat → Answers (.fireSalvo tag salvo panel mode report) s .badField [1] s) ∧
    (∀ (n : Salvo) mode report, 1 < mode.toNat → Answers (.fireSalvo tag (num8 n) panel mode report) s .badField [3] s) ∧
    (∀ (n : Salvo) mode report, mode.toNat ≤ 1 → 1 < report.toNat →
      Answers (.fireSalvo tag (num8 n) panel mode report) s .badField [4] s) ∧
    (∀ (n : Salvo) (code : Byte) (m : GroupMode) (report : Bool), ((code = 0 ∧ m = .all) ∨ (code = 1 ∧ m = .partialMode)) →
      let request : Instr := .fireSalvo tag (num8 n) panel code (if report then 1 else 0)
      let content := look s.store.salvos n
      let origin : TakeOrigin :=
        if h : panel.toNat < 64 then (if panel = 0 then .direct else .panel ⟨panel.toNat, h⟩) else .direct
      let f : Firing := ⟨panel.toNat, m, report, origin, some n⟩
      (s.salvoBusy n = true → Answers request s .salvoBusy [] s) ∧
      (s.salvoBusy n = false → content = [] → Answers request s .noSalvo [] s) ∧
      (s.salvoBusy n = false → content ≠ [] →
        (∀ c d u, s.fireEntries f content = (.refused c (some d), u) → Answers request s c (e2 d.val) s) ∧
        (∀ serial a b r t, s.fireEntries f content = (.fired serial a b r, t) →
          let pairs := content.filterMap (fun e =>
            match s.admissionChecks e.1.val e.2.val panel.toNat none with
            | .pass .. => (s.dest e.1).source.map (fun x => (e.1, x))
            | .fail _ => none)
          let pushed : State := { t with store := { t.store with undo := (⟨n, pairs⟩ :: t.store.undo).take 4 } }
          Answers request s .ok (items serial a b r) pushed.settle))) ∧
    (s.store.undo = [] → Answers (.undo tag panel) s .nothingToUndo [] s) ∧
    (∀ u rest, s.store.undo = u :: rest →
      let f : Firing := ⟨panel.toNat, .partialMode, false, .undo, none⟩
      (∀ c d v, s.fireEntries f u.pairs = (.refused c (some d), v) → Answers (.undo tag panel) s c (e2 d.val) s) ∧
      (∀ serial a b r t, s.fireEntries f u.pairs = (.fired serial a b r, t) →
        let popped : State := { t with store := { t.store with undo := rest } }
        Answers (.undo tag panel) s .ok (num8 u.salvo :: items serial a b r) popped.settle))

/-! ## Domain Timers -/

/-- R77, R80, R81: a change of lock state. R39, R90, and logs 15 and 21: after an event, each closing domain in turn has its
held takes flushed when nothing else waits, and becomes CLOSED when it has no active slot; then the walls are served. That a
change of lock state forgets a pending loss is the model's reading (log 29). -/
def Obligations.LockChangesAndClosings : Prop :=
  (∀ (s : State) (d : Dom) (l : LockState),
      let r := s.dom d
      let switches (x : LockState) : Prop := x = .locked ∨ x = .holdover
      let stops : Prop := (switches r.lock ∧ ¬ switches l) ∨ (r.lock = .closed ∧ l = .acquiring)
      let flags : Flags := { s.flags with domain := put s.flags.domain d (some (l, false)) }
      let moved : DomRec := { r with lock := l, settleProgress := 0, holdoverCount := 0, lossPending := false }
      (¬ stops → s.setLock d l = { s with domains := put s.domains d moved, flags := flags }) ∧
      (stops →
        let t := s.setLock d l
        let untimed := (List.finRange 128).filter (fun i =>
          (s.slot i).holds (fun k => decide ((s.dest k.dest).domain = d ∧ (k.state = .issued ∨ k.state = .retry))) &&
            s.bus.absent.all (fun a => decide (a.1.slot ≠ i)))
        t = { s with
          domains := put s.domains d { moved with stopMoment := s.now }
          flags := flags
          pool := { s.pool with slots := t.pool.slots }
          bus := { s.bus with absent := s.bus.absent ++ untimed.map (fun i => (⟨i, (s.slot i).gen⟩, s.now)) } } ∧
        ∀ i,
          (∀ k, (s.slot i).take = some k → (s.dest k.dest).domain = d → (k.state = .queued ∨ k.state = .held) →
            t.slot i = { s.slot i with take := some { k with ageStart := s.now } }) ∧
          ((∀ k, (s.slot i).take = some k → (s.dest k.dest).domain ≠ d ∨ (k.state ≠ .queued ∧ k.state ≠ .held)) →
            t.slot i = s.slot i))) ∧
  (∀ s : State,
      let flushed (u : State) (d : Dom) : State :=
        if u.onlyHeld d then (u.queue d).foldl (fun v i => v.endTake i .flushed) u else u
      let closed (u : State) (d : Dom) : State :=
        let r := u.dom d
        { u with
          domains := put u.domains d { r with
            lock := .closed, closing := none, settleProgress := 0, holdoverCount := 0, lossPending := false
            stopMoment := if r.lock = .locked ∨ r.lock = .holdover then u.now else r.stopMoment }
          flags := { u.flags with domain := put u.flags.domain d (some (.closed, false)) } }
      let serve (u : State) (d : Dom) : State :=
        if (u.dom d).closing = none then u
        else if (flushed u d).activeDomain d then flushed u d
        else closed (flushed u d) d
      s.settle = (serve (serve (serve (serve s 0) 1) 2) 3).settleWalls)

/-- R88: SET DOMAIN. R87: OPEN DOMAIN, the judgement found waiting for the next frame start (R77). R89: CLOSE DOMAIN. -/
def Obligations.DomainsAreConfiguredOpenedAndClosed : Prop :=
  ∀ (s : State) (tag : Byte), s.linkFree = true →
    (∀ domain standard settle holdover hold, 3 < domain.toNat →
      Answers (.setDomain tag domain standard settle holdover hold) s .badField [1] s) ∧
    (∀ domain, 3 < domain.toNat → Answers (.openDomain tag domain) s .badField [1] s) ∧
    (∀ domain mode, 3 < domain.toNat → Answers (.closeDomain tag domain mode) s .badField [1] s) ∧
    (∀ d : Dom,
      let r := s.dom d
      (∀ standard settle holdover hold, 7 < standard.toNat →
        Answers (.setDomain tag (num8 d) standard settle holdover hold) s .badField [2] s) ∧
      (∀ (c : Fin 8) settle holdover hold, (settle.toNat < 4 ∨ 64 < settle.toNat) →
        Answers (.setDomain tag (num8 d) (num8 c) settle holdover hold) s .badField [3] s) ∧
      (∀ (c : Fin 8) settle holdover hold, 4 ≤ settle.toNat → settle.toNat ≤ 64 → 250 < holdover.toNat →
        Answers (.setDomain tag (num8 d) (num8 c) settle holdover hold) s .badField [4] s) ∧
      (∀ (c : Fin 8) settle holdover hold, 4 ≤ settle.toNat → settle.toNat ≤ 64 → holdover.toNat ≤ 250 →
        (hold.toNat < 100 ∨ 10000 < hold.toNat) →
        Answers (.setDomain tag (num8 d) (num8 c) settle holdover hold) s .badField [5] s) ∧
      (∀ (c : Fin 8) settle holdover hold, 4 ≤ settle.toNat → settle.toNat ≤ 64 → holdover.toNat ≤ 250 →
        100 ≤ hold.toNat → hold.toNat ≤ 10000 →
        let request : Instr := .setDomain tag (num8 d) (num8 c) settle holdover hold
        let n := Config.framesPerDay c
        let w : DomRec := { r with
          standard := c, settleCount := settle.toNat, holdoverLimit := holdover.toNat, holdLimit := hold.toNat }
        (r.lock ≠ .closed → Answers request s .domainActive [] s) ∧
        (r.lock = .closed → c = r.standard → Answers request s .ok [] { s with domains := put s.domains d w }) ∧
        (r.lock = .closed → c ≠ r.standard → Answers request s .ok [] { s with
          domains := put s.domains d { w with
            timecode := r.timecode % n, markPreset := r.markPreset % n
            pendingTimecode := r.pendingTimecode.map (fun e => (e.1 % n, e.2)) } })) ∧
      (r.lock ≠ .closed → Answers (.openDomain tag (num8 d)) s .domainActive [] s) ∧
      (r.lock = .closed →
        let t := s.setLock d .acquiring
        Answers (.openDomain tag (num8 d)) s .ok []
          { t with domains := put t.domains d { t.dom d with openDetection := decide (r.seen ≠ .none) } }) ∧
      (∀ mode, 1 < mode.toNat → Answers (.closeDomain tag (num8 d) mode) s .badField [2] s) ∧
      (∀ mode, mode.toNat ≤ 1 → r.lock = .closed → Answers (.closeDomain tag (num8 d) mode) s .domainClosed [] s) ∧
      (r.lock ≠ .closed →
        let closing (m : CloseMode) : State := { s with domains := put s.domains d { r with closing := some m } }
        let drained := (closing .drain).settle
        let flushed := ((s.queue d).foldl (fun v i => v.endTake i .flushed) (closing .flush)).settle
        Answers (.closeDomain tag (num8 d) 0) s .ok
          (e1 (if s.onlyHeld d then (s.queue d).length else 0) ++ e1 (lockCode (drained.dom d).lock)) drained ∧
        Answers (.closeDomain tag (num8 d) 1) s .ok
          (e1 (s.queue d).length ++ e1 (lockCode (flushed.dom d).lock)) flushed))

/-- R83: SET TIMECODE. R84: ARM MARK. R86: DISARM MARK. -/
def Obligations.TimecodeAndMarkRequests : Prop :=
  ∀ (s : State) (tag : Byte), s.linkFree = true →
    (∀ domain value, 3 < domain.toNat → Answers (.setTimecode tag domain value) s .badField [1] s) ∧
    (∀ domain mode preset event, 3 < domain.toNat →
      Answers (.armMark tag domain mode preset event) s .badField [1] s) ∧
    (∀ domain, 3 < domain.toNat → Answers (.disarmMark tag domain) s .badField [1] s) ∧
    (∀ d : Dom,
      let r := s.dom d
      let n := Config.framesPerDay r.standard
      (∀ value, n ≤ value.toNat → Answers (.setTimecode tag (num8 d) value) s .badField [2] s) ∧
      (∀ value, value.toNat < n → Answers (.setTimecode tag (num8 d) value) s .ok [] { s with
        domains := put s.domains d { r with pendingTimecode := some (value.toNat, .request) } }) ∧
      (∀ mode preset event, 1 < mode.toNat →
        Answers (.armMark tag (num8 d) mode preset event) s .badField [2] s) ∧
      (∀ mode preset event, mode.toNat ≤ 1 → n ≤ preset.toNat →
        Answers (.armMark tag (num8 d) mode preset event) s .badField [3] s) ∧
      (∀ mode preset event, mode.toNat ≤ 1 → preset.toNat < n → isEvent event = false →
        Answers (.armMark tag (num8 d) mode preset event) s .badBinding [] s) ∧
      (∀ (continuous : Bool) preset event, preset.toNat < n → isEvent event = true →
        let request : Instr := .armMark tag (num8 d) (if continuous then 1 else 0) preset event
        (r.markStatus = .doneSingle → Answers request s .markNotCleared [] s) ∧
        (r.markStatus ≠ .doneSingle → Answers request s .ok [] { s with
          domains := put s.domains d { r with
            markPreset := preset.toNat, markStatus := if continuous then .continuous else .armedSingle }
          router := { s.router with mark := put s.router.mark d event } })) ∧
      Answers (.disarmMark tag (num8 d)) s .ok [] { s with
        domains := put s.domains d { r with
          markStatus := .idle, markCounter := 0
          pendingTimecode := match r.pendingTimecode with
            | some (v, .request) => some (v, .request)
            | _ => none }
        router := { s.router with mark := put s.router.mark d 0 } }) ∧
    (∀ event : Byte, isEvent event = true ↔
      (1 ≤ event.toNat ∧ event.toNat ≤ 4) ∨ (8 ≤ event.toNat ∧ event.toNat ≤ 23) ∨
      (32 ≤ event.toNat ∧ event.toNat ≤ 47) ∨ (64 ≤ event.toNat ∧ event.toNat ≤ 95))

/-- R76, R77, R78, R79: REFERENCE_FRAME_START and REFERENCE_LOSS_TIMEOUT. The model's choices and readings: where a spacing
matches two standards, which one is judged is free (log 9); the frame starts a loss leaves behind (log 8); the phase, and the
one switch point of a return IN PHASE (log 10); which timer frame start shows a departure in LOCKED (log 29); that a LOCKED
domain with a holdover limit of 0 stops at the moment of REFERENCE_LOSS_TIMEOUT (log 18); that a
judgement waiting since OPEN DOMAIN is dropped at a loss (log 34); that the seen period of UNRECOGNISED is the last spacing
for departures too (log 37); and that REFERENCE_LOSS_TIMEOUT changes nothing before its time or with nothing seen (log 6). -/
def Obligations.ReferenceDrivesTheLockState : Prop :=
  ∀ (s : State) (d : Dom),
    let r := s.dom d
    let monitor (u : State) (seen : Seen) (last : Option Time) (spacing : Time) (opened : Bool) : State :=
      { u with domains := put u.domains d { u.dom d with
        seen := seen, lastStart := last, lastSpacing := spacing, openDetection := opened } }
    let seenPeriod : Nat := match r.seen with
      | .standard c => Config.framePeriod c
      | .unrecognised => r.lastSpacing.toNat
      | .none => 0
    let period := Config.framePeriod r.standard
    let phase := (s.now - r.timerAt).toNat % period
    let inPhase : Prop := phase ≤ 64 ∨ period - phase ≤ 64
    let mismatch (u : State) : State :=
      { u with flags := { u.flags with domain := put u.flags.domain d (some (r.lock, true)) } }
    let locked (u : State) : State :=
      let v := u.setLock d .locked
      { v with domains := put v.domains d { v.dom d with timerAt := v.now } }
    let lost (u : State) : State := match r.lock with
      | .settling => u.setLock d .acquiring
      | .locked => if r.holdoverLimit = 0 then u.setLock d .absent else u.setLock d .holdover
      | _ => u
    let detected (u v : State) (seen : Seen) : Prop :=
      ((r.lock = .closed ∨ r.lock = .settling ∨ r.lock = .locked) → v = u) ∧
      ((r.lock = .acquiring ∨ r.lock = .absent ∨ r.lock = .holdover) → seen ≠ .standard r.standard → v = mismatch u) ∧
      ((r.lock = .acquiring ∨ r.lock = .absent) → seen = .standard r.standard → v = u.setLock d .settling) ∧
      (r.lock = .holdover → seen = .standard r.standard →
        (¬ inPhase → v = u.setLock d .settling) ∧
        (inPhase → (s.now - r.timerAt).toNat ≤ 64 → v = locked u) ∧
        (inPhase → 64 < (s.now - r.timerAt).toNat → v = (locked u).switchPoint d))
    let answers (v : State) : Prop := exec (.referenceFrameStart d) s = .next v
    (r.lastStart = none → answers { s with domains := put s.domains d { r with lastStart := some s.now } }) ∧
    (∀ t, r.lastStart = some t →
      let spacing := (s.now - t).toNat
      let near (c : Fin 8) : Prop :=
        spacing ≤ Config.framePeriod c + 8 ∧ Config.framePeriod c ≤ spacing + 8
      let departs : Prop := seenPeriod + 8 < spacing ∨ spacing + 8 < seenPeriod
      (r.seen = .none →
        ((∀ c, ¬ near c) →
          ∃ v, answers v ∧ detected (monitor s .unrecognised (some s.now) (s.now - t) r.openDetection) v .unrecognised) ∧
        ((∃ c, near c) → ∃ c v u, near c ∧ answers v ∧
          ((u = s ∧ ∀ c', near c' → c' = c) ∨ (u = { s with choices := s.choices + 1 } ∧ ∃ c', near c' ∧ c' ≠ c)) ∧
          detected (monitor u (.standard c) (some s.now) (s.now - t) r.openDetection) v (.standard c))) ∧
      (r.seen ≠ .none → departs →
        let u := monitor s .none (some s.now) r.lastSpacing false
        ((r.lock ≠ .locked ∨ (s.now - r.timerAt).toNat ≤ 64) → answers (lost u)) ∧
        (r.lock = .locked → 64 < (s.now - r.timerAt).toNat → answers { u with
          domains := put u.domains d { u.dom d with lossPending := true } })) ∧
      (r.seen ≠ .none → ¬ departs →
        let u := monitor s r.seen (some s.now) (s.now - t) false
        (r.openDetection = true → ∃ v, answers v ∧ detected u v r.seen) ∧
        (r.openDetection = false → r.lock ≠ .settling → answers u) ∧
        (r.openDetection = false → r.lock = .settling →
          (r.settleCount ≤ r.settleProgress + 1 → answers ((locked u).switchPoint d)) ∧
          (r.settleProgress + 1 < r.settleCount → answers { u with
            domains := put u.domains d { u.dom d with settleProgress := r.settleProgress + 1 } })))) ∧
    (∀ t, r.lastStart = some t → r.seen ≠ .none →
      (3 * seenPeriod ≤ 2 * (s.now - t).toNat →
        let u := monitor s .none none r.lastSpacing false
        (r.lossPending = false → exec (.referenceLossTimeout d) s = .next (lost u)) ∧
        (r.lossPending = true → exec (.referenceLossTimeout d) s = .next u)) ∧
      (2 * (s.now - t).toNat < 3 * seenPeriod → exec (.referenceLossTimeout d) s = .next s)) ∧
    ((r.lastStart = none ∨ r.seen = .none) → exec (.referenceLossTimeout d) s = .next s)

/-- R76, R79: TIMER_FRAME_START. In LOCKED whether a reference frame start follows is an input (log 7), and a departure seen
before it is judged after its switch point (log 29); a loss judged with no reference frame start near leaves the monitor no
frame start to count from (log 8) and drops a judgement waiting since OPEN DOMAIN (log 34); in HOLDOVER it acts once the frame
period has passed (log 6), and at the limit makes the domain ABSENT whatever follows (log 36). -/
def Obligations.TimerFrameStartsSwitch : Prop :=
  ∀ (s : State) (d : Dom) (follows : Bool),
    let r := s.dom d
    let at_ (v : DomRec) : State := { s with domains := put s.domains d v }
    let out := exec (.timerFrameStart d follows) s
    (r.lock ≠ .locked → r.lock ≠ .holdover → out = .next s) ∧
    (r.lock = .locked →
      let u := (at_ { r with timerAt := s.now }).switchPoint d
      let near : Prop := follows = true ∨ ∃ t, r.lastStart = some t ∧ (s.now - t).toNat ≤ 64
      let q := u.dom d
      let lost : State := { u with domains := put u.domains d { q with
        seen := .none, lastStart := none, openDetection := false } }
      let shown : Prop := r.lossPending = true ∧ (near ∨ r.seen = .none)
      let judged (v : State) : Prop :=
        (q.lock = .locked → q.holdoverLimit = 0 → out = .next (v.setLock d .absent)) ∧
        (q.lock = .locked → q.holdoverLimit ≠ 0 → out = .next (v.setLock d .holdover)) ∧
        (q.lock = .closed → out = .next v)
      (near → r.lossPending = false → out = .next u) ∧ (shown → judged u) ∧ (¬ near → ¬ shown → judged lost)) ∧
    (r.lock = .holdover →
      let period := Config.framePeriod r.standard
      let v : DomRec := { r with timerAt := r.timerAt + BitVec.ofNat 32 period, holdoverCount := r.holdoverCount + 1 }
      ((s.now - r.timerAt).toNat < period → out = .next s) ∧
      (period ≤ (s.now - r.timerAt).toNat →
        (r.holdoverLimit ≤ r.holdoverCount + 1 → out = .next ((at_ v).setLock d .absent)) ∧
        (r.holdoverCount + 1 < r.holdoverLimit → out = .next ((at_ v).switchPoint d))))

/-! ## Events, GPI, comparators -/

/-- R82, R159, R85, R142: a switch point changes number and timecode, then its window and the deliveries of its event run
in an order that is free (log 2). An event reaches each consumer bound to it; with none bound nothing happens. R164, R165: a
trigger is evaluated, and what it forwards is delivered. Of several arrivals one is applied whole, and the rest with what it
forwarded follow, no command falling between them (the model's choice, log 38). -/
def Obligations.SwitchPointsAndEventsReachTheirConsumers : Prop :=
  ∀ (s : State),
    (∀ d : Dom,
      let r := s.dom d
      let n := Config.framesPerDay r.standard
      let u : State := { s with domains := put s.domains d { r with
        number := r.number + 1
        timecode := match r.pendingTimecode with
          | some (v, _) => v % n
          | none => (r.timecode + 1) % n
        pendingTimecode := none } }
      let tags : List Tag := (s.queue d).map (fun i => ⟨i, (s.slot i).gen⟩)
      s.switchPoint d = u.deliver (.window d tags :: u.arrivals (BitVec.ofNat 8 (1 + d.val))) ∧
      (u.arrivals (BitVec.ofNat 8 (1 + d.val)) = [] → s.switchPoint d = (u.issueWindow d tags).settle)) ∧
    (∀ id : Byte, (s.arrivals id).Nodup ∧ s.raise id = s.deliver (s.arrivals id) ∧
      (∀ k, Arrival.trigger k ∈ s.arrivals id ↔ look s.router.trigger k = id) ∧
      (∀ p, Arrival.poll p ∈ s.arrivals id ↔ look s.router.poll p = id) ∧
      (∀ d, Arrival.mark d ∈ s.arrivals id ↔ look s.router.mark d = id)) ∧
    s.deliver [] = s ∧
    (∀ p, s.deliver [.poll p] =
      ({ s with ports := put s.ports p ({ s.port p with pollPending := true }.start s.now) } : State).settle) ∧
    (∀ d, let r := s.dom d
      let taken : DomRec := { r with markCounter := r.markCounter + 1, pendingTimecode := some (r.markPreset, .mark) }
      ((r.markStatus = .idle ∨ r.markStatus = .doneSingle) → s.deliver [.mark d] = s.settle) ∧
      (r.markStatus = .continuous →
        s.deliver [.mark d] = ({ s with domains := put s.domains d taken } : State).settle) ∧
      (r.markStatus = .armedSingle → s.deliver [.mark d] =
        ({ s with domains := put s.domains d { taken with markStatus := .doneSingle } } : State).settle)) ∧
    (∀ a b : Arrival, (∀ k, a ≠ .trigger k) → (∀ k, b ≠ .trigger k) →
      let u : State := { s with choices := s.choices + 1 }
      s.deliver [a, b] = ((u.arrive a).1.settle.arrive b).1.settle ∨
      s.deliver [a, b] = ((u.arrive b).1.settle.arrive a).1.settle) ∧
    (∀ k, s.deliver [.trigger k] = (s.trigger k).1.settle.deliver (s.trigger k).2) ∧
    (∀ k, s.arrive (.trigger k) = s.trigger k) ∧
    (∀ as : List Arrival, as ≠ [] →
      let u : State := if as.length = 1 then s else { s with choices := s.choices + 1 }
      ∃ i a, as[i]? = some a ∧
        s.deliver as = (u.arrive a).1.settle.deliver (as.eraseIdx i ++ (u.arrive a).2))

/-- R163: the result of an evaluation. R164, R165, R166, R70: a trigger, what a forward leaves to deliver, and an action's
result, with the undo record of a fire. That a comparator outcome is forwarded to polls and marks only is the model's reading
of R158 (log 22). -/
def Obligations.ComparatorsEvaluateForwardAndAct : Prop :=
  (∀ (r : CmpRec) (standard : Fin 8) (timecode : Nat), timecode < Config.framesPerDay standard →
      let n := Config.framesPerDay standard
      let difference := ((timecode : Int) - (r.origin % n : Nat)).emod n
      let reduced := if r.period = 0 then difference else difference.emod r.period
      (r.evaluate standard timecode = true ↔
        (r.strict = false ∧ reduced ≤ (r.margin % n : Nat)) ∨ (r.strict = true ∧ reduced < (r.margin % n : Nat)))) ∧
  (∀ (s : State) (k : Cmp),
      let r := s.cmp k
      let tc := (s.dom r.domain).timecode
      let result := r.evaluate (s.dom r.domain).standard tc
      let kept (c : CmpRec) : State := { s with cmps := put s.cmps k c }
      let judged : CmpRec := { r with lastResult := some result }
      let latched (c : CmpRec) (branch : Bool) : CmpRec :=
        if branch then { c with trueLatch := some (tc, s.now) } else { c with falseLatch := some (tc, s.now) }
      let forwarded (branch : Bool) : List Arrival :=
        let id : Byte := BitVec.ofNat 8 ((if branch then 32 else 40) + k.val)
        let a := if branch then r.onTrue else r.onFalse
        ((List.finRange 16).filter (fun p => look s.router.poll p = id)).map .poll ++
          ((List.finRange 4).filter (fun d => look s.router.mark d = id)).map .mark ++
          (if a = .none then [] else [.action k branch a])
      (r.state = .off → s.trigger k = (s, [])) ∧
      (r.state = .armed → r.mode = .once →
        (result = true → s.trigger k = (kept (latched { judged with state := .off } true), forwarded true)) ∧
        (result = false → s.trigger k = (kept judged, []))) ∧
      (r.state = .armed → r.mode ≠ .once → s.trigger k = (kept (latched judged result), forwarded result)) ∧
      (r.state = .baseline → s.trigger k = (kept { judged with state := .tracking }, [])) ∧
      (r.state = .tracking →
        (r.lastResult = some result → s.trigger k = (s, [])) ∧
        (r.lastResult ≠ some result → s.trigger k = (kept (latched judged result), forwarded result))) ∧
      (∀ (branch : Bool) (a : Action), a ≠ .none → ∃ code t,
        s.deliver [.action k branch a] = State.settle { t with
          cmps := put t.cmps k { t.cmp k with lastAction := some ⟨branch, a, code, s.now⟩ }
          flags := if code ≠ .ok ∨ a = .attention
            then { t.flags with comparator := put t.flags.comparator k (some (branch, code)) } else t.flags } ∧
        (a = .attention → code = .ok ∧ t = s) ∧
        (∀ p c, a = .recorder p c →
          ((s.port p).online = false → code = .portOffline ∧ t = s) ∧
          ((s.port p).online = true → 4 ≤ (s.port p).queue.length → code = .queueFull ∧ t = s) ∧
          ((s.port p).online = true → (s.port p).queue.length < 4 → code = .ok ∧
            t = { s with ports := put s.ports p ({ s.port p with queue := (s.port p).queue ++ [c] }.start s.now) })) ∧
        (∀ n, a = .fireSalvo n →
          let content := look s.store.salvos n
          let f : Firing := ⟨r.panel.val, .partialMode, false, .comparator k, some n⟩
          (s.salvoBusy n = true → code = .salvoBusy ∧ t = s) ∧
          (s.salvoBusy n = false → content = [] → code = .noSalvo ∧ t = s) ∧
          (s.salvoBusy n = false → content ≠ [] →
            (∀ c d u, s.fireEntries f content = (.refused c d, u) → code = c ∧ t = s) ∧
            (∀ serial x y z u, s.fireEntries f content = (.fired serial x y z, u) → code = .ok ∧
              let pairs := content.filterMap (fun e =>
                match s.admissionChecks e.1.val e.2.val r.panel.val none with
                | .pass .. => (s.dest e.1).source.map (fun y => (e.1, y))
                | .fail _ => none)
              t = { u with store := { u.store with undo := (⟨n, pairs⟩ :: u.store.undo).take 4 } })))))

/-- R160: GPI_PIN_CHANGE and DEBOUNCE_EXPIRY. R161: SET GPI. The model's choices: DEBOUNCE_EXPIRY changes nothing before its
time (log 6), and the reply's level is 0 for LOW and 1 for HIGH (log 27). -/
def Obligations.GpiInputsAreDebounced : Prop :=
  ∀ (s : State) (i : Gpi),
    let r := s.gpi i
    let kept (v : GpiRec) : State := { s with gpis := put s.gpis i v }
    let edge (high : Bool) : Byte := BitVec.ofNat 8 ((if high then 8 else 16) + i.val)
    let held (ms : Nat) (high : Bool) : Prop := ∃ t, r.candidate = some (high, t) ∧ ms * 1000 ≤ (s.now - t).toNat
    (∀ high,
      (high = r.pin → exec (.gpiPinChange i high) s = .next s) ∧
      (high ≠ r.pin → high = r.level →
        exec (.gpiPinChange i high) s = .next (kept { r with pin := high, candidate := none })) ∧
      (high ≠ r.pin → high ≠ r.level → r.debounce ≠ 0 →
        exec (.gpiPinChange i high) s = .next (kept { r with pin := high, candidate := some (high, s.now) })) ∧
      (high ≠ r.pin → high ≠ r.level → r.debounce = 0 →
        exec (.gpiPinChange i high) s =
          .next ((kept { r with pin := high, level := high, candidate := none }).raise (edge high)))) ∧
    (∀ high, held r.debounce high →
      exec (.debounceExpiry i) s = .next ((kept { r with level := high, candidate := none }).raise (edge high))) ∧
    ((∀ high, ¬ held r.debounce high) → exec (.debounceExpiry i) s = .next s) ∧
    (∀ tag, s.linkFree = true →
      (∀ input debounce, 7 < input.toNat → Answers (.setGpi tag input debounce) s .badField [1] s) ∧
      (∀ debounce, 50 < debounce.toNat → Answers (.setGpi tag (num8 i) debounce) s .badField [2] s) ∧
      (∀ debounce, debounce.toNat ≤ 50 →
        (∀ high, held debounce.toNat high → Answers (.setGpi tag (num8 i) debounce) s .ok [if high then 1 else 0]
          ((kept { r with debounce := debounce.toNat, level := high, candidate := none }).raise (edge high))) ∧
        ((∀ high, ¬ held debounce.toNat high) →
          Answers (.setGpi tag (num8 i) debounce) s .ok [if r.level then 1 else 0]
            (kept { r with debounce := debounce.toNat }))))

/-- R168: SET COMPARATOR. That a parameter an action's kind has no use for may have any value, and is not held, is the model's
choice (log 28). -/
def Obligations.SetComparatorChecksThenArms : Prop :=
  ∀ (s : State) (tag : Byte), s.linkFree = true →
    let request (k domain : Byte) (origin margin : U32) (period : U16) (strict mode trigger panel : Byte)
        (onTrue onFalse : Byte × Byte × Byte) : Instr :=
      .setComparator tag k domain origin margin period strict mode trigger panel
        onTrue.1 onTrue.2.1 onTrue.2.2 onFalse.1 onFalse.2.1 onFalse.2.2
    let coded (a : Action) (f : Byte × Byte × Byte) : Prop :=
      match a with
      | .none => f.1 = 0
      | .fireSalvo n => f.1 = 1 ∧ f.2.1 = num8 n
      | .recorder p c => f.1 = 2 ∧ f.2.1 = num8 p ∧ f.2.2 = BitVec.ofNat 8 (commandCode c)
      | .attention => f.1 = 3
    let wrong (f : Byte × Byte × Byte) (offset : Nat) : Prop :=
      (offset = 0 ∧ 3 < f.1.toNat) ∨ (offset = 1 ∧ ((f.1 = 1 ∧ 31 < f.2.1.toNat) ∨ (f.1 = 2 ∧ 15 < f.2.1.toNat))) ∨
      (offset = 2 ∧ f.1 = 2 ∧ f.2.1.toNat ≤ 15 ∧ (f.2.2 = 0 ∨ 4 < f.2.2.toNat))
    (∀ k domain origin margin period strict mode trigger panel onTrue onFalse, 7 < k.toNat →
      Answers (request k domain origin margin period strict mode trigger panel onTrue onFalse) s .badField [1] s) ∧
    (∀ (k : Cmp) (origin margin : U32) (period : U16) (trigger : Byte) (onTrue onFalse : Byte × Byte × Byte),
      let on (domain strict mode panel : Byte) : Instr :=
        request (num8 k) domain origin margin period strict mode trigger panel onTrue onFalse
      (∀ domain strict mode panel, 3 < domain.toNat → Answers (on domain strict mode panel) s .badField [2] s) ∧
      (∀ (d : Dom) strict mode panel, 1 < strict.toNat → Answers (on (num8 d) strict mode panel) s .badField [6] s) ∧
      (∀ (d : Dom) strict mode panel, strict.toNat ≤ 1 → 3 < mode.toNat →
        Answers (on (num8 d) strict mode panel) s .badField [7] s) ∧
      (∀ (d : Dom) strict mode panel, strict.toNat ≤ 1 → mode.toNat ≤ 3 → 63 < panel.toNat →
        Answers (on (num8 d) strict mode panel) s .badField [9] s) ∧
      (∀ (d : Dom) strict mode (p : Panel), strict.toNat ≤ 1 → mode.toNat ≤ 3 →
        (∀ x, wrong onTrue x → Answers (on (num8 d) strict mode (num8 p)) s .badField (e1 (10 + x)) s) ∧
        (∀ a x, coded a onTrue → wrong onFalse x →
          Answers (on (num8 d) strict mode (num8 p)) s .badField (e1 (13 + x)) s)) ∧
      (∀ (d : Dom) (strict : Bool) (code : Byte) (mode : CmpMode) (p : Panel) (a b : Action),
        code = BitVec.ofNat 8 (cmpModeCode mode) → coded a onTrue → coded b onFalse →
        let c : Instr := on (num8 d) (if strict then 1 else 0) code (num8 p)
        let n := Config.framesPerDay (s.dom d).standard
        let bad : Prop := trigger ≠ 0 ∧ (isEvent trigger = false ∨ (32 ≤ trigger.toNat ∧ trigger.toNat ≤ 47))
        (n ≤ origin.toNat → Answers c s .badField [3] s) ∧
        (origin.toNat < n → n ≤ margin.toNat → Answers c s .badField [4] s) ∧
        (origin.toNat < n → margin.toNat < n → bad → Answers c s .badBinding [] s) ∧
        (origin.toNat < n → margin.toNat < n → ¬ bad → Answers c s .ok [] { s with
          cmps := put s.cmps k { s.cmp k with
            domain := d, origin := origin.toNat, margin := margin.toNat, period := period.toNat, strict := strict
            mode := mode, panel := p, onTrue := a, onFalse := b, lastResult := none
            state := match mode with
              | .off => .off
              | .once => .armed
              | .every => .armed
              | .onChange => .baseline }
          router := { s.router with trigger := put s.router.trigger k trigger } })))

/-! ## The issue window -/

/-- R96: a window sends at most one transfer, of at most 32 writes; it drops the ABSENT timers of its domain (R105), judges the
deadlines in the order of issue (R97), and grants the forced scrub (R98), the retries (R99), the selection (R33) and the
ordinary scrub (R100), in that order. R33, R34, R31: the selection walks the entries of the queue that were admitted before the
switch point (R82), an ALL group's contiguous run as one, while budget remains. -/
def Obligations.WindowSendsAtMost32Writes : Prop :=
  ∀ (s : State) (d : Dom) (before : List Tag), ∃ writes : List BusWrite, writes.length ≤ 32 ∧
    (s.issueWindow d before).bus.transfers = s.bus.transfers ++ (if writes = [] then [] else [writes]) ∧
    (s.issueWindow d before).now = s.now ∧ (s.issueWindow d before).domains = s.domains ∧
    (∃ gone : Tag × Time → Bool,
      (∀ a, gone a = true ↔ ∃ k, (s.slot a.1.slot).take = some k ∧ (s.dest k.dest).domain = d) ∧
      s.dropTimers d = { s with bus := { s.bus with absent := s.bus.absent.filter (fun a => !gone a) } }) ∧
    (let u := s.pool.issued.foldl (fun v i => v.judgeDeadline d i) (s.dropTimers d)
     let forced := if look u.bus.debt d = 8 then (u.scrubOrder d []).take 18 else []
     let g := State.ordinaryScrub (State.selectTakes (State.grantRetries (u.forcedScrub d) d) d before) d forced
     writes = g.writes ∧ s.issueWindow d before = { g.state with bus := { g.state.bus with
       transfers := g.state.bus.transfers ++ (if writes = [] then [] else [writes]) } }) ∧
    (∀ g : Grant,
      let t := g.state
      let entries := (t.queue d).filter (fun i => (⟨i, (t.slot i).gen⟩ : Tag) ∈ before)
      State.selectTakes g d before = State.walk d entries.length g entries ∧
      (∀ n, State.walk d n g [] = g) ∧
      (∀ n i rest, g.budget = 0 → State.walk d n g (i :: rest) = g) ∧
      (∀ n i rest, g.budget ≠ 0 →
        let member (serial : U16) (j : Slot) : Prop :=
          ∃ k c, (t.slot j).take = some k ∧ k.group = some c ∧ c.serial = serial ∧ c.mode = .all
        ((∀ serial, ¬ member serial i) → State.walk d (n + 1) g (i :: rest) = State.walk d n (State.walkSingle d g i) rest) ∧
        (∀ serial run after, member serial i → rest = run ++ after → (∀ j ∈ run, member serial j) →
          (∀ j, after.head? = some j → ¬ member serial j) →
          let w := State.walkRun d g (i :: run)
          (w.2 = true → State.walk d (n + 1) g (i :: rest) = State.walk d n w.1 after) ∧
          (w.2 = false → State.walk d (n + 1) g (i :: rest) = w.1))))

/-- R97, R104, R37: a take judged at its deadline. R99, R36: re-issues from the head of the retry list, their writes in its
order; nothing but the retry list and the slots re-issued changes. -/
def Obligations.DeadlinesRetryOrFaultAndRetriesReissue : Prop :=
  ∀ (s : State) (d : Dom),
    (∀ (i : Slot) (k : Take), (s.slot i).take = some k →
      let due : Prop := k.state = .issued ∧ (s.dest k.dest).domain = d ∧
        ∃ n : U32, k.issuedAt = some n ∧ n + 2 = (s.dom d).number;
      (¬ due → s.judgeDeadline d i = s) ∧
      (due → k.reissued = false →
        s.judgeDeadline d i = { s with
          pool := { s.pool with slots := put s.pool.slots i { s.slot i with take := some { k with state := .retry } } }
          bus := { s.bus with retry := put s.bus.retry d (look s.bus.retry d ++ [⟨i, (s.slot i).gen⟩]) } }) ∧
      (due → k.reissued = true →
        let u := s.endTake i .faulted
        let v := match u.waitingOf k.dest with
          | some j => u.endTake j .faulted
          | none => u
        let flags : Flags := { v.flags with destFault := put v.flags.destFault k.dest (some ⟨i, (s.slot i).gen⟩) };
        ((v.dest k.dest).output = .faulted → s.judgeDeadline d i = { v with flags := flags }) ∧
        ((v.dest k.dest).output ≠ .faulted → s.judgeDeadline d i = { v with
          dests := put v.dests k.dest { v.dest k.dest with output := .faulted }
          handed := v.handed ++ [.dest k.dest], flags := flags }))) ∧
    (∀ g : Grant, g.state = s →
      let list := look s.bus.retry d
      let t := State.grantRetries g d
      let now := list.take g.budget
      t.budget = g.budget - now.length ∧
      t.writes = g.writes ++ now.filterMap (fun x => (s.slot x.slot).take.map (fun k => ⟨k.dest, k.source⟩)) ∧
      t.state = { s with
        pool := { s.pool with slots := t.state.pool.slots }
        bus := { s.bus with retry := put s.bus.retry d (list.drop g.budget) } } ∧
      (∀ x ∈ now, ∀ k, (s.slot x.slot).take = some k →
        t.state.slot x.slot = { s.slot x.slot with take := some { k with
          state := .issued, reissued := true, issuedAt := some (s.dom d).number } }) ∧
      (∀ i, ((s.slot i).take = none ∨ ∀ x ∈ now, x.slot ≠ i) → t.state.slot i = s.slot i))

/-- R30, R32, R33, R35, R140: one entry of the selection walk. R34: a run of an ALL group. -/
def Obligations.SelectionPassesFailsOrIssues : Prop :=
  ∀ (g : Grant) (d : Dom),
    let s := g.state
    (∀ (i : Slot) (k : Take), (s.slot i).take = some k → (k.state = .queued ∨ k.state = .held) →
      let held := s.holdTest k.dest
      let u : State := { s with pool := { s.pool with
        slots := put s.pool.slots i { s.slot i with take := some { k with state := if held then .held else .queued } } } }
      let failing : Prop := ∃ x, k.condition = some x ∧ (s.dest k.dest).source ≠ some x;
      ((held = true ∨ ∃ j, SlotHas s j k.dest [.issued, .retry]) →
        State.walkSingle d g i = ⟨u, g.writes, g.budget⟩) ∧
      (held = false → (∀ j, ¬ SlotHas s j k.dest [.issued, .retry]) →
        (failing → State.walkSingle d g i = ⟨u.endTake i .condFailed, g.writes, g.budget⟩) ∧
        (¬ failing →
          let v : State := { s with pool := { s.pool with
            slots := put s.pool.slots i { s.slot i with take := some { k with
              state := .issued, issuedAt := some (s.dom d).number } }
            queues := put s.pool.queues d ((s.queue d).filter (fun j => j ≠ i))
            issued := s.pool.issued ++ [i] } };
          ((∀ p, s.portOf k.dest = some p → (s.port p).policy ≠ .split ∨ (s.port p).reported ≠ .recording) →
            State.walkSingle d g i = ⟨v, g.writes ++ [⟨k.dest, k.source⟩], g.budget - 1⟩) ∧
          (∀ p, s.portOf k.dest = some p → (s.port p).policy = .split → (s.port p).reported = .recording →
            State.walkSingle d g i =
              ⟨{ v with ports := put s.ports p ({ s.port p with markPending := true }.start s.now) },
                g.writes ++ [⟨k.dest, k.source⟩], g.budget - 1⟩)))) ∧
    (∀ (run : List Slot), run ≠ [] →
      let u := run.foldl State.retestSlot s
      let passed : Prop := ∃ i ∈ run, ∃ k, (u.slot i).take = some k ∧
        (k.state = .held ∨ ∃ j, SlotHas u j k.dest [.issued, .retry])
      let failing : Prop := ∃ i ∈ run, ∃ k x, (u.slot i).take = some k ∧ k.condition = some x ∧
        (u.dest k.dest).source ≠ some x;
      (passed → State.walkRun d g run = (⟨u, g.writes, g.budget⟩, true)) ∧
      (¬ passed → failing →
        State.walkRun d g run = (⟨run.foldl (fun v i => v.endTake i .condFailed) u, g.writes, g.budget⟩, true)) ∧
      (¬ passed → ¬ failing →
        (run.length ≤ g.budget →
          State.walkRun d g run = (State.issueAll d ⟨u, g.writes, g.budget⟩ run, true)) ∧
        (g.budget < run.length → 32 < run.length →
          State.walkRun d g run = (State.issueAll d ⟨u, g.writes, g.budget⟩ (run.take g.budget), false)) ∧
        (g.budget < run.length → run.length ≤ 32 → State.walkRun d g run = (⟨u, g.writes, g.budget⟩, false))))

/-- R98, R100, R101: the scrub of a window. That the ordinary scrub goes round once more, over every destination eligible by then
and not written in the window, is the model's reading (log 39). -/
def Obligations.ScrubFollowsItsDebtAndCursor : Prop :=
  ∀ (s : State) (d : Dom),
    (∀ written x, x ∈ s.scrubOrder d written ↔
      (s.dest x).output = .ready ∧ (s.dest x).domain = d ∧ (s.dest x).source ≠ none ∧ s.activeDest x = false ∧
        x ∉ written) ∧
    (∀ written, (s.scrubOrder d written).Nodup ∧
      (s.scrubOrder d written).Pairwise (fun x y => x - look s.bus.cursor d < y - look s.bus.cursor d)) ∧
    (look s.bus.debt d ≠ 8 → s.forcedScrub d = ⟨s, [], 32⟩) ∧
    (look s.bus.debt d = 8 →
      let forced := (s.scrubOrder d []).take 18
      let g := s.forcedScrub d
      g.budget = 32 - forced.length ∧ g.writes = forced.filterMap s.scrubWrite ∧ g.writes.length = forced.length ∧
      g.state = { s with bus := { s.bus with
        debt := put s.bus.debt d 0
        cursor := match forced.getLast? with
          | some x => put s.bus.cursor d (x + 1)
          | none => s.bus.cursor } }) ∧
    (∀ (g : Grant) (forced : List Dest), g.state = s →
      let debt := look s.bus.debt d
      let e := (s.scrubOrder d forced).length
      let n := min g.budget (min (2 + 2 * debt) e)
      let chosen := (s.scrubOrder d forced).take n
      State.ordinaryScrub g d forced = ⟨{ s with bus := { s.bus with
          debt := put s.bus.debt d (
            if e = 0 then debt
            else if n < min 2 e then debt + 1
            else if n < 2 then debt
            else debt - (n - 2) / 2)
          cursor := match chosen.getLast? with
            | some x => put s.bus.cursor d (x + 1)
            | none => s.bus.cursor } },
        g.writes ++ chosen.filterMap s.scrubWrite, g.budget - n⟩)

/-! ## The matrix bus -/

/-- R102, R6: an own confirm completes the outstanding take of its source; else it is applied alone. -/
def Obligations.OwnConfirmCompletesItsTake : Prop :=
  ∀ (s : State) (d : Dest) (x : Src),
    (∀ i k, s.outstandingOf d = some i → (s.slot i).take = some k → k.source = x →
      let u := (s.endTake i .completed).applyReport d x .own
      let r := u.dest d
      let counted : State := { u with dests := put u.dests d { r with
        origin := .own, stamp := s.now, takeCount := r.takeCount + 1 } }
      exec (.confirmOwn d x) s = .next counted.settle ∧ (counted.dest d).source = some x) ∧
    ((∀ i k, s.outstandingOf d = some i → (s.slot i).take = some k → k.source ≠ x) →
      exec (.confirmOwn d x) s = .next (s.applyReport d x .own).settle)

/-- R7, R108, R110, R111, R112: how the outstanding readback ends. That ANSWER_TIMEOUT changes nothing before its time is the
model's choice (log 6). -/
def Obligations.ReadbackEndsByAnswerOrTimeout : Prop :=
  ∀ (s : State),
    (s.bus.readback = none → exec .answerTimeout s = .next s ∧ ∀ d x, exec (.answer d x) s = .next s) ∧
    (∀ r, s.bus.readback = some r →
      let ended (u : State) : State :=
        if r.kind = .priority then { u with bus := { u.bus with readback := none } }
        else if r.dest = 255 then { u with bus := { u.bus with
          readback := none, walk := .none, walkCursor := 0, intervalStart := u.now } }
        else { u with bus := { u.bus with readback := none, walkCursor := r.dest + 1 } }
      let q := s.dest r.dest
      let silent : State :=
        if q.output = .faulted ∨ q.output = .offline then s
        else { s with
          dests := put s.dests r.dest { q with output := .offline, origin := .learned, stamp := s.now }
          handed := s.handed ++ [.dest r.dest] }
      (∀ d x, d ≠ r.dest → exec (.answer d x) s = .next s) ∧
      ((s.now - r.sentAt).toNat < 10000 → exec .answerTimeout s = .next s) ∧
      (10000 ≤ (s.now - r.sentAt).toNat → exec .answerTimeout s = .next (ended silent).settle) ∧
      exec (.answer r.dest none) s = .next (ended silent).settle ∧
      (∀ x : Src,
        let u := s.applyReport r.dest x .learned
        let out (t : State) : Prop := exec (.answer r.dest (some x)) s = .next t.settle
        let differs (y : Src) : Prop := r.compare = true ∧ q.output = .ready ∧ s.activeDest r.dest = false ∧
          q.source = some y ∧ y ≠ x
        let found (y : Src) (v : State) (o : RepairOutcome) : State := ended { v with bus := { v.bus with
          discrepancies := v.bus.discrepancies ++ [⟨r.dest, y, x, s.now, s.bus.policy, o⟩] } }
        ((∀ y, ¬ differs y) → out (ended u)) ∧
        (∀ y, differs y →
          (s.bus.policy = .report → out (found y u .none)) ∧
          (s.bus.policy = .repair →
            let fields : AdmitFields := ⟨r.dest, y, .repair, 0, none, none, false⟩
            (u.admitTake fields = none → out (found y u (.refused .poolFull))) ∧
            (∀ a v, u.admitTake fields = some (a, v) → out (found y v (.admitted a.tag)))))))

/-- R107, R110, R113: READBACK sends the first readable destination of the priority list, else the walk's next, passing
over in one step those that are not read (the model's choice, log 20). R96: TRANSFER_END. R115, R117, R118: how verify walks
begin. That VERIFY_INTERVAL and READBACK change nothing where their conditions do not hold is the model's choice (log 6). -/
def Obligations.ReadbackOrderAndWalks : Prop :=
  ∀ (s : State),
    let bus (b : Bus) : State := { s with bus := b }
    let free : Prop := s.bus.readback = none ∧ s.bus.transfers = [];
    let out := exec .readback s
    let reads (d : Dest) : Prop := s.activeDest d = false ∧ (s.dest d).output ≠ .faulted ∧
      ((s.dest d).output = .ready → s.bus.walk = .verify)
    (¬ free → out = .next s) ∧
    (free →
      (∀ before d after, s.bus.priority = before ++ d :: after → (∀ x ∈ before, s.activeDest x = true) →
        s.activeDest d = false → s.bus.priority.Nodup →
        out = .next (bus { s.bus with
          priority := before ++ after, readback := some ⟨d, .priority, s.now, false⟩ })) ∧
      ((∀ x ∈ s.bus.priority, s.activeDest x = true) →
        (s.bus.walk = .none → out = .next s) ∧
        (s.bus.walk = .verify → 16 ≤ s.bus.discrepancies.length → out = .next s) ∧
        (s.bus.walk ≠ .none → (s.bus.walk = .learn ∨ s.bus.discrepancies.length < 16) →
          (∀ d, s.bus.walkCursor ≤ d → reads d → (∀ x, s.bus.walkCursor ≤ x → x < d → ¬ reads x) →
            out = .next (bus { s.bus with
              walkCursor := d
              readback := some ⟨d, .walk, s.now,
                decide (s.bus.walk = .verify ∧ (s.dest d).output = .ready)⟩ })) ∧
          ((∀ d, s.bus.walkCursor ≤ d → ¬ reads d) →
            out = .next (bus { s.bus with walk := .none, walkCursor := 0, intervalStart := s.now }))))) ∧
    exec .transferEnd s = .next (bus { s.bus with transfers := s.bus.transfers.drop 1 }) ∧
    (let elapsed : Prop := s.bus.walk = .none ∧ 0 < s.bus.interval ∧
        s.bus.interval * 1000000 ≤ (s.now - s.bus.intervalStart).toNat;
      (elapsed → exec .verifyInterval s = .next (bus { s.bus with walk := .verify, walkCursor := 0 })) ∧
      (¬ elapsed → exec .verifyInterval s = .next s)) ∧
    (∀ tag, s.linkFree = true →
      (s.bus.walk ≠ .none → Answers (.startWalk tag) s .walkBusy [] s) ∧
      (s.bus.walk = .none →
        Answers (.startWalk tag) s .ok [] (bus { s.bus with walk := .verify, walkCursor := 0 })) ∧
      (∀ interval policy, 3600 < interval.toNat → Answers (.setVerify tag interval policy) s .badField [1] s) ∧
      (∀ interval policy, interval.toNat ≤ 3600 → 1 < policy.toNat →
        Answers (.setVerify tag interval policy) s .badField [2] s) ∧
      (∀ interval (repair : Bool), interval.toNat ≤ 3600 →
        Answers (.setVerify tag interval (if repair then 1 else 0)) s .ok [] (bus { s.bus with
          interval := interval.toNat
          policy := if repair then .repair else .report
          intervalStart := if s.bus.walk = .none then s.now else s.bus.intervalStart })))

/-- R119, R9, R109: CLEAR FAULT. R105, R8: ABSENT_TIMER_EXPIRY; that it changes nothing when it is not due is the model's
choice (log 6). -/
def Obligations.ClearFaultAndAbsentTimersQueueAReadback : Prop :=
  ∀ (s : State),
    let joined (u : State) (d : Dest) : State :=
      if d ∈ u.bus.priority then u else { u with bus := { u.bus with priority := u.bus.priority ++ [d] } }
    (∀ tag d, s.linkFree = true →
      ((s.dest d).output ≠ .faulted → Answers (.clearFault tag (num8 d)) s .destActive [] s) ∧
      ((s.dest d).output = .faulted →
        let cleared : State := { s with
          dests := put s.dests d { s.dest d with output := .unknown }, handed := s.handed ++ [.dest d] }
        Answers (.clearFault tag (num8 d)) s .ok [] (joined cleared d).settleWalls)) ∧
    (∀ i,
      let due : Prop := ∃ g start, (g, start) ∈ s.bus.absent ∧ g.slot = i ∧ 100000 ≤ (s.now - start).toNat;
      ((s.slot i).take = none → exec (.absentTimerExpiry i) s = .next s) ∧
      (¬ due → exec (.absentTimerExpiry i) s = .next s) ∧
      (∀ k, (s.slot i).take = some k → due →
        let u := s.endTake i .unverified
        let r := s.dest k.dest;
        ((r.output = .faulted ∨ r.output = .unknown) →
          exec (.absentTimerExpiry i) s = .next (joined u k.dest).settle) ∧
        ((r.output = .ready ∨ r.output = .offline) →
          let v : State := { u with
            dests := put s.dests k.dest { r with output := .unknown }, handed := u.handed ++ [.dest k.dest] };
          exec (.absentTimerExpiry i) s = .next (joined v k.dest).settle)))

/-- R94, R183: bytes heard on the matrix bus act as the transaction they spell, or change nothing. R132, R148, R183: the bytes
of a frame on a wall link or recorder port, received with none held, act as the command they spell or are discarded. R183:
PARTNER_BYTE_GAP discards what a receiver holds after more than 2000 µs. The model's choices and readings: the commands carry
bytes that go through the checks (log 16), and PARTNER_BYTE_GAP changes nothing before its time (log 6). -/
def Obligations.BytesHeardActAsTheirCommand : Prop :=
  (∀ (s : State) (d : Dest) (x : Src),
      let heard (bytes : List Byte) := exec (.discardedTransaction bytes) s
      let own : Byte := if s.straps.masterHigh then 2 else 1
      let peer : Byte := if s.straps.masterHigh then 1 else 2
      heard (busFrame 2 own (num8 d) (num16 x)) = exec (.confirmOwn d x) s ∧
      heard (busFrame 2 peer (num8 d) (num16 x)) = exec (.confirmForeign d x) s ∧
      heard (busFrame 4 own (num8 d) (num16 x)) = exec (.answer d (some x)) s ∧
      heard (busFrame 4 own (num8 d) 0xFFFF) = exec (.answer d none) s ∧
      (∀ source, heard (busFrame 4 peer (num8 d) source) = .next s) ∧
      (∀ master source, 511 < source.toNat → heard (busFrame 2 master (num8 d) source) = .next s) ∧
      (∀ master source, 511 < source.toNat → source ≠ 0xFFFF → heard (busFrame 4 master (num8 d) source) = .next s) ∧
      (∀ kind master source, kind ≠ 2 → kind ≠ 4 → heard (busFrame kind master (num8 d) source) = .next s) ∧
      (∀ kind master source, master ≠ 1 → master ≠ 2 → heard (busFrame kind master (num8 d) source) = .next s) ∧
      (∀ (a b c e f check : Byte), crc8 [a, b, c, e, f] ≠ check → heard [a, b, c, e, f, check] = .next s) ∧
      (∀ bytes : List Byte, bytes.length ≠ 6 → heard bytes = .next s)) ∧
  (∀ (s : State) (kind : Byte) (body : List Byte), body.length ≤ 306 →
      (∀ w : Wall, (look s.wallRx w).held = [] →
        let u : State := { s with wallRx := put s.wallRx w ⟨[], s.now⟩ }
        let heard := exec (.wallFrameDiscarded w (partnerFrame kind body)) s
        (kind = 1 → body = [] → heard = exec (.hello w) u) ∧
        (∀ n, kind = 2 → body = [n] → heard = exec (.ack w n) u) ∧
        (¬ (kind = 1 ∧ body = []) → ¬ (kind = 2 ∧ ∃ n, body = [n]) → heard = .next u)) ∧
      (∀ p : Port, (look s.recorderRx p).held = [] →
        let u : State := { s with recorderRx := put s.recorderRx p ⟨[], s.now⟩ }
        let heard := exec (.recorderReplyDiscarded p (partnerFrame kind body)) s
        (∀ x b, kind = 0x81 → body = [b] → asReported b = some x → heard = exec (.status p x) u) ∧
        (∀ c y (b : Bool), kind = 0x82 → body = [c, if b then 1 else 0] → asCommand c = some y →
          heard = exec (.cmdAck p y b) u) ∧
        (kind = 0x81 → (∀ b, body = [b] → asReported b = none) → heard = .next u) ∧
        (kind = 0x82 → (∀ c b, body = [c, b] → asCommand c = none ∨ 1 < b.toNat) → heard = .next u) ∧
        (kind ≠ 0x81 → kind ≠ 0x82 → heard = .next u)) ∧
      (∀ check : List Byte, check.length = 2 → check ≠ bytes16 (crc16 (partnerCovered kind body)) →
        let bytes := 0x5A :: (partnerCovered kind body ++ check)
        (∀ w : Wall, (look s.wallRx w).held = [] →
          exec (.wallFrameDiscarded w bytes) s = .next { s with wallRx := put s.wallRx w ⟨[], s.now⟩ }) ∧
        (∀ p : Port, (look s.recorderRx p).held = [] →
          exec (.recorderReplyDiscarded p bytes) s = .next { s with recorderRx := put s.recorderRx p ⟨[], s.now⟩ }))) ∧
  (∀ (s : State),
      (∀ w, let r := look s.wallRx w
        (r.held ≠ [] → 2000 < (s.now - r.lastByteAt).toNat →
          exec (.partnerByteGap (.wall w)) s = .next { s with wallRx := put s.wallRx w { r with held := [] } }) ∧
        ((r.held = [] ∨ (s.now - r.lastByteAt).toNat ≤ 2000) → exec (.partnerByteGap (.wall w)) s = .next s)) ∧
      (∀ p, let r := look s.recorderRx p
        (r.held ≠ [] → 2000 < (s.now - r.lastByteAt).toNat →
          exec (.partnerByteGap (.recorder p)) s =
            .next { s with recorderRx := put s.recorderRx p { r with held := [] } }) ∧
        ((r.held = [] ∨ (s.now - r.lastByteAt).toNat ≤ 2000) → exec (.partnerByteGap (.recorder p)) s = .next s)))

/-! ## Recorder ports -/

/-- R141: what a READY port sends first. R13, R30, R146: the hand-offs of a changed reported state. -/
def Obligations.ExchangesStartInOrderAndChangesAreHandedOn : Prop :=
  (∀ (r : PortRec) (now : Time),
    let sent (k : ExchangeKind) (mark : Bool) (v : PortRec) : PortRec :=
      { v with exchange := .busy, inFlight := some ⟨k, mark, now, r.pollTimeout⟩ }
    (r.exchange ≠ .ready → r.start now = r) ∧
    (r.exchange = .ready →
      (r.markPending = true → r.start now = sent (.command .mark) true { r with markPending := false }) ∧
      (∀ c rest, r.markPending = false → r.queue = c :: rest →
        r.start now = sent (.command c) false { r with queue := rest }) ∧
      (r.markPending = false → r.queue = [] → r.pollPending = true →
        r.start now = sent .poll false { r with pollPending := false }) ∧
      (r.markPending = false → r.queue = [] → r.pollPending = false → r.start now = r))) ∧
  (∀ (s : State) (p : Port) (old : RecorderState),
    let r := s.port p
    let t := s.reportedChanged p old
    (r.reported = old → t = s) ∧ (r.dest = none → t = s) ∧
    (∀ d, r.dest = some d → r.reported ≠ old →
      t = { s with srcs := t.srcs, pool := { s.pool with slots := t.pool.slots }, handed := t.handed } ∧
      (∀ y, (s.dest d).source ≠ some y → t.src y = s.src y) ∧
      (∀ x, (s.dest d).source = some x →
        t.src x = { s.src x with record := (s.src x).record - (if old = .recording then 1 else 0) +
          (if r.reported = .recording then 1 else 0) }) ∧
      ((s.dest d).source = none → t.handed = s.handed) ∧
      (∀ x, (s.dest d).source = some x →
        t.handed = s.handed ++ (if (t.src x).colour = (s.src x).colour then [] else [.source x])) ∧
      (∀ i, s.waitingOf d ≠ some i → t.slot i = s.slot i) ∧
      (∀ i k, s.waitingOf d = some i → (s.slot i).take = some k →
        t.slot i = { s.slot i with take := some { k with state := if s.holdTest d then .held else .queued } })))

/-- R154: BIND RECORDER, with the record count and the hold test of a changed binding. R155: RECORDER COMMAND. -/
def Obligations.RecorderRequests : Prop :=
  (∀ (s : State) (tag : Byte), s.linkFree = true →
      let request (port : Byte) (dest : OptField Byte) (policy event guardTime pollTimeout : Byte) : Instr :=
        .bindRecorder tag port dest policy event guardTime pollTimeout
      let carried (d : Option Dest) : OptField Byte := d.map (fun x => (1, num8 x))
      (∀ port dest policy event guardTime pollTimeout, optFits dest = true → 15 < port.toNat →
        Answers (request port dest policy event guardTime pollTimeout) s .badField [1] s) ∧
      (∀ (p : Port) (flag dest : Byte) policy event guardTime pollTimeout, flag ≠ 0 → flag ≠ 1 →
        Answers (request (num8 p) (some (flag, dest)) policy event guardTime pollTimeout) s .badField [2] s) ∧
      (∀ (p : Port) (d : Option Dest) policy event guardTime pollTimeout, 2 < policy.toNat →
        Answers (request (num8 p) (carried d) policy event guardTime pollTimeout) s .badField [3] s) ∧
      (∀ (p : Port) (d : Option Dest) policy event guardTime pollTimeout, policy.toNat ≤ 2 →
        (guardTime = 0 ∨ 100 < guardTime.toNat) →
        Answers (request (num8 p) (carried d) policy event guardTime pollTimeout) s .badField [5] s) ∧
      (∀ (p : Port) (d : Option Dest) policy event guardTime pollTimeout, policy.toNat ≤ 2 →
        1 ≤ guardTime.toNat → guardTime.toNat ≤ 100 → (pollTimeout.toNat < 5 ∨ 200 < pollTimeout.toNat) →
        Answers (request (num8 p) (carried d) policy event guardTime pollTimeout) s .badField [6] s) ∧
      (∀ (p : Port) (d : Option Dest) (code : Byte) (policy : GuardPolicy) event guardTime pollTimeout,
        code = BitVec.ofNat 8 (guardPolicyCode policy) → 1 ≤ guardTime.toNat → guardTime.toNat ≤ 100 →
        5 ≤ pollTimeout.toNat → pollTimeout.toNat ≤ 200 →
        let r := s.port p
        let c := request (num8 p) (carried d) code event guardTime pollTimeout
        let elsewhere : Prop := ∃ x q, d = some x ∧ q ≠ p ∧ (s.port q).dest = some x
        (event ≠ 0 → isEvent event = false → Answers c s .badBinding [] s) ∧
        ((event = 0 ∨ isEvent event = true) → elsewhere → Answers c s .destBound [] s) ∧
        ((event = 0 ∨ isEvent event = true) → ¬ elsewhere → ∃ t : State, Answers c s .ok [] t.settle ∧
          t = { s with
            ports := put s.ports p { r with
              dest := d, policy := policy, guardTime := guardTime.toNat, pollTimeout := pollTimeout.toNat }
            router := { s.router with poll := put s.router.poll p event }
            srcs := t.srcs, pool := { s.pool with slots := t.pool.slots }, handed := t.handed } ∧
          (let carries (e : Option Dest) (x : Src) : Bool := decide (∃ y, e = some y ∧ (s.dest y).source = some x)
            let moves : Prop := r.dest ≠ d ∧ r.reported = .recording;
            (¬ moves → t.srcs = s.srcs ∧ t.handed = s.handed) ∧
            (moves → ∀ x,
              t.src x = { s.src x with record :=
                (s.src x).record - (if carries r.dest x then 1 else 0) + (if carries d x then 1 else 0) } ∧
              (.source x ∈ t.handed ↔ .source x ∈ s.handed ∨ (t.src x).colour ≠ (s.src x).colour))) ∧
          (let retests (i : Slot) : Prop := (r.dest ≠ d ∨ r.policy ≠ policy) ∧
              ∃ x, (r.dest = some x ∨ d = some x) ∧ s.waitingOf x = some i;
            ∀ i, (¬ retests i → t.slot i = s.slot i) ∧
              (retests i → ∀ k, (s.slot i).take = some k → t.slot i = { s.slot i with
                take := some { k with state := if t.holdTest k.dest then .held else .queued } }))))) ∧
  (∀ (s : State) (tag : Byte), s.linkFree = true →
      (∀ port command, 15 < port.toNat → Answers (.recorderCommand tag port command) s .badField [1] s) ∧
      (∀ (p : Port) command, (command = 0 ∨ 4 < command.toNat) →
        Answers (.recorderCommand tag (num8 p) command) s .badField [2] s) ∧
      (∀ (p : Port) (c : RecorderCommand),
        let r := s.port p
        let request : Instr := .recorderCommand tag (num8 p) (BitVec.ofNat 8 (commandCode c))
        (r.online = false → Answers request s .portOffline [] s) ∧
        (r.online = true → 4 ≤ r.queue.length → Answers request s .queueFull [] s) ∧
        (r.online = true → r.queue.length < 4 →
          let queued : PortRec := { r with queue := r.queue ++ [c] }
          (r.exchange ≠ .ready →
            Answers request s .ok (e1 (r.queue.length + 1)) { s with ports := put s.ports p queued }) ∧
          (r.exchange = .ready →
            Answers request s .ok [0] { s with ports := put s.ports p (queued.start s.now) }))))

/-- R143, R147, R148, R152: STATUS. R144, R147, R148: CMD ACK. R145, R149: POLL_TIMEOUT. R142: GUARD_END. The
model's choices: POLL_TIMEOUT and GUARD_END change nothing before their time or with nothing that awaits them, the guard end
being reached while the time since it is below 2^31 (log 6). The guard time is the one the record holds when the exchange ends
(log 35). -/
def Obligations.RecorderRepliesTimeoutsAndGuards : Prop :=
  (∀ (s : State) (p : Port),
      let r := s.port p
      let guarded (v : PortRec) : PortRec := { v with
        inFlight := none, exchange := .guard, guardEnd := some (s.now + BitVec.ofNat 32 (r.guardTime * 1000))
        silent := 0, online := true }
      let awaits (k : ExchangeKind) : Prop := r.exchange = .busy ∧ ∃ f, r.inFlight = some f ∧ f.kind = k
      (∀ x, (¬ awaits .poll ∨ x = .unknown) → exec (.status p x) s = .next s) ∧
      (∀ x, awaits .poll → x ≠ .unknown →
        let v : PortRec := { guarded r with reported := x, lastStatusAt := some s.now }
        let w : PortRec := match r.recordStamp with
          | some t => if x = .recording ∧ r.reported ≠ .recording
            then { v with startDelay := some ((s.now - t).toNat / 1000), recordStamp := none } else v
          | none => v
        let u := ({ s with ports := put s.ports p w } : State).reportedChanged p r.reported
        let flagged : State := if r.online then u else
          { u with flags := { u.flags with recorder := put u.flags.recorder p (some (true, x)) } }
        exec (.status p x) s = .next (flagged.settle.raise (BitVec.ofNat 8 (64 + p.val)))) ∧
      (∀ c accepted, ¬ awaits (.command c) → exec (.cmdAck p c accepted) s = .next s) ∧
      (∀ c (accepted : Bool), awaits (.command c) →
        let v : PortRec := { guarded r with
          lastCommand := some ⟨c, if accepted then .accepted else .refused, s.now⟩
          recordStamp := if c = .record ∧ accepted = true then some s.now else r.recordStamp }
        exec (.cmdAck p c accepted) s = .next { s with
          ports := put s.ports p v
          flags := if r.online then s.flags else
            { s.flags with recorder := put s.flags.recorder p (some (true, r.reported)) } })) ∧
  (∀ (s : State) (p : Port),
      let r := s.port p
      (∀ f, r.inFlight = some f → r.exchange = .busy →
        ((s.now - f.sentAt).toNat < f.timeout * 1000 → exec (.pollTimeout p) s = .next s) ∧
        (f.timeout * 1000 ≤ (s.now - f.sentAt).toNat →
          let v : PortRec := { r with
            inFlight := none, exchange := .guard, guardEnd := some (s.now + BitVec.ofNat 32 (r.guardTime * 1000))
            silent := min 3 (r.silent + 1)
            lastCommand := match f.kind with
              | .command c => some ⟨c, .noReply, s.now⟩
              | .poll => r.lastCommand }
          ((r.online = false ∨ r.silent < 2) →
            exec (.pollTimeout p) s = .next ({ s with ports := put s.ports p v } : State).settle) ∧
          (r.online = true → 2 ≤ r.silent →
            let w : PortRec := { v with online := false, reported := .unknown, queue := [], markPending := false }
            let u := ({ s with ports := put s.ports p w } : State).reportedChanged p r.reported
            exec (.pollTimeout p) s = .next (State.settle { u with flags := { u.flags with
              recorder := put u.flags.recorder p (some (false, .unknown)) } })))) ∧
      ((r.inFlight = none ∨ r.exchange ≠ .busy) → exec (.pollTimeout p) s = .next s) ∧
      (∀ t, r.exchange = .guard → r.guardEnd = some t →
        ((s.now - t).toNat < 2 ^ 31 → exec (.guardEnd p) s = .next (State.raise
          { s with ports := put s.ports p (PortRec.start { r with exchange := .ready, guardEnd := none } s.now) }
          (BitVec.ofNat 8 (80 + p.val)))) ∧
        (2 ^ 31 ≤ (s.now - t).toNat → exec (.guardEnd p) s = .next s)) ∧
      ((r.exchange ≠ .guard ∨ r.guardEnd = none) → exec (.guardEnd p) s = .next s))

/-! ## Snapshots -/

/-- R18, R19, R42, R73, R92, R120, R156, R169: READ DEST, READ SOURCE, READ TAKE, READ SALVO, READ DOMAIN, READ BUS, READ
RECORDER and READ COMPARATOR change nothing and answer what the records hold, in the layouts of 11.3 to 11.5. The model's
choices and readings of those layouts: logs 13, 30 (an absent label), 31 (stored or empty, BUSY) and 33 (a comparator's trigger). -/
def Obligations.SnapshotsAnswerWhatIsHeld : Prop :=
  (∀ (s : State) (tag : Byte), s.linkFree = true →
      (∀ d : Dest,
        let r := s.dest d
        let state (i : Slot) : Nat := match (s.slot i).take with
          | some k => takeStateCode k.state
          | none => 0
        let activity : Nat := match s.outstandingOf d, s.waitingOf d with
          | some i, _ => state i
          | none, some i => state i
          | none, none => 0
        Answers (.readDest tag (num8 d)) s .ok
          (eText r.name ++ [num8 r.domain, num8 r.zone] ++ e1 (roleCode r.role) ++ eSource r.source ++
            e1 (outputCode r.output) ++ e1 (changeOriginCode r.origin) ++ bytes32 r.stamp ++ [r.takeCount] ++ e1 activity ++
            eOpt (fun i : Slot => [num8 i, (s.slot i).gen]) (s.waitingOf d) ++
            eOpt (fun i : Slot => [num8 i, (s.slot i).gen]) (s.outstandingOf d) ++
            eOpt (fun p : Port => [num8 p]) (s.portOf d) ++
            eOpt (fun q : Protect => num8 q.holder :: e1 (protectKindCode q.kind)) (s.protectOf d)) s) ∧
      (∀ source, 511 < source.toNat → Answers (.readSource tag source) s .badField [1] s) ∧
      (∀ x : Src, let r := s.src x
        Answers (.readSource tag (num16 x)) s .ok
          (eText r.label ++ e2 r.programme ++ e2 r.preview ++ e2 r.record ++ e1 (colourCode r.colour)) s) ∧
      (∀ slot gen, 127 < slot.toNat → Answers (.readTake tag slot gen) s .badField [1] s) ∧
      (∀ g : Tag,
        let request : Instr := .readTake tag (num8 g.slot) g.gen
        let ended (e : EndedTake) : List Byte :=
          [num8 e.tag.slot, e.tag.gen, num8 e.dest] ++ e2 e.source.val ++ e1 (outcomeCode e.outcome)
        (∀ k, NamesLive s g k → Answers request s .ok
          ([g.gen] ++ e1 (takeStateCode k.state) ++ [num8 k.dest] ++ e2 k.source.val ++ eOrigin k.origin ++ [num8 k.panel] ++
            eOpt eGroup k.group ++ eOpt (fun x : Src => e2 x.val) k.condition ++ eFlag k.report ++ bytes32 k.admittedAt ++
            bytes32 k.ageStart ++ eOpt bytes32 k.issuedAt ++ eFlag k.reissued ++
            eOpt (fun o => e1 (outcomeCode o)) k.outcome ++ eOpt ended (s.slot g.slot).previous ++
            (if k.state = .queued ∨ k.state = .held
              then 1 :: e1 ((s.queue (s.dest k.dest).domain).idxOf g.slot + 1) else [0])) s) ∧
        (∀ e, NamesEnded s g e → Answers request s .ok
          ([6, num8 e.dest] ++ e2 e.source.val ++ e1 (outcomeCode e.outcome)) s) ∧
        ((∀ k, ¬ NamesLive s g k) → (∀ e, ¬ NamesEnded s g e) → Answers request s .noTake [] s)) ∧
      (∀ salvo, 31 < salvo.toNat → Answers (.readSalvo tag salvo) s .badField [1] s) ∧
      (∀ n : Salvo,
        let l := look s.store.salvos n
        let live := (List.finRange 128).filterMap (fun i => (s.slot i).take.filter (fun k =>
          decide (k.state ≠ .done) && (k.group.any (fun g => decide (g.salvo = some n)))))
        let used := ((List.finRange 32).map (fun k => (look s.store.salvos k).length)).sum
        Answers (.readSalvo tag (num8 n)) s .ok
          ((if l = [] then [0] else 1 :: e1 l.length ++ l.flatMap (fun e => num8 e.1 :: e2 e.2.val)) ++
            (match live with
             | [] => [0]
             | k :: _ => 1 :: ((match k.group with
               | some g => bytes16 g.serial
               | none => [0, 0]) ++
               [TakeState.queued, .held, .issued, .retry].flatMap (fun st =>
                 e1 (live.filter (fun t => decide (t.state = st))).length))) ++
            e2 (1024 - used) ++ e1 s.store.undo.length ++ s.store.undo.map (fun u => num8 u.salvo)) s)) ∧
  (∀ (s : State) (tag : Byte), s.linkFree = true →
      (∀ n, 3 < n.toNat → Answers (.readDomain tag n) s .badField [1] s) ∧
      (∀ n, 15 < n.toNat → Answers (.readRecorder tag n) s .badField [1] s) ∧
      (∀ n, 7 < n.toNat → Answers (.readComparator tag n) s .badField [1] s) ∧
      (∀ d : Dom,
        let r := s.dom d
        let count (st : TakeState) : Nat := ((List.finRange 128).filter (fun i =>
          (s.slot i).take.any (fun k => decide ((s.dest k.dest).domain = d ∧ k.state = st)))).length
        Answers (.readDomain tag (num8 d)) s .ok
          ([num8 r.standard] ++ e1 r.settleCount ++ e1 r.holdoverLimit ++ e2 r.holdLimit ++ e1 (lockCode r.lock) ++
            eOpt (fun m => e1 (closeModeCode m)) r.closing ++ e1 (seenCode r.seen) ++ e1 r.settleProgress ++
            e1 r.holdoverCount ++ bytes32 r.stopMoment ++ bytes32 r.number ++ e4 r.timecode ++
            eOpt (fun e : Nat × TimecodeSource => e4 e.1 ++ e1 (timecodeSourceCode e.2)) r.pendingTimecode ++
            e1 (markStatusCode r.markStatus) ++ e4 r.markPreset ++ [num8 r.markCounter, look s.router.mark d] ++
            e1 (count .queued) ++ e1 (count .held) ++ e1 (count .issued) ++ e1 (count .retry) ++ bytes32 s.now) s) ∧
      (let b := s.bus
        let row (d : Dom) : List Byte := e1 (look b.debt d) ++ [num8 (look b.cursor d)] ++ e1 (look b.retry d).length
        Answers (.readBus tag) s .ok
          ([if s.straps.masterHigh then 2 else 1] ++ row 0 ++ row 1 ++ row 2 ++ row 3 ++ e1 b.absent.length ++
            e1 (walkCode b.walk) ++ (if b.walk = .verify ∧ 16 ≤ b.discrepancies.length then [1] else [0]) ++
            [num8 b.walkCursor] ++
            eOpt (fun r : Readback => num8 r.dest :: e1 (readbackKindCode r.kind)) b.readback ++
            e2 b.interval ++ e1 (policyCode b.policy) ++ bytes32 b.intervalStart ++ e2 b.priority.length ++
            eOpt (fun d : Dest => [num8 d]) b.priority.head? ++ e1 b.discrepancies.length ++ bytes32 s.now) s) ∧
      (∀ p : Port,
        let r := s.port p
        Answers (.readRecorder tag (num8 p)) s .ok
          (eOpt (fun d : Dest => [num8 d]) r.dest ++ e1 (guardPolicyCode r.policy) ++ [look s.router.poll p] ++
            e1 r.guardTime ++ e1 r.pollTimeout ++ e1 (exchangeStateCode r.exchange) ++
            eOpt (fun f : InFlight => e1 (exchangeKindCode f.kind) ++ bytes32 f.sentAt) r.inFlight ++
            eOpt bytes32 r.guardEnd ++ eFlag r.pollPending ++ [if r.online then 0 else 1] ++ e1 r.silent ++
            e1 (reportedCode r.reported) ++ eOpt bytes32 r.lastStatusAt ++ e1 r.queue.length ++
            r.queue.flatMap (fun c => e1 (commandCode c)) ++ eFlag r.markPending ++
            eOpt (fun l : LastCommand => e1 (commandCode l.command) ++ e1 (commandResultCode l.result) ++ bytes32 l.time)
              r.lastCommand ++
            eOpt bytes32 r.recordStamp ++ eOpt e3 r.startDelay ++
            eOpt (fun d : Dest => eSource (s.dest d).source) r.dest ++ bytes32 s.now) s) ∧
      (∀ k : Cmp,
        let r := s.cmp k
        let d := s.dom r.domain
        let latch (l : Nat × Time) : List Byte := e4 l.1 ++ bytes32 l.2
        Answers (.readComparator tag (num8 k)) s .ok
          ([num8 r.domain] ++ e4 r.origin ++ e4 r.margin ++ e2 r.period ++ eFlag r.strict ++ e1 (cmpModeCode r.mode) ++
            [num8 r.panel] ++ eAction r.onTrue ++ eAction r.onFalse ++ [look s.router.trigger k] ++
            e1 (cmpStateCode r.state) ++ eOpt eFlag r.lastResult ++ eOpt latch r.trueLatch ++ eOpt latch r.falseLatch ++
            eOpt (fun a : LastAction => eFlag a.branch ++ eAction a.action ++ [statusCode a.result] ++ bytes32 a.time)
              r.lastAction ++
            e4 d.timecode ++ eFlag (r.evaluate d.standard d.timecode) ++ bytes32 s.now) s))

/-! ## Laws that every step keeps -/

/-- The state after a cold reset obeys every law. -/
def Obligations.ResetObeysEveryLaw : Prop :=
  let s := State.reset
  LinkLaw s ∧ StoreLaw s ∧ ProtectLaw s ∧ WallLaw s ∧ PortLaw s ∧ DomainLaw s ∧ BusLaw s ∧ PoolLaw s ∧ TallyLaw s

/-- R171, R173, R174, R175: every step keeps the control link's bounds. -/
def Obligations.StepKeepsLinkLaw : Prop := ∀ s, LinkLaw s → Keeps LinkLaw (step s)

/-- R49, R60, R69: every step keeps the Salvo Store's bounds and the law of protect records. -/
def Obligations.StepKeepsStoreAndProtectLaws : Prop :=
  ∀ s, StoreLaw s → ProtectLaw s → Keeps (fun t => StoreLaw t ∧ ProtectLaw t) (step s)

/-- R125, R126, R127, R137, R138, R141, R149, R151: every step keeps the law of the wall links, and that of the recorder ports. -/
def Obligations.StepKeepsWallAndPortLaws : Prop :=
  (∀ s, WallLaw s → Keeps WallLaw (step s)) ∧
  (∀ s, PortLaw s → Keeps PortLaw (step s))

/-- R74, R77, R79, R89, R95, R96, R107, R110, R113: every step keeps the law of the domain records, and the bounds of the
matrix bus. That a loss is pending in LOCKED only is about the model's own field (log 29). -/
def Obligations.StepKeepsDomainAndBusLaws : Prop :=
  (∀ s, DomainLaw s → Keeps DomainLaw (step s)) ∧
  (∀ s, BusLaw s → Keeps BusLaw (step s))

/-- R20, R22, R29, R43: every step keeps the law of the Take Pool. -/
def Obligations.StepKeepsPoolLaw : Prop := ∀ s, PoolLaw s → Keeps PoolLaw (step s)

/-- R10: every step keeps the tally law, each destination being bound to at most one port. -/
def Obligations.StepKeepsTallyLaw : Prop := ∀ s, PortLaw s → TallyLaw s → Keeps TallyLaw (step s)
end

