-- ==== Sys2Proof/Laws/Tables.lean ====
section
/-! SUPPORT. Lemmas of tables: one read after one write, and the listing of a table's entries. -/

namespace Sys2Proof

variable {α : Type} {n : Nat}

@[simp] theorem look_put_same (v : Vector α n) (i : Fin n) (x : α) : look (put v i x) i = x := by
  simp [look, put]

theorem look_put_other (v : Vector α n) {i j : Fin n} (x : α) (h : j ≠ i) : look (put v i x) j = look v j := by
  have hv : i.val ≠ j.val := fun e => h (Fin.ext e.symm)
  simp [look, put, hv]

theorem look_put (v : Vector α n) (i j : Fin n) (x : α) :
    look (put v i x) j = if j = i then x else look v j := by
  by_cases h : j = i
  · subst h; simp
  · simp [h, look_put_other v x h]

@[simp] theorem look_replicate (i : Fin n) (x : α) : look (Vector.replicate n x) i = x := by
  simp [look]

@[simp] theorem put_look (v : Vector α n) (i : Fin n) : put v i (look v i) = v := by
  simp [look, put]

@[simp] theorem put_put (v : Vector α n) (i : Fin n) (x y : α) : put (put v i x) i y = put v i y := by
  ext j hj
  simp only [put, Vector.getElem_set]
  split <;> rfl

theorem entries_length (v : Vector α n) : (entries v).length = n := by simp [entries]

theorem entries_getElem (v : Vector α n) (k : Nat) (h : k < (entries v).length) :
    (entries v)[k] = (⟨k, by simpa [entries] using h⟩, look v ⟨k, by simpa [entries] using h⟩) := by
  simp [entries, look]

/-- A table lists exactly its entries. -/
theorem mem_entries (v : Vector α n) (e : Fin n × α) : e ∈ entries v ↔ e.2 = look v e.1 := by
  constructor
  · intro h
    obtain ⟨k, hk, he⟩ := List.mem_iff_getElem.1 h
    rw [entries_getElem] at he
    subst he; rfl
  · intro h
    have hk : e.1.val < (entries v).length := by rw [entries_length]; exact e.1.isLt
    refine List.mem_iff_getElem.2 ⟨e.1.val, hk, ?_⟩
    rw [entries_getElem]
    exact Prod.ext (Fin.ext rfl) h.symm

@[simp] theorem look_mapTable (f : Fin n → α → α) (v : Vector α n) (i : Fin n) :
    look (mapTable f v) i = f i (look v i) := by
  simp [look, mapTable, entries]

theorem table_ext {v w : Vector α n} (h : ∀ i, look v i = look w i) : v = w := by
  ext k hk
  exact h ⟨k, hk⟩

/-- The listing of a table is its numbers, each with its entry. -/
theorem entries_eq_map (v : Vector α n) : entries v = (List.finRange n).map (fun i => (i, look v i)) := by
  apply List.ext_getElem
  · simp [entries]
  · intro k h1 h2
    rw [entries_getElem]
    simp

/-- The numbers of the entries picked. -/
theorem filter_entries (v : Vector α n) (p : Fin n × α → Bool) :
    ((entries v).filter p).map (fun e => e.1) = (List.finRange n).filter (fun i => p (i, look v i)) := by
  rw [entries_eq_map, List.filter_map, List.map_map]
  exact List.map_id _

/-- The number of the first entry picked. -/
theorem find_entries (v : Vector α n) (p : Fin n × α → Bool) :
    ((entries v).find? p).map (fun e => e.1) = (List.finRange n).find? (fun i => p (i, look v i)) := by
  rw [entries_eq_map, List.find?_map, Option.map_map]
  exact congrFun Option.map_id _

/-- The first number picked is the lowest one that `p` picks. -/
theorem find_finRange_eq_some (p : Fin n → Bool) (i : Fin n) :
    (List.finRange n).find? p = some i ↔ p i = true ∧ ∀ j < i, p j = false := by
  rw [List.find?_eq_some_iff_getElem]
  constructor
  · rintro ⟨h1, k, hk, h2, h3⟩
    have hi : i.val = k := by rw [← h2]; simp
    refine ⟨h1, fun j hj => ?_⟩
    have := h3 j.val (by have : j.val < i.val := hj; omega)
    simpa using this
  · rintro ⟨h1, h2⟩
    refine ⟨h1, i.val, by simp, by simp, fun j hj => ?_⟩
    have := h2 ⟨j, by omega⟩ hj
    simpa using this

end Sys2Proof
end

