-- ==== Sys2Proof/Laws/State.lean ====
section
/-! SUPPORT. What each field of the state is after each update, and the accessors as reads of their tables. -/

namespace Sys2Proof.Machine.State

@[simp] theorem setDest_fields (s : State) (d : Dest) (r : DestRec) :
    (s.setDest d r).dests = put s.dests d r ∧ (s.setDest d r).now = s.now ∧ (s.setDest d r).straps = s.straps ∧
    (s.setDest d r).srcs = s.srcs ∧ (s.setDest d r).pool = s.pool ∧ (s.setDest d r).registry = s.registry ∧
    (s.setDest d r).store = s.store ∧ (s.setDest d r).domains = s.domains ∧ (s.setDest d r).bus = s.bus ∧
    (s.setDest d r).walls = s.walls ∧ (s.setDest d r).ports = s.ports ∧ (s.setDest d r).router = s.router ∧
    (s.setDest d r).gpis = s.gpis ∧ (s.setDest d r).cmps = s.cmps ∧ (s.setDest d r).link = s.link ∧
    (s.setDest d r).flags = s.flags ∧ (s.setDest d r).wallRx = s.wallRx ∧
    (s.setDest d r).recorderRx = s.recorderRx ∧ (s.setDest d r).handed = s.handed ∧
    (s.setDest d r).choices = s.choices ∧ (s.setDest d r).pending = s.pending :=
  ⟨rfl, rfl, rfl, rfl, rfl, rfl, rfl, rfl, rfl, rfl, rfl, rfl, rfl, rfl, rfl, rfl, rfl, rfl, rfl, rfl, rfl⟩

@[simp] theorem setSrc_fields (s : State) (x : Src) (r : SrcRec) :
    (s.setSrc x r).srcs = put s.srcs x r ∧ (s.setSrc x r).now = s.now ∧ (s.setSrc x r).straps = s.straps ∧
    (s.setSrc x r).dests = s.dests ∧ (s.setSrc x r).pool = s.pool ∧ (s.setSrc x r).registry = s.registry ∧
    (s.setSrc x r).store = s.store ∧ (s.setSrc x r).domains = s.domains ∧ (s.setSrc x r).bus = s.bus ∧
    (s.setSrc x r).walls = s.walls ∧ (s.setSrc x r).ports = s.ports ∧ (s.setSrc x r).router = s.router ∧
    (s.setSrc x r).gpis = s.gpis ∧ (s.setSrc x r).cmps = s.cmps ∧ (s.setSrc x r).link = s.link ∧
    (s.setSrc x r).flags = s.flags ∧ (s.setSrc x r).wallRx = s.wallRx ∧
    (s.setSrc x r).recorderRx = s.recorderRx ∧ (s.setSrc x r).handed = s.handed ∧
    (s.setSrc x r).choices = s.choices ∧ (s.setSrc x r).pending = s.pending :=
  ⟨rfl, rfl, rfl, rfl, rfl, rfl, rfl, rfl, rfl, rfl, rfl, rfl, rfl, rfl, rfl, rfl, rfl, rfl, rfl, rfl, rfl⟩

@[simp] theorem setSlot_fields (s : State) (i : Slot) (r : SlotRec) :
    (s.setSlot i r).pool = { s.pool with slots := put s.pool.slots i r } ∧ (s.setSlot i r).now = s.now ∧
    (s.setSlot i r).straps = s.straps ∧ (s.setSlot i r).dests = s.dests ∧ (s.setSlot i r).srcs = s.srcs ∧
    (s.setSlot i r).registry = s.registry ∧ (s.setSlot i r).store = s.store ∧
    (s.setSlot i r).domains = s.domains ∧ (s.setSlot i r).bus = s.bus ∧ (s.setSlot i r).walls = s.walls ∧
    (s.setSlot i r).ports = s.ports ∧ (s.setSlot i r).router = s.router ∧ (s.setSlot i r).gpis = s.gpis ∧
    (s.setSlot i r).cmps = s.cmps ∧ (s.setSlot i r).link = s.link ∧ (s.setSlot i r).flags = s.flags ∧
    (s.setSlot i r).wallRx = s.wallRx ∧ (s.setSlot i r).recorderRx = s.recorderRx ∧
    (s.setSlot i r).handed = s.handed ∧ (s.setSlot i r).choices = s.choices ∧
    (s.setSlot i r).pending = s.pending :=
  ⟨rfl, rfl, rfl, rfl, rfl, rfl, rfl, rfl, rfl, rfl, rfl, rfl, rfl, rfl, rfl, rfl, rfl, rfl, rfl, rfl, rfl⟩

@[simp] theorem setQueue_fields (s : State) (d : Dom) (q : List Slot) :
    (s.setQueue d q).pool = { s.pool with queues := put s.pool.queues d q } ∧ (s.setQueue d q).now = s.now ∧
    (s.setQueue d q).straps = s.straps ∧ (s.setQueue d q).dests = s.dests ∧ (s.setQueue d q).srcs = s.srcs ∧
    (s.setQueue d q).registry = s.registry ∧ (s.setQueue d q).store = s.store ∧
    (s.setQueue d q).domains = s.domains ∧ (s.setQueue d q).bus = s.bus ∧ (s.setQueue d q).walls = s.walls ∧
    (s.setQueue d q).ports = s.ports ∧ (s.setQueue d q).router = s.router ∧ (s.setQueue d q).gpis = s.gpis ∧
    (s.setQueue d q).cmps = s.cmps ∧ (s.setQueue d q).link = s.link ∧ (s.setQueue d q).flags = s.flags ∧
    (s.setQueue d q).wallRx = s.wallRx ∧ (s.setQueue d q).recorderRx = s.recorderRx ∧
    (s.setQueue d q).handed = s.handed ∧ (s.setQueue d q).choices = s.choices ∧
    (s.setQueue d q).pending = s.pending :=
  ⟨rfl, rfl, rfl, rfl, rfl, rfl, rfl, rfl, rfl, rfl, rfl, rfl, rfl, rfl, rfl, rfl, rfl, rfl, rfl, rfl, rfl⟩

@[simp] theorem setDom_fields (s : State) (d : Dom) (r : DomRec) :
    (s.setDom d r).domains = put s.domains d r ∧ (s.setDom d r).now = s.now ∧
    (s.setDom d r).straps = s.straps ∧ (s.setDom d r).dests = s.dests ∧ (s.setDom d r).srcs = s.srcs ∧
    (s.setDom d r).pool = s.pool ∧ (s.setDom d r).registry = s.registry ∧ (s.setDom d r).store = s.store ∧
    (s.setDom d r).bus = s.bus ∧ (s.setDom d r).walls = s.walls ∧ (s.setDom d r).ports = s.ports ∧
    (s.setDom d r).router = s.router ∧ (s.setDom d r).gpis = s.gpis ∧ (s.setDom d r).cmps = s.cmps ∧
    (s.setDom d r).link = s.link ∧ (s.setDom d r).flags = s.flags ∧ (s.setDom d r).wallRx = s.wallRx ∧
    (s.setDom d r).recorderRx = s.recorderRx ∧ (s.setDom d r).handed = s.handed ∧
    (s.setDom d r).choices = s.choices ∧ (s.setDom d r).pending = s.pending :=
  ⟨rfl, rfl, rfl, rfl, rfl, rfl, rfl, rfl, rfl, rfl, rfl, rfl, rfl, rfl, rfl, rfl, rfl, rfl, rfl, rfl, rfl⟩

@[simp] theorem setWall_fields (s : State) (w : Wall) (r : WallRec) :
    (s.setWall w r).walls = put s.walls w r ∧ (s.setWall w r).now = s.now ∧ (s.setWall w r).straps = s.straps ∧
    (s.setWall w r).dests = s.dests ∧ (s.setWall w r).srcs = s.srcs ∧ (s.setWall w r).pool = s.pool ∧
    (s.setWall w r).registry = s.registry ∧ (s.setWall w r).store = s.store ∧
    (s.setWall w r).domains = s.domains ∧ (s.setWall w r).bus = s.bus ∧ (s.setWall w r).ports = s.ports ∧
    (s.setWall w r).router = s.router ∧ (s.setWall w r).gpis = s.gpis ∧ (s.setWall w r).cmps = s.cmps ∧
    (s.setWall w r).link = s.link ∧ (s.setWall w r).flags = s.flags ∧ (s.setWall w r).wallRx = s.wallRx ∧
    (s.setWall w r).recorderRx = s.recorderRx ∧ (s.setWall w r).handed = s.handed ∧
    (s.setWall w r).choices = s.choices ∧ (s.setWall w r).pending = s.pending :=
  ⟨rfl, rfl, rfl, rfl, rfl, rfl, rfl, rfl, rfl, rfl, rfl, rfl, rfl, rfl, rfl, rfl, rfl, rfl, rfl, rfl, rfl⟩

@[simp] theorem setPort_fields (s : State) (p : Port) (r : PortRec) :
    (s.setPort p r).ports = put s.ports p r ∧ (s.setPort p r).now = s.now ∧ (s.setPort p r).straps = s.straps ∧
    (s.setPort p r).dests = s.dests ∧ (s.setPort p r).srcs = s.srcs ∧ (s.setPort p r).pool = s.pool ∧
    (s.setPort p r).registry = s.registry ∧ (s.setPort p r).store = s.store ∧
    (s.setPort p r).domains = s.domains ∧ (s.setPort p r).bus = s.bus ∧ (s.setPort p r).walls = s.walls ∧
    (s.setPort p r).router = s.router ∧ (s.setPort p r).gpis = s.gpis ∧ (s.setPort p r).cmps = s.cmps ∧
    (s.setPort p r).link = s.link ∧ (s.setPort p r).flags = s.flags ∧ (s.setPort p r).wallRx = s.wallRx ∧
    (s.setPort p r).recorderRx = s.recorderRx ∧ (s.setPort p r).handed = s.handed ∧
    (s.setPort p r).choices = s.choices ∧ (s.setPort p r).pending = s.pending :=
  ⟨rfl, rfl, rfl, rfl, rfl, rfl, rfl, rfl, rfl, rfl, rfl, rfl, rfl, rfl, rfl, rfl, rfl, rfl, rfl, rfl, rfl⟩

@[simp] theorem setGpi_fields (s : State) (i : Gpi) (r : GpiRec) :
    (s.setGpi i r).gpis = put s.gpis i r ∧ (s.setGpi i r).now = s.now ∧ (s.setGpi i r).straps = s.straps ∧
    (s.setGpi i r).dests = s.dests ∧ (s.setGpi i r).srcs = s.srcs ∧ (s.setGpi i r).pool = s.pool ∧
    (s.setGpi i r).registry = s.registry ∧ (s.setGpi i r).store = s.store ∧
    (s.setGpi i r).domains = s.domains ∧ (s.setGpi i r).bus = s.bus ∧ (s.setGpi i r).walls = s.walls ∧
    (s.setGpi i r).ports = s.ports ∧ (s.setGpi i r).router = s.router ∧ (s.setGpi i r).cmps = s.cmps ∧
    (s.setGpi i r).link = s.link ∧ (s.setGpi i r).flags = s.flags ∧ (s.setGpi i r).wallRx = s.wallRx ∧
    (s.setGpi i r).recorderRx = s.recorderRx ∧ (s.setGpi i r).handed = s.handed ∧
    (s.setGpi i r).choices = s.choices ∧ (s.setGpi i r).pending = s.pending :=
  ⟨rfl, rfl, rfl, rfl, rfl, rfl, rfl, rfl, rfl, rfl, rfl, rfl, rfl, rfl, rfl, rfl, rfl, rfl, rfl, rfl, rfl⟩

@[simp] theorem setCmp_fields (s : State) (k : Cmp) (r : CmpRec) :
    (s.setCmp k r).cmps = put s.cmps k r ∧ (s.setCmp k r).now = s.now ∧ (s.setCmp k r).straps = s.straps ∧
    (s.setCmp k r).dests = s.dests ∧ (s.setCmp k r).srcs = s.srcs ∧ (s.setCmp k r).pool = s.pool ∧
    (s.setCmp k r).registry = s.registry ∧ (s.setCmp k r).store = s.store ∧
    (s.setCmp k r).domains = s.domains ∧ (s.setCmp k r).bus = s.bus ∧ (s.setCmp k r).walls = s.walls ∧
    (s.setCmp k r).ports = s.ports ∧ (s.setCmp k r).router = s.router ∧ (s.setCmp k r).gpis = s.gpis ∧
    (s.setCmp k r).link = s.link ∧ (s.setCmp k r).flags = s.flags ∧ (s.setCmp k r).wallRx = s.wallRx ∧
    (s.setCmp k r).recorderRx = s.recorderRx ∧ (s.setCmp k r).handed = s.handed ∧
    (s.setCmp k r).choices = s.choices ∧ (s.setCmp k r).pending = s.pending :=
  ⟨rfl, rfl, rfl, rfl, rfl, rfl, rfl, rfl, rfl, rfl, rfl, rfl, rfl, rfl, rfl, rfl, rfl, rfl, rfl, rfl, rfl⟩

@[simp] theorem setProtect_fields (s : State) (d : Dest) (p : Option Protect) :
    (s.setProtect d p).registry = { s.registry with protects := put s.registry.protects d p } ∧
    (s.setProtect d p).now = s.now ∧ (s.setProtect d p).straps = s.straps ∧
    (s.setProtect d p).dests = s.dests ∧ (s.setProtect d p).srcs = s.srcs ∧ (s.setProtect d p).pool = s.pool ∧
    (s.setProtect d p).store = s.store ∧ (s.setProtect d p).domains = s.domains ∧
    (s.setProtect d p).bus = s.bus ∧ (s.setProtect d p).walls = s.walls ∧ (s.setProtect d p).ports = s.ports ∧
    (s.setProtect d p).router = s.router ∧ (s.setProtect d p).gpis = s.gpis ∧
    (s.setProtect d p).cmps = s.cmps ∧ (s.setProtect d p).link = s.link ∧ (s.setProtect d p).flags = s.flags ∧
    (s.setProtect d p).wallRx = s.wallRx ∧ (s.setProtect d p).recorderRx = s.recorderRx ∧
    (s.setProtect d p).handed = s.handed ∧ (s.setProtect d p).choices = s.choices ∧
    (s.setProtect d p).pending = s.pending :=
  ⟨rfl, rfl, rfl, rfl, rfl, rfl, rfl, rfl, rfl, rfl, rfl, rfl, rfl, rfl, rfl, rfl, rfl, rfl, rfl, rfl, rfl⟩

@[simp] theorem setPanel_fields (s : State) (p : Panel) (r : PanelRec) :
    (s.setPanel p r).registry = { s.registry with panels := put s.registry.panels p r } ∧
    (s.setPanel p r).now = s.now ∧ (s.setPanel p r).straps = s.straps ∧ (s.setPanel p r).dests = s.dests ∧
    (s.setPanel p r).srcs = s.srcs ∧ (s.setPanel p r).pool = s.pool ∧ (s.setPanel p r).store = s.store ∧
    (s.setPanel p r).domains = s.domains ∧ (s.setPanel p r).bus = s.bus ∧ (s.setPanel p r).walls = s.walls ∧
    (s.setPanel p r).ports = s.ports ∧ (s.setPanel p r).router = s.router ∧ (s.setPanel p r).gpis = s.gpis ∧
    (s.setPanel p r).cmps = s.cmps ∧ (s.setPanel p r).link = s.link ∧ (s.setPanel p r).flags = s.flags ∧
    (s.setPanel p r).wallRx = s.wallRx ∧ (s.setPanel p r).recorderRx = s.recorderRx ∧
    (s.setPanel p r).handed = s.handed ∧ (s.setPanel p r).choices = s.choices ∧
    (s.setPanel p r).pending = s.pending :=
  ⟨rfl, rfl, rfl, rfl, rfl, rfl, rfl, rfl, rfl, rfl, rfl, rfl, rfl, rfl, rfl, rfl, rfl, rfl, rfl, rfl, rfl⟩

@[simp] theorem setZoneMin_fields (s : State) (z : Zone) (l : Level) :
    (s.setZoneMin z l).registry = { s.registry with zoneMin := put s.registry.zoneMin z l } ∧
    (s.setZoneMin z l).now = s.now ∧ (s.setZoneMin z l).straps = s.straps ∧
    (s.setZoneMin z l).dests = s.dests ∧ (s.setZoneMin z l).srcs = s.srcs ∧ (s.setZoneMin z l).pool = s.pool ∧
    (s.setZoneMin z l).store = s.store ∧ (s.setZoneMin z l).domains = s.domains ∧
    (s.setZoneMin z l).bus = s.bus ∧ (s.setZoneMin z l).walls = s.walls ∧ (s.setZoneMin z l).ports = s.ports ∧
    (s.setZoneMin z l).router = s.router ∧ (s.setZoneMin z l).gpis = s.gpis ∧
    (s.setZoneMin z l).cmps = s.cmps ∧ (s.setZoneMin z l).link = s.link ∧ (s.setZoneMin z l).flags = s.flags ∧
    (s.setZoneMin z l).wallRx = s.wallRx ∧ (s.setZoneMin z l).recorderRx = s.recorderRx ∧
    (s.setZoneMin z l).handed = s.handed ∧ (s.setZoneMin z l).choices = s.choices ∧
    (s.setZoneMin z l).pending = s.pending :=
  ⟨rfl, rfl, rfl, rfl, rfl, rfl, rfl, rfl, rfl, rfl, rfl, rfl, rfl, rfl, rfl, rfl, rfl, rfl, rfl, rfl, rfl⟩

@[simp] theorem setSalvo_fields (s : State) (n : Salvo) (l : List (Dest × Src)) :
    (s.setSalvo n l).store = { s.store with salvos := put s.store.salvos n l } ∧ (s.setSalvo n l).now = s.now ∧
    (s.setSalvo n l).straps = s.straps ∧ (s.setSalvo n l).dests = s.dests ∧ (s.setSalvo n l).srcs = s.srcs ∧
    (s.setSalvo n l).pool = s.pool ∧ (s.setSalvo n l).registry = s.registry ∧
    (s.setSalvo n l).domains = s.domains ∧ (s.setSalvo n l).bus = s.bus ∧ (s.setSalvo n l).walls = s.walls ∧
    (s.setSalvo n l).ports = s.ports ∧ (s.setSalvo n l).router = s.router ∧ (s.setSalvo n l).gpis = s.gpis ∧
    (s.setSalvo n l).cmps = s.cmps ∧ (s.setSalvo n l).link = s.link ∧ (s.setSalvo n l).flags = s.flags ∧
    (s.setSalvo n l).wallRx = s.wallRx ∧ (s.setSalvo n l).recorderRx = s.recorderRx ∧
    (s.setSalvo n l).handed = s.handed ∧ (s.setSalvo n l).choices = s.choices ∧
    (s.setSalvo n l).pending = s.pending :=
  ⟨rfl, rfl, rfl, rfl, rfl, rfl, rfl, rfl, rfl, rfl, rfl, rfl, rfl, rfl, rfl, rfl, rfl, rfl, rfl, rfl, rfl⟩

@[simp] theorem pushUndo_fields (s : State) (u : UndoRec) :
    (s.pushUndo u).store = { s.store with undo := (u :: s.store.undo).take Config.undoLimit } ∧
    (s.pushUndo u).now = s.now ∧ (s.pushUndo u).straps = s.straps ∧ (s.pushUndo u).dests = s.dests ∧
    (s.pushUndo u).srcs = s.srcs ∧ (s.pushUndo u).pool = s.pool ∧ (s.pushUndo u).registry = s.registry ∧
    (s.pushUndo u).domains = s.domains ∧ (s.pushUndo u).bus = s.bus ∧ (s.pushUndo u).walls = s.walls ∧
    (s.pushUndo u).ports = s.ports ∧ (s.pushUndo u).router = s.router ∧ (s.pushUndo u).gpis = s.gpis ∧
    (s.pushUndo u).cmps = s.cmps ∧ (s.pushUndo u).link = s.link ∧ (s.pushUndo u).flags = s.flags ∧
    (s.pushUndo u).wallRx = s.wallRx ∧ (s.pushUndo u).recorderRx = s.recorderRx ∧
    (s.pushUndo u).handed = s.handed ∧ (s.pushUndo u).choices = s.choices ∧
    (s.pushUndo u).pending = s.pending :=
  ⟨rfl, rfl, rfl, rfl, rfl, rfl, rfl, rfl, rfl, rfl, rfl, rfl, rfl, rfl, rfl, rfl, rfl, rfl, rfl, rfl, rfl⟩

@[simp] theorem hand_fields (s : State) (h : Handed) :
    (s.hand h).handed = s.handed ++ [h] ∧ (s.hand h).now = s.now ∧ (s.hand h).straps = s.straps ∧
    (s.hand h).dests = s.dests ∧ (s.hand h).srcs = s.srcs ∧ (s.hand h).pool = s.pool ∧
    (s.hand h).registry = s.registry ∧ (s.hand h).store = s.store ∧ (s.hand h).domains = s.domains ∧
    (s.hand h).bus = s.bus ∧ (s.hand h).walls = s.walls ∧ (s.hand h).ports = s.ports ∧
    (s.hand h).router = s.router ∧ (s.hand h).gpis = s.gpis ∧ (s.hand h).cmps = s.cmps ∧
    (s.hand h).link = s.link ∧ (s.hand h).flags = s.flags ∧ (s.hand h).wallRx = s.wallRx ∧
    (s.hand h).recorderRx = s.recorderRx ∧ (s.hand h).choices = s.choices ∧ (s.hand h).pending = s.pending :=
  ⟨rfl, rfl, rfl, rfl, rfl, rfl, rfl, rfl, rfl, rfl, rfl, rfl, rfl, rfl, rfl, rfl, rfl, rfl, rfl, rfl, rfl⟩

@[simp] theorem setBus_fields (s : State) (b : Bus) :
    (s.setBus b).bus = b ∧ (s.setBus b).now = s.now ∧ (s.setBus b).straps = s.straps ∧
    (s.setBus b).dests = s.dests ∧ (s.setBus b).srcs = s.srcs ∧ (s.setBus b).pool = s.pool ∧
    (s.setBus b).registry = s.registry ∧ (s.setBus b).store = s.store ∧ (s.setBus b).domains = s.domains ∧
    (s.setBus b).walls = s.walls ∧ (s.setBus b).ports = s.ports ∧ (s.setBus b).router = s.router ∧
    (s.setBus b).gpis = s.gpis ∧ (s.setBus b).cmps = s.cmps ∧ (s.setBus b).link = s.link ∧
    (s.setBus b).flags = s.flags ∧ (s.setBus b).wallRx = s.wallRx ∧ (s.setBus b).recorderRx = s.recorderRx ∧
    (s.setBus b).handed = s.handed ∧ (s.setBus b).choices = s.choices ∧ (s.setBus b).pending = s.pending :=
  ⟨rfl, rfl, rfl, rfl, rfl, rfl, rfl, rfl, rfl, rfl, rfl, rfl, rfl, rfl, rfl, rfl, rfl, rfl, rfl, rfl, rfl⟩

@[simp] theorem setDebt_fields (s : State) (d : Dom) (n : Nat) :
    (s.setDebt d n).bus = { s.bus with debt := put s.bus.debt d n } ∧ (s.setDebt d n).now = s.now ∧
    (s.setDebt d n).straps = s.straps ∧ (s.setDebt d n).dests = s.dests ∧ (s.setDebt d n).srcs = s.srcs ∧
    (s.setDebt d n).pool = s.pool ∧ (s.setDebt d n).registry = s.registry ∧ (s.setDebt d n).store = s.store ∧
    (s.setDebt d n).domains = s.domains ∧ (s.setDebt d n).walls = s.walls ∧ (s.setDebt d n).ports = s.ports ∧
    (s.setDebt d n).router = s.router ∧ (s.setDebt d n).gpis = s.gpis ∧ (s.setDebt d n).cmps = s.cmps ∧
    (s.setDebt d n).link = s.link ∧ (s.setDebt d n).flags = s.flags ∧ (s.setDebt d n).wallRx = s.wallRx ∧
    (s.setDebt d n).recorderRx = s.recorderRx ∧ (s.setDebt d n).handed = s.handed ∧
    (s.setDebt d n).choices = s.choices ∧ (s.setDebt d n).pending = s.pending :=
  ⟨rfl, rfl, rfl, rfl, rfl, rfl, rfl, rfl, rfl, rfl, rfl, rfl, rfl, rfl, rfl, rfl, rfl, rfl, rfl, rfl, rfl⟩

@[simp] theorem setFlags_fields (s : State) (f : Flags) :
    (s.setFlags f).flags = f ∧ (s.setFlags f).now = s.now ∧ (s.setFlags f).straps = s.straps ∧
    (s.setFlags f).dests = s.dests ∧ (s.setFlags f).srcs = s.srcs ∧ (s.setFlags f).pool = s.pool ∧
    (s.setFlags f).registry = s.registry ∧ (s.setFlags f).store = s.store ∧
    (s.setFlags f).domains = s.domains ∧ (s.setFlags f).bus = s.bus ∧ (s.setFlags f).walls = s.walls ∧
    (s.setFlags f).ports = s.ports ∧ (s.setFlags f).router = s.router ∧ (s.setFlags f).gpis = s.gpis ∧
    (s.setFlags f).cmps = s.cmps ∧ (s.setFlags f).link = s.link ∧ (s.setFlags f).wallRx = s.wallRx ∧
    (s.setFlags f).recorderRx = s.recorderRx ∧ (s.setFlags f).handed = s.handed ∧
    (s.setFlags f).choices = s.choices ∧ (s.setFlags f).pending = s.pending :=
  ⟨rfl, rfl, rfl, rfl, rfl, rfl, rfl, rfl, rfl, rfl, rfl, rfl, rfl, rfl, rfl, rfl, rfl, rfl, rfl, rfl, rfl⟩

@[simp] theorem setLink_fields (s : State) (l : Link) :
    (s.setLink l).link = l ∧ (s.setLink l).now = s.now ∧ (s.setLink l).straps = s.straps ∧
    (s.setLink l).dests = s.dests ∧ (s.setLink l).srcs = s.srcs ∧ (s.setLink l).pool = s.pool ∧
    (s.setLink l).registry = s.registry ∧ (s.setLink l).store = s.store ∧ (s.setLink l).domains = s.domains ∧
    (s.setLink l).bus = s.bus ∧ (s.setLink l).walls = s.walls ∧ (s.setLink l).ports = s.ports ∧
    (s.setLink l).router = s.router ∧ (s.setLink l).gpis = s.gpis ∧ (s.setLink l).cmps = s.cmps ∧
    (s.setLink l).flags = s.flags ∧ (s.setLink l).wallRx = s.wallRx ∧ (s.setLink l).recorderRx = s.recorderRx ∧
    (s.setLink l).handed = s.handed ∧ (s.setLink l).choices = s.choices ∧ (s.setLink l).pending = s.pending :=
  ⟨rfl, rfl, rfl, rfl, rfl, rfl, rfl, rfl, rfl, rfl, rfl, rfl, rfl, rfl, rfl, rfl, rfl, rfl, rfl, rfl, rfl⟩

@[simp] theorem send_fields (s : State) (f : TxFrame) :
    (s.send f).link = { s.link with transmit := s.link.transmit ++ [f] } ∧ (s.send f).now = s.now ∧
    (s.send f).straps = s.straps ∧ (s.send f).dests = s.dests ∧ (s.send f).srcs = s.srcs ∧
    (s.send f).pool = s.pool ∧ (s.send f).registry = s.registry ∧ (s.send f).store = s.store ∧
    (s.send f).domains = s.domains ∧ (s.send f).bus = s.bus ∧ (s.send f).walls = s.walls ∧
    (s.send f).ports = s.ports ∧ (s.send f).router = s.router ∧ (s.send f).gpis = s.gpis ∧
    (s.send f).cmps = s.cmps ∧ (s.send f).flags = s.flags ∧ (s.send f).wallRx = s.wallRx ∧
    (s.send f).recorderRx = s.recorderRx ∧ (s.send f).handed = s.handed ∧ (s.send f).choices = s.choices ∧
    (s.send f).pending = s.pending :=
  ⟨rfl, rfl, rfl, rfl, rfl, rfl, rfl, rfl, rfl, rfl, rfl, rfl, rfl, rfl, rfl, rfl, rfl, rfl, rfl, rfl, rfl⟩

@[simp] theorem setWallRx_fields (s : State) (w : Wall) (r : PartnerRx) :
    (s.setWallRx w r).wallRx = put s.wallRx w r ∧ (s.setWallRx w r).now = s.now ∧
    (s.setWallRx w r).straps = s.straps ∧ (s.setWallRx w r).dests = s.dests ∧ (s.setWallRx w r).srcs = s.srcs ∧
    (s.setWallRx w r).pool = s.pool ∧ (s.setWallRx w r).registry = s.registry ∧
    (s.setWallRx w r).store = s.store ∧ (s.setWallRx w r).domains = s.domains ∧ (s.setWallRx w r).bus = s.bus ∧
    (s.setWallRx w r).walls = s.walls ∧ (s.setWallRx w r).ports = s.ports ∧
    (s.setWallRx w r).router = s.router ∧ (s.setWallRx w r).gpis = s.gpis ∧ (s.setWallRx w r).cmps = s.cmps ∧
    (s.setWallRx w r).link = s.link ∧ (s.setWallRx w r).flags = s.flags ∧
    (s.setWallRx w r).recorderRx = s.recorderRx ∧ (s.setWallRx w r).handed = s.handed ∧
    (s.setWallRx w r).choices = s.choices ∧ (s.setWallRx w r).pending = s.pending :=
  ⟨rfl, rfl, rfl, rfl, rfl, rfl, rfl, rfl, rfl, rfl, rfl, rfl, rfl, rfl, rfl, rfl, rfl, rfl, rfl, rfl, rfl⟩

@[simp] theorem setRecorderRx_fields (s : State) (p : Port) (r : PartnerRx) :
    (s.setRecorderRx p r).recorderRx = put s.recorderRx p r ∧ (s.setRecorderRx p r).now = s.now ∧
    (s.setRecorderRx p r).straps = s.straps ∧ (s.setRecorderRx p r).dests = s.dests ∧
    (s.setRecorderRx p r).srcs = s.srcs ∧ (s.setRecorderRx p r).pool = s.pool ∧
    (s.setRecorderRx p r).registry = s.registry ∧ (s.setRecorderRx p r).store = s.store ∧
    (s.setRecorderRx p r).domains = s.domains ∧ (s.setRecorderRx p r).bus = s.bus ∧
    (s.setRecorderRx p r).walls = s.walls ∧ (s.setRecorderRx p r).ports = s.ports ∧
    (s.setRecorderRx p r).router = s.router ∧ (s.setRecorderRx p r).gpis = s.gpis ∧
    (s.setRecorderRx p r).cmps = s.cmps ∧ (s.setRecorderRx p r).link = s.link ∧
    (s.setRecorderRx p r).flags = s.flags ∧ (s.setRecorderRx p r).wallRx = s.wallRx ∧
    (s.setRecorderRx p r).handed = s.handed ∧ (s.setRecorderRx p r).choices = s.choices ∧
    (s.setRecorderRx p r).pending = s.pending :=
  ⟨rfl, rfl, rfl, rfl, rfl, rfl, rfl, rfl, rfl, rfl, rfl, rfl, rfl, rfl, rfl, rfl, rfl, rfl, rfl, rfl, rfl⟩

@[simp] theorem bindMark_fields (s : State) (d : Dom) (e : Byte) :
    (s.bindMark d e).router = { s.router with mark := put s.router.mark d e } ∧ (s.bindMark d e).now = s.now ∧
    (s.bindMark d e).straps = s.straps ∧ (s.bindMark d e).dests = s.dests ∧ (s.bindMark d e).srcs = s.srcs ∧
    (s.bindMark d e).pool = s.pool ∧ (s.bindMark d e).registry = s.registry ∧
    (s.bindMark d e).store = s.store ∧ (s.bindMark d e).domains = s.domains ∧ (s.bindMark d e).bus = s.bus ∧
    (s.bindMark d e).walls = s.walls ∧ (s.bindMark d e).ports = s.ports ∧ (s.bindMark d e).gpis = s.gpis ∧
    (s.bindMark d e).cmps = s.cmps ∧ (s.bindMark d e).link = s.link ∧ (s.bindMark d e).flags = s.flags ∧
    (s.bindMark d e).wallRx = s.wallRx ∧ (s.bindMark d e).recorderRx = s.recorderRx ∧
    (s.bindMark d e).handed = s.handed ∧ (s.bindMark d e).choices = s.choices ∧
    (s.bindMark d e).pending = s.pending :=
  ⟨rfl, rfl, rfl, rfl, rfl, rfl, rfl, rfl, rfl, rfl, rfl, rfl, rfl, rfl, rfl, rfl, rfl, rfl, rfl, rfl, rfl⟩

@[simp] theorem bindPoll_fields (s : State) (p : Port) (e : Byte) :
    (s.bindPoll p e).router = { s.router with poll := put s.router.poll p e } ∧ (s.bindPoll p e).now = s.now ∧
    (s.bindPoll p e).straps = s.straps ∧ (s.bindPoll p e).dests = s.dests ∧ (s.bindPoll p e).srcs = s.srcs ∧
    (s.bindPoll p e).pool = s.pool ∧ (s.bindPoll p e).registry = s.registry ∧
    (s.bindPoll p e).store = s.store ∧ (s.bindPoll p e).domains = s.domains ∧ (s.bindPoll p e).bus = s.bus ∧
    (s.bindPoll p e).walls = s.walls ∧ (s.bindPoll p e).ports = s.ports ∧ (s.bindPoll p e).gpis = s.gpis ∧
    (s.bindPoll p e).cmps = s.cmps ∧ (s.bindPoll p e).link = s.link ∧ (s.bindPoll p e).flags = s.flags ∧
    (s.bindPoll p e).wallRx = s.wallRx ∧ (s.bindPoll p e).recorderRx = s.recorderRx ∧
    (s.bindPoll p e).handed = s.handed ∧ (s.bindPoll p e).choices = s.choices ∧
    (s.bindPoll p e).pending = s.pending :=
  ⟨rfl, rfl, rfl, rfl, rfl, rfl, rfl, rfl, rfl, rfl, rfl, rfl, rfl, rfl, rfl, rfl, rfl, rfl, rfl, rfl, rfl⟩

@[simp] theorem tick_fields (s : State) :
    s.tick.now = s.now + 1 ∧ s.tick.straps = s.straps ∧ s.tick.dests = s.dests ∧ s.tick.srcs = s.srcs ∧
    s.tick.pool = s.pool ∧ s.tick.registry = s.registry ∧ s.tick.store = s.store ∧ s.tick.domains = s.domains ∧
    s.tick.bus = s.bus ∧ s.tick.walls = s.walls ∧ s.tick.ports = s.ports ∧ s.tick.router = s.router ∧
    s.tick.gpis = s.gpis ∧ s.tick.cmps = s.cmps ∧ s.tick.link = s.link ∧ s.tick.flags = s.flags ∧
    s.tick.wallRx = s.wallRx ∧ s.tick.recorderRx = s.recorderRx ∧ s.tick.handed = s.handed ∧
    s.tick.choices = s.choices ∧ s.tick.pending = s.pending :=
  ⟨rfl, rfl, rfl, rfl, rfl, rfl, rfl, rfl, rfl, rfl, rfl, rfl, rfl, rfl, rfl, rfl, rfl, rfl, rfl, rfl, rfl⟩

@[simp] theorem flagDestFault_fields (s : State) (d : Dest) (t : Tag) :
    (s.flagDestFault d t).flags = { s.flags with destFault := put s.flags.destFault d (some t) } ∧
    (s.flagDestFault d t).now = s.now ∧ (s.flagDestFault d t).straps = s.straps ∧
    (s.flagDestFault d t).dests = s.dests ∧ (s.flagDestFault d t).srcs = s.srcs ∧
    (s.flagDestFault d t).pool = s.pool ∧ (s.flagDestFault d t).registry = s.registry ∧
    (s.flagDestFault d t).store = s.store ∧ (s.flagDestFault d t).domains = s.domains ∧
    (s.flagDestFault d t).bus = s.bus ∧ (s.flagDestFault d t).walls = s.walls ∧
    (s.flagDestFault d t).ports = s.ports ∧ (s.flagDestFault d t).router = s.router ∧
    (s.flagDestFault d t).gpis = s.gpis ∧ (s.flagDestFault d t).cmps = s.cmps ∧
    (s.flagDestFault d t).link = s.link ∧ (s.flagDestFault d t).wallRx = s.wallRx ∧
    (s.flagDestFault d t).recorderRx = s.recorderRx ∧ (s.flagDestFault d t).handed = s.handed ∧
    (s.flagDestFault d t).choices = s.choices ∧ (s.flagDestFault d t).pending = s.pending :=
  ⟨rfl, rfl, rfl, rfl, rfl, rfl, rfl, rfl, rfl, rfl, rfl, rfl, rfl, rfl, rfl, rfl, rfl, rfl, rfl, rfl, rfl⟩

@[simp] theorem flagLockBreach_fields (s : State) (d : Dest) (x : Src) (o : RestoreOutcome) :
    (s.flagLockBreach d x o).flags = { s.flags with lockBreach := put s.flags.lockBreach d (some (x, o)) } ∧
    (s.flagLockBreach d x o).now = s.now ∧ (s.flagLockBreach d x o).straps = s.straps ∧
    (s.flagLockBreach d x o).dests = s.dests ∧ (s.flagLockBreach d x o).srcs = s.srcs ∧
    (s.flagLockBreach d x o).pool = s.pool ∧ (s.flagLockBreach d x o).registry = s.registry ∧
    (s.flagLockBreach d x o).store = s.store ∧ (s.flagLockBreach d x o).domains = s.domains ∧
    (s.flagLockBreach d x o).bus = s.bus ∧ (s.flagLockBreach d x o).walls = s.walls ∧
    (s.flagLockBreach d x o).ports = s.ports ∧ (s.flagLockBreach d x o).router = s.router ∧
    (s.flagLockBreach d x o).gpis = s.gpis ∧ (s.flagLockBreach d x o).cmps = s.cmps ∧
    (s.flagLockBreach d x o).link = s.link ∧ (s.flagLockBreach d x o).wallRx = s.wallRx ∧
    (s.flagLockBreach d x o).recorderRx = s.recorderRx ∧ (s.flagLockBreach d x o).handed = s.handed ∧
    (s.flagLockBreach d x o).choices = s.choices ∧ (s.flagLockBreach d x o).pending = s.pending :=
  ⟨rfl, rfl, rfl, rfl, rfl, rfl, rfl, rfl, rfl, rfl, rfl, rfl, rfl, rfl, rfl, rfl, rfl, rfl, rfl, rfl, rfl⟩

@[simp] theorem flagDomain_fields (s : State) (d : Dom) (l : LockState) (m : Bool) :
    (s.flagDomain d l m).flags = { s.flags with domain := put s.flags.domain d (some (l, m)) } ∧
    (s.flagDomain d l m).now = s.now ∧ (s.flagDomain d l m).straps = s.straps ∧
    (s.flagDomain d l m).dests = s.dests ∧ (s.flagDomain d l m).srcs = s.srcs ∧
    (s.flagDomain d l m).pool = s.pool ∧ (s.flagDomain d l m).registry = s.registry ∧
    (s.flagDomain d l m).store = s.store ∧ (s.flagDomain d l m).domains = s.domains ∧
    (s.flagDomain d l m).bus = s.bus ∧ (s.flagDomain d l m).walls = s.walls ∧
    (s.flagDomain d l m).ports = s.ports ∧ (s.flagDomain d l m).router = s.router ∧
    (s.flagDomain d l m).gpis = s.gpis ∧ (s.flagDomain d l m).cmps = s.cmps ∧
    (s.flagDomain d l m).link = s.link ∧ (s.flagDomain d l m).wallRx = s.wallRx ∧
    (s.flagDomain d l m).recorderRx = s.recorderRx ∧ (s.flagDomain d l m).handed = s.handed ∧
    (s.flagDomain d l m).choices = s.choices ∧ (s.flagDomain d l m).pending = s.pending :=
  ⟨rfl, rfl, rfl, rfl, rfl, rfl, rfl, rfl, rfl, rfl, rfl, rfl, rfl, rfl, rfl, rfl, rfl, rfl, rfl, rfl, rfl⟩

@[simp] theorem flagRecorder_fields (s : State) (p : Port) (o : Bool) (r : RecorderState) :
    (s.flagRecorder p o r).flags = { s.flags with recorder := put s.flags.recorder p (some (o, r)) } ∧
    (s.flagRecorder p o r).now = s.now ∧ (s.flagRecorder p o r).straps = s.straps ∧
    (s.flagRecorder p o r).dests = s.dests ∧ (s.flagRecorder p o r).srcs = s.srcs ∧
    (s.flagRecorder p o r).pool = s.pool ∧ (s.flagRecorder p o r).registry = s.registry ∧
    (s.flagRecorder p o r).store = s.store ∧ (s.flagRecorder p o r).domains = s.domains ∧
    (s.flagRecorder p o r).bus = s.bus ∧ (s.flagRecorder p o r).walls = s.walls ∧
    (s.flagRecorder p o r).ports = s.ports ∧ (s.flagRecorder p o r).router = s.router ∧
    (s.flagRecorder p o r).gpis = s.gpis ∧ (s.flagRecorder p o r).cmps = s.cmps ∧
    (s.flagRecorder p o r).link = s.link ∧ (s.flagRecorder p o r).wallRx = s.wallRx ∧
    (s.flagRecorder p o r).recorderRx = s.recorderRx ∧ (s.flagRecorder p o r).handed = s.handed ∧
    (s.flagRecorder p o r).choices = s.choices ∧ (s.flagRecorder p o r).pending = s.pending :=
  ⟨rfl, rfl, rfl, rfl, rfl, rfl, rfl, rfl, rfl, rfl, rfl, rfl, rfl, rfl, rfl, rfl, rfl, rfl, rfl, rfl, rfl⟩

@[simp] theorem flagWall_fields (s : State) (w : Wall) (l : WallState) :
    (s.flagWall w l).flags = { s.flags with wall := put s.flags.wall w (some l) } ∧
    (s.flagWall w l).now = s.now ∧ (s.flagWall w l).straps = s.straps ∧ (s.flagWall w l).dests = s.dests ∧
    (s.flagWall w l).srcs = s.srcs ∧ (s.flagWall w l).pool = s.pool ∧ (s.flagWall w l).registry = s.registry ∧
    (s.flagWall w l).store = s.store ∧ (s.flagWall w l).domains = s.domains ∧ (s.flagWall w l).bus = s.bus ∧
    (s.flagWall w l).walls = s.walls ∧ (s.flagWall w l).ports = s.ports ∧ (s.flagWall w l).router = s.router ∧
    (s.flagWall w l).gpis = s.gpis ∧ (s.flagWall w l).cmps = s.cmps ∧ (s.flagWall w l).link = s.link ∧
    (s.flagWall w l).wallRx = s.wallRx ∧ (s.flagWall w l).recorderRx = s.recorderRx ∧
    (s.flagWall w l).handed = s.handed ∧ (s.flagWall w l).choices = s.choices ∧
    (s.flagWall w l).pending = s.pending :=
  ⟨rfl, rfl, rfl, rfl, rfl, rfl, rfl, rfl, rfl, rfl, rfl, rfl, rfl, rfl, rfl, rfl, rfl, rfl, rfl, rfl, rfl⟩

@[simp] theorem flagReleased_fields (s : State) (d : Dest) (n : Panel) (r : ReleaseReason) :
    (s.flagReleased d n r).flags = { s.flags with released := put s.flags.released d (some (n, r)) } ∧
    (s.flagReleased d n r).now = s.now ∧ (s.flagReleased d n r).straps = s.straps ∧
    (s.flagReleased d n r).dests = s.dests ∧ (s.flagReleased d n r).srcs = s.srcs ∧
    (s.flagReleased d n r).pool = s.pool ∧ (s.flagReleased d n r).registry = s.registry ∧
    (s.flagReleased d n r).store = s.store ∧ (s.flagReleased d n r).domains = s.domains ∧
    (s.flagReleased d n r).bus = s.bus ∧ (s.flagReleased d n r).walls = s.walls ∧
    (s.flagReleased d n r).ports = s.ports ∧ (s.flagReleased d n r).router = s.router ∧
    (s.flagReleased d n r).gpis = s.gpis ∧ (s.flagReleased d n r).cmps = s.cmps ∧
    (s.flagReleased d n r).link = s.link ∧ (s.flagReleased d n r).wallRx = s.wallRx ∧
    (s.flagReleased d n r).recorderRx = s.recorderRx ∧ (s.flagReleased d n r).handed = s.handed ∧
    (s.flagReleased d n r).choices = s.choices ∧ (s.flagReleased d n r).pending = s.pending :=
  ⟨rfl, rfl, rfl, rfl, rfl, rfl, rfl, rfl, rfl, rfl, rfl, rfl, rfl, rfl, rfl, rfl, rfl, rfl, rfl, rfl, rfl⟩

@[simp] theorem flagComparator_fields (s : State) (k : Cmp) (b : Bool) (c : Status) :
    (s.flagComparator k b c).flags = { s.flags with comparator := put s.flags.comparator k (some (b, c)) } ∧
    (s.flagComparator k b c).now = s.now ∧ (s.flagComparator k b c).straps = s.straps ∧
    (s.flagComparator k b c).dests = s.dests ∧ (s.flagComparator k b c).srcs = s.srcs ∧
    (s.flagComparator k b c).pool = s.pool ∧ (s.flagComparator k b c).registry = s.registry ∧
    (s.flagComparator k b c).store = s.store ∧ (s.flagComparator k b c).domains = s.domains ∧
    (s.flagComparator k b c).bus = s.bus ∧ (s.flagComparator k b c).walls = s.walls ∧
    (s.flagComparator k b c).ports = s.ports ∧ (s.flagComparator k b c).router = s.router ∧
    (s.flagComparator k b c).gpis = s.gpis ∧ (s.flagComparator k b c).cmps = s.cmps ∧
    (s.flagComparator k b c).link = s.link ∧ (s.flagComparator k b c).wallRx = s.wallRx ∧
    (s.flagComparator k b c).recorderRx = s.recorderRx ∧ (s.flagComparator k b c).handed = s.handed ∧
    (s.flagComparator k b c).choices = s.choices ∧ (s.flagComparator k b c).pending = s.pending :=
  ⟨rfl, rfl, rfl, rfl, rfl, rfl, rfl, rfl, rfl, rfl, rfl, rfl, rfl, rfl, rfl, rfl, rfl, rfl, rfl, rfl, rfl⟩

/-! ## Accessors -/

theorem dest_def (s : State) (d : Dest) : s.dest d = look s.dests d := rfl
theorem src_def (s : State) (x : Src) : s.src x = look s.srcs x := rfl
theorem slot_def (s : State) (i : Slot) : s.slot i = look s.pool.slots i := rfl
theorem queue_def (s : State) (d : Dom) : s.queue d = look s.pool.queues d := rfl
theorem dom_def (s : State) (d : Dom) : s.dom d = look s.domains d := rfl
theorem wall_def (s : State) (w : Wall) : s.wall w = look s.walls w := rfl
theorem port_def (s : State) (p : Port) : s.port p = look s.ports p := rfl
theorem gpi_def (s : State) (i : Gpi) : s.gpi i = look s.gpis i := rfl
theorem cmp_def (s : State) (k : Cmp) : s.cmp k = look s.cmps k := rfl
theorem protectOf_def (s : State) (d : Dest) : s.protectOf d = look s.registry.protects d := rfl

end Sys2Proof.Machine.State
end

