-- ==== Sys2Proof/Laws/Frames.lean ====
section
/-! SUPPORT. What the shared operations leave alone: every field of the state that is not named here for change. -/

namespace Sys2Proof.Machine.State

theorem foldl_keep {α β : Type} (g : State → β) (f : State → α → State) (h : ∀ s a, g (f s a) = g s)
    (l : List α) (s : State) : g (l.foldl f s) = g s := by
  induction l generalizing s with
  | nil => rfl
  | cons a l ih => rw [List.foldl_cons, ih, h]

@[simp] theorem setTake_frame (s : State) (i : Slot) (t : Take) :
    (s.setTake i t).now = s.now ∧ (s.setTake i t).straps = s.straps ∧ (s.setTake i t).dests = s.dests ∧
    (s.setTake i t).srcs = s.srcs ∧ (s.setTake i t).registry = s.registry ∧ (s.setTake i t).store = s.store ∧
    (s.setTake i t).domains = s.domains ∧ (s.setTake i t).bus = s.bus ∧ (s.setTake i t).walls = s.walls ∧
    (s.setTake i t).ports = s.ports ∧ (s.setTake i t).router = s.router ∧ (s.setTake i t).gpis = s.gpis ∧
    (s.setTake i t).cmps = s.cmps ∧ (s.setTake i t).link = s.link ∧ (s.setTake i t).flags = s.flags ∧
    (s.setTake i t).wallRx = s.wallRx ∧ (s.setTake i t).recorderRx = s.recorderRx ∧
    (s.setTake i t).handed = s.handed ∧ (s.setTake i t).choices = s.choices ∧
    (s.setTake i t).pending = s.pending :=
  by
  simp only [setTake]
  all_goals simp

@[simp] theorem delist_frame (s : State) (i : Slot) (d : Dom) :
    (s.delist i d).now = s.now ∧ (s.delist i d).straps = s.straps ∧ (s.delist i d).dests = s.dests ∧
    (s.delist i d).srcs = s.srcs ∧ (s.delist i d).registry = s.registry ∧ (s.delist i d).store = s.store ∧
    (s.delist i d).domains = s.domains ∧ (s.delist i d).walls = s.walls ∧ (s.delist i d).ports = s.ports ∧
    (s.delist i d).router = s.router ∧ (s.delist i d).gpis = s.gpis ∧ (s.delist i d).cmps = s.cmps ∧
    (s.delist i d).link = s.link ∧ (s.delist i d).flags = s.flags ∧ (s.delist i d).wallRx = s.wallRx ∧
    (s.delist i d).recorderRx = s.recorderRx ∧ (s.delist i d).handed = s.handed ∧
    (s.delist i d).choices = s.choices ∧ (s.delist i d).pending = s.pending :=
  by
  simp only [delist]
  all_goals simp

@[simp] theorem choose_frame (s : State) (n : Nat) :
    (s.choose n).2.now = s.now ∧ (s.choose n).2.straps = s.straps ∧ (s.choose n).2.dests = s.dests ∧
    (s.choose n).2.srcs = s.srcs ∧ (s.choose n).2.pool = s.pool ∧ (s.choose n).2.registry = s.registry ∧
    (s.choose n).2.store = s.store ∧ (s.choose n).2.domains = s.domains ∧ (s.choose n).2.bus = s.bus ∧
    (s.choose n).2.walls = s.walls ∧ (s.choose n).2.ports = s.ports ∧ (s.choose n).2.router = s.router ∧
    (s.choose n).2.gpis = s.gpis ∧ (s.choose n).2.cmps = s.cmps ∧ (s.choose n).2.link = s.link ∧
    (s.choose n).2.flags = s.flags ∧ (s.choose n).2.wallRx = s.wallRx ∧
    (s.choose n).2.recorderRx = s.recorderRx ∧ (s.choose n).2.handed = s.handed ∧
    (s.choose n).2.pending = s.pending :=
  by
  simp only [choose]
  repeat' split
  all_goals simp

@[simp] theorem handRecoloured_frame (s b : State) (x : Src) :
    (s.handRecoloured b x).now = s.now ∧ (s.handRecoloured b x).straps = s.straps ∧
    (s.handRecoloured b x).dests = s.dests ∧ (s.handRecoloured b x).srcs = s.srcs ∧
    (s.handRecoloured b x).pool = s.pool ∧ (s.handRecoloured b x).registry = s.registry ∧
    (s.handRecoloured b x).store = s.store ∧ (s.handRecoloured b x).domains = s.domains ∧
    (s.handRecoloured b x).bus = s.bus ∧ (s.handRecoloured b x).walls = s.walls ∧
    (s.handRecoloured b x).ports = s.ports ∧ (s.handRecoloured b x).router = s.router ∧
    (s.handRecoloured b x).gpis = s.gpis ∧ (s.handRecoloured b x).cmps = s.cmps ∧
    (s.handRecoloured b x).link = s.link ∧ (s.handRecoloured b x).flags = s.flags ∧
    (s.handRecoloured b x).wallRx = s.wallRx ∧ (s.handRecoloured b x).recorderRx = s.recorderRx ∧
    (s.handRecoloured b x).choices = s.choices ∧ (s.handRecoloured b x).pending = s.pending :=
  by
  simp only [handRecoloured]
  repeat' split
  all_goals simp

@[simp] theorem moveShare_frame (s : State) (a b : Option Src) (h : Nat × Nat × Nat) :
    (s.moveShare a b h).now = s.now ∧ (s.moveShare a b h).straps = s.straps ∧
    (s.moveShare a b h).dests = s.dests ∧ (s.moveShare a b h).pool = s.pool ∧
    (s.moveShare a b h).registry = s.registry ∧ (s.moveShare a b h).store = s.store ∧
    (s.moveShare a b h).domains = s.domains ∧ (s.moveShare a b h).bus = s.bus ∧
    (s.moveShare a b h).walls = s.walls ∧ (s.moveShare a b h).ports = s.ports ∧
    (s.moveShare a b h).router = s.router ∧ (s.moveShare a b h).gpis = s.gpis ∧
    (s.moveShare a b h).cmps = s.cmps ∧ (s.moveShare a b h).link = s.link ∧
    (s.moveShare a b h).flags = s.flags ∧ (s.moveShare a b h).wallRx = s.wallRx ∧
    (s.moveShare a b h).recorderRx = s.recorderRx ∧ (s.moveShare a b h).handed = s.handed ∧
    (s.moveShare a b h).choices = s.choices ∧ (s.moveShare a b h).pending = s.pending :=
  by
  simp only [moveShare]
  repeat' split
  all_goals simp

@[simp] theorem recolour_frame (s b : State) (x y : Option Src) :
    (s.recolour b x y).now = s.now ∧ (s.recolour b x y).straps = s.straps ∧
    (s.recolour b x y).dests = s.dests ∧ (s.recolour b x y).srcs = s.srcs ∧ (s.recolour b x y).pool = s.pool ∧
    (s.recolour b x y).registry = s.registry ∧ (s.recolour b x y).store = s.store ∧
    (s.recolour b x y).domains = s.domains ∧ (s.recolour b x y).bus = s.bus ∧
    (s.recolour b x y).walls = s.walls ∧ (s.recolour b x y).ports = s.ports ∧
    (s.recolour b x y).router = s.router ∧ (s.recolour b x y).gpis = s.gpis ∧
    (s.recolour b x y).cmps = s.cmps ∧ (s.recolour b x y).link = s.link ∧ (s.recolour b x y).flags = s.flags ∧
    (s.recolour b x y).wallRx = s.wallRx ∧ (s.recolour b x y).recorderRx = s.recorderRx ∧
    (s.recolour b x y).choices = s.choices ∧ (s.recolour b x y).pending = s.pending :=
  by
  simp only [recolour]
  repeat' split
  all_goals simp

@[simp] theorem applyReport_frame (s : State) (d : Dest) (x : Src) (c : ChangeOrigin) :
    (s.applyReport d x c).now = s.now ∧ (s.applyReport d x c).straps = s.straps ∧
    (s.applyReport d x c).pool = s.pool ∧ (s.applyReport d x c).registry = s.registry ∧
    (s.applyReport d x c).store = s.store ∧ (s.applyReport d x c).domains = s.domains ∧
    (s.applyReport d x c).bus = s.bus ∧ (s.applyReport d x c).walls = s.walls ∧
    (s.applyReport d x c).ports = s.ports ∧ (s.applyReport d x c).router = s.router ∧
    (s.applyReport d x c).gpis = s.gpis ∧ (s.applyReport d x c).cmps = s.cmps ∧
    (s.applyReport d x c).link = s.link ∧ (s.applyReport d x c).flags = s.flags ∧
    (s.applyReport d x c).wallRx = s.wallRx ∧ (s.applyReport d x c).recorderRx = s.recorderRx ∧
    (s.applyReport d x c).choices = s.choices ∧ (s.applyReport d x c).pending = s.pending :=
  by
  simp only [applyReport]
  repeat' split
  all_goals simp

@[simp] theorem countCompletion_frame (s : State) (d : Dest) :
    (s.countCompletion d).now = s.now ∧ (s.countCompletion d).straps = s.straps ∧
    (s.countCompletion d).srcs = s.srcs ∧ (s.countCompletion d).pool = s.pool ∧
    (s.countCompletion d).registry = s.registry ∧ (s.countCompletion d).store = s.store ∧
    (s.countCompletion d).domains = s.domains ∧ (s.countCompletion d).bus = s.bus ∧
    (s.countCompletion d).walls = s.walls ∧ (s.countCompletion d).ports = s.ports ∧
    (s.countCompletion d).router = s.router ∧ (s.countCompletion d).gpis = s.gpis ∧
    (s.countCompletion d).cmps = s.cmps ∧ (s.countCompletion d).link = s.link ∧
    (s.countCompletion d).flags = s.flags ∧ (s.countCompletion d).wallRx = s.wallRx ∧
    (s.countCompletion d).recorderRx = s.recorderRx ∧ (s.countCompletion d).handed = s.handed ∧
    (s.countCompletion d).choices = s.choices ∧ (s.countCompletion d).pending = s.pending :=
  by
  simp only [countCompletion]
  all_goals simp

@[simp] theorem outputEvent_frame (s : State) (d : Dest) (e : OutputEvent) :
    (s.outputEvent d e).now = s.now ∧ (s.outputEvent d e).straps = s.straps ∧
    (s.outputEvent d e).srcs = s.srcs ∧ (s.outputEvent d e).pool = s.pool ∧
    (s.outputEvent d e).registry = s.registry ∧ (s.outputEvent d e).store = s.store ∧
    (s.outputEvent d e).domains = s.domains ∧ (s.outputEvent d e).bus = s.bus ∧
    (s.outputEvent d e).walls = s.walls ∧ (s.outputEvent d e).ports = s.ports ∧
    (s.outputEvent d e).router = s.router ∧ (s.outputEvent d e).gpis = s.gpis ∧
    (s.outputEvent d e).cmps = s.cmps ∧ (s.outputEvent d e).link = s.link ∧
    (s.outputEvent d e).flags = s.flags ∧ (s.outputEvent d e).wallRx = s.wallRx ∧
    (s.outputEvent d e).recorderRx = s.recorderRx ∧ (s.outputEvent d e).choices = s.choices ∧
    (s.outputEvent d e).pending = s.pending :=
  by
  simp only [outputEvent]
  repeat' split
  all_goals simp

@[simp] theorem applyNoAnswer_frame (s : State) (d : Dest) :
    (s.applyNoAnswer d).now = s.now ∧ (s.applyNoAnswer d).straps = s.straps ∧
    (s.applyNoAnswer d).srcs = s.srcs ∧ (s.applyNoAnswer d).pool = s.pool ∧
    (s.applyNoAnswer d).registry = s.registry ∧ (s.applyNoAnswer d).store = s.store ∧
    (s.applyNoAnswer d).domains = s.domains ∧ (s.applyNoAnswer d).bus = s.bus ∧
    (s.applyNoAnswer d).walls = s.walls ∧ (s.applyNoAnswer d).ports = s.ports ∧
    (s.applyNoAnswer d).router = s.router ∧ (s.applyNoAnswer d).gpis = s.gpis ∧
    (s.applyNoAnswer d).cmps = s.cmps ∧ (s.applyNoAnswer d).link = s.link ∧
    (s.applyNoAnswer d).flags = s.flags ∧ (s.applyNoAnswer d).wallRx = s.wallRx ∧
    (s.applyNoAnswer d).recorderRx = s.recorderRx ∧ (s.applyNoAnswer d).choices = s.choices ∧
    (s.applyNoAnswer d).pending = s.pending :=
  by
  simp only [applyNoAnswer]
  repeat' split
  all_goals simp

@[simp] theorem recount_frame (s : State) (d : Dest) (b : Bool) :
    (s.recount d b).now = s.now ∧ (s.recount d b).straps = s.straps ∧ (s.recount d b).dests = s.dests ∧
    (s.recount d b).pool = s.pool ∧ (s.recount d b).registry = s.registry ∧ (s.recount d b).store = s.store ∧
    (s.recount d b).domains = s.domains ∧ (s.recount d b).bus = s.bus ∧ (s.recount d b).walls = s.walls ∧
    (s.recount d b).ports = s.ports ∧ (s.recount d b).router = s.router ∧ (s.recount d b).gpis = s.gpis ∧
    (s.recount d b).cmps = s.cmps ∧ (s.recount d b).link = s.link ∧ (s.recount d b).flags = s.flags ∧
    (s.recount d b).wallRx = s.wallRx ∧ (s.recount d b).recorderRx = s.recorderRx ∧
    (s.recount d b).choices = s.choices ∧ (s.recount d b).pending = s.pending :=
  by
  simp only [recount]
  repeat' split
  all_goals simp

@[simp] theorem changeRole_frame (s : State) (d : Dest) (r : Role) :
    (s.changeRole d r).now = s.now ∧ (s.changeRole d r).straps = s.straps ∧ (s.changeRole d r).pool = s.pool ∧
    (s.changeRole d r).registry = s.registry ∧ (s.changeRole d r).store = s.store ∧
    (s.changeRole d r).domains = s.domains ∧ (s.changeRole d r).bus = s.bus ∧
    (s.changeRole d r).walls = s.walls ∧ (s.changeRole d r).ports = s.ports ∧
    (s.changeRole d r).router = s.router ∧ (s.changeRole d r).gpis = s.gpis ∧
    (s.changeRole d r).cmps = s.cmps ∧ (s.changeRole d r).link = s.link ∧ (s.changeRole d r).flags = s.flags ∧
    (s.changeRole d r).wallRx = s.wallRx ∧ (s.changeRole d r).recorderRx = s.recorderRx ∧
    (s.changeRole d r).choices = s.choices ∧ (s.changeRole d r).pending = s.pending :=
  by
  simp only [changeRole]
  all_goals simp

@[simp] theorem handIfIdle_frame (s : State) (d : Dest) :
    (s.handIfIdle d).now = s.now ∧ (s.handIfIdle d).straps = s.straps ∧ (s.handIfIdle d).dests = s.dests ∧
    (s.handIfIdle d).srcs = s.srcs ∧ (s.handIfIdle d).pool = s.pool ∧ (s.handIfIdle d).registry = s.registry ∧
    (s.handIfIdle d).store = s.store ∧ (s.handIfIdle d).domains = s.domains ∧ (s.handIfIdle d).bus = s.bus ∧
    (s.handIfIdle d).walls = s.walls ∧ (s.handIfIdle d).ports = s.ports ∧ (s.handIfIdle d).router = s.router ∧
    (s.handIfIdle d).gpis = s.gpis ∧ (s.handIfIdle d).cmps = s.cmps ∧ (s.handIfIdle d).link = s.link ∧
    (s.handIfIdle d).flags = s.flags ∧ (s.handIfIdle d).wallRx = s.wallRx ∧
    (s.handIfIdle d).recorderRx = s.recorderRx ∧ (s.handIfIdle d).choices = s.choices ∧
    (s.handIfIdle d).pending = s.pending :=
  by
  simp only [handIfIdle]
  repeat' split
  all_goals simp

@[simp] theorem endTake_frame (s : State) (i : Slot) (r : TakeOutcome) :
    (s.endTake i r).now = s.now ∧ (s.endTake i r).straps = s.straps ∧ (s.endTake i r).dests = s.dests ∧
    (s.endTake i r).srcs = s.srcs ∧ (s.endTake i r).registry = s.registry ∧ (s.endTake i r).store = s.store ∧
    (s.endTake i r).domains = s.domains ∧ (s.endTake i r).walls = s.walls ∧ (s.endTake i r).ports = s.ports ∧
    (s.endTake i r).router = s.router ∧ (s.endTake i r).gpis = s.gpis ∧ (s.endTake i r).cmps = s.cmps ∧
    (s.endTake i r).link = s.link ∧ (s.endTake i r).flags = s.flags ∧ (s.endTake i r).wallRx = s.wallRx ∧
    (s.endTake i r).recorderRx = s.recorderRx ∧ (s.endTake i r).choices = s.choices ∧
    (s.endTake i r).pending = s.pending :=
  by
  simp only [endTake]
  repeat' split
  all_goals simp

@[simp] theorem endAll_frame (s : State) (l : List Slot) (r : TakeOutcome) :
    (s.endAll l r).now = s.now ∧ (s.endAll l r).straps = s.straps ∧ (s.endAll l r).dests = s.dests ∧
    (s.endAll l r).srcs = s.srcs ∧ (s.endAll l r).registry = s.registry ∧ (s.endAll l r).store = s.store ∧
    (s.endAll l r).domains = s.domains ∧ (s.endAll l r).walls = s.walls ∧ (s.endAll l r).ports = s.ports ∧
    (s.endAll l r).router = s.router ∧ (s.endAll l r).gpis = s.gpis ∧ (s.endAll l r).cmps = s.cmps ∧
    (s.endAll l r).link = s.link ∧ (s.endAll l r).flags = s.flags ∧ (s.endAll l r).wallRx = s.wallRx ∧
    (s.endAll l r).recorderRx = s.recorderRx ∧ (s.endAll l r).choices = s.choices ∧
    (s.endAll l r).pending = s.pending :=
  by
  simp only [endAll]
  exact ⟨foldl_keep (·.now) _ (by intros; simp) _ _,
    foldl_keep (·.straps) _ (by intros; simp) _ _,
    foldl_keep (·.dests) _ (by intros; simp) _ _,
    foldl_keep (·.srcs) _ (by intros; simp) _ _,
    foldl_keep (·.registry) _ (by intros; simp) _ _,
    foldl_keep (·.store) _ (by intros; simp) _ _,
    foldl_keep (·.domains) _ (by intros; simp) _ _,
    foldl_keep (·.walls) _ (by intros; simp) _ _,
    foldl_keep (·.ports) _ (by intros; simp) _ _,
    foldl_keep (·.router) _ (by intros; simp) _ _,
    foldl_keep (·.gpis) _ (by intros; simp) _ _,
    foldl_keep (·.cmps) _ (by intros; simp) _ _,
    foldl_keep (·.link) _ (by intros; simp) _ _,
    foldl_keep (·.flags) _ (by intros; simp) _ _,
    foldl_keep (·.wallRx) _ (by intros; simp) _ _,
    foldl_keep (·.recorderRx) _ (by intros; simp) _ _,
    foldl_keep (·.choices) _ (by intros; simp) _ _,
    foldl_keep (·.pending) _ (by intros; simp) _ _⟩

@[simp] theorem retestHold_frame (s : State) (d : Dest) :
    (s.retestHold d).now = s.now ∧ (s.retestHold d).straps = s.straps ∧ (s.retestHold d).dests = s.dests ∧
    (s.retestHold d).srcs = s.srcs ∧ (s.retestHold d).registry = s.registry ∧
    (s.retestHold d).store = s.store ∧ (s.retestHold d).domains = s.domains ∧ (s.retestHold d).bus = s.bus ∧
    (s.retestHold d).walls = s.walls ∧ (s.retestHold d).ports = s.ports ∧ (s.retestHold d).router = s.router ∧
    (s.retestHold d).gpis = s.gpis ∧ (s.retestHold d).cmps = s.cmps ∧ (s.retestHold d).link = s.link ∧
    (s.retestHold d).flags = s.flags ∧ (s.retestHold d).wallRx = s.wallRx ∧
    (s.retestHold d).recorderRx = s.recorderRx ∧ (s.retestHold d).handed = s.handed ∧
    (s.retestHold d).choices = s.choices ∧ (s.retestHold d).pending = s.pending :=
  by
  simp only [retestHold]
  repeat' split
  all_goals simp

@[simp] theorem allocate_frame (s : State) (i : Slot) (q : AdmitFields) (p : Option EndedTake) :
    (s.allocate i q p).now = s.now ∧ (s.allocate i q p).straps = s.straps ∧
    (s.allocate i q p).dests = s.dests ∧ (s.allocate i q p).srcs = s.srcs ∧
    (s.allocate i q p).registry = s.registry ∧ (s.allocate i q p).store = s.store ∧
    (s.allocate i q p).domains = s.domains ∧ (s.allocate i q p).bus = s.bus ∧
    (s.allocate i q p).walls = s.walls ∧ (s.allocate i q p).ports = s.ports ∧
    (s.allocate i q p).router = s.router ∧ (s.allocate i q p).gpis = s.gpis ∧
    (s.allocate i q p).cmps = s.cmps ∧ (s.allocate i q p).link = s.link ∧ (s.allocate i q p).flags = s.flags ∧
    (s.allocate i q p).wallRx = s.wallRx ∧ (s.allocate i q p).recorderRx = s.recorderRx ∧
    (s.allocate i q p).choices = s.choices ∧ (s.allocate i q p).pending = s.pending :=
  by
  simp only [allocate]
  repeat' split
  all_goals simp

theorem admitTake_frame {s t : State} {q : AdmitFields} {a : Admitted} (h : s.admitTake q = some (a, t)) :
    t.now = s.now ∧ t.straps = s.straps ∧ t.dests = s.dests ∧ t.srcs = s.srcs ∧ t.registry = s.registry ∧
    t.store = s.store ∧ t.domains = s.domains ∧ t.walls = s.walls ∧ t.ports = s.ports ∧ t.router = s.router ∧
    t.gpis = s.gpis ∧ t.cmps = s.cmps ∧ t.link = s.link ∧ t.flags = s.flags ∧ t.wallRx = s.wallRx ∧
    t.recorderRx = s.recorderRx ∧ t.choices = s.choices ∧ t.pending = s.pending := by
  simp only [admitTake] at h
  repeat' split at h
  all_goals cases h
  all_goals simp

@[simp] theorem sendUpdate_frame (s : State) (w : Wall) :
    (s.sendUpdate w).now = s.now ∧ (s.sendUpdate w).straps = s.straps ∧ (s.sendUpdate w).dests = s.dests ∧
    (s.sendUpdate w).srcs = s.srcs ∧ (s.sendUpdate w).pool = s.pool ∧ (s.sendUpdate w).registry = s.registry ∧
    (s.sendUpdate w).store = s.store ∧ (s.sendUpdate w).domains = s.domains ∧ (s.sendUpdate w).bus = s.bus ∧
    (s.sendUpdate w).ports = s.ports ∧ (s.sendUpdate w).router = s.router ∧ (s.sendUpdate w).gpis = s.gpis ∧
    (s.sendUpdate w).cmps = s.cmps ∧ (s.sendUpdate w).link = s.link ∧ (s.sendUpdate w).flags = s.flags ∧
    (s.sendUpdate w).wallRx = s.wallRx ∧ (s.sendUpdate w).recorderRx = s.recorderRx ∧
    (s.sendUpdate w).handed = s.handed ∧ (s.sendUpdate w).choices = s.choices ∧
    (s.sendUpdate w).pending = s.pending :=
  by
  simp only [sendUpdate]
  repeat' split
  all_goals simp

@[simp] theorem markWall_frame (s : State) (h : List Handed) (w : Wall) :
    (s.markWall h w).now = s.now ∧ (s.markWall h w).straps = s.straps ∧ (s.markWall h w).dests = s.dests ∧
    (s.markWall h w).srcs = s.srcs ∧ (s.markWall h w).pool = s.pool ∧ (s.markWall h w).registry = s.registry ∧
    (s.markWall h w).store = s.store ∧ (s.markWall h w).domains = s.domains ∧ (s.markWall h w).bus = s.bus ∧
    (s.markWall h w).ports = s.ports ∧ (s.markWall h w).router = s.router ∧ (s.markWall h w).gpis = s.gpis ∧
    (s.markWall h w).cmps = s.cmps ∧ (s.markWall h w).link = s.link ∧ (s.markWall h w).flags = s.flags ∧
    (s.markWall h w).wallRx = s.wallRx ∧ (s.markWall h w).recorderRx = s.recorderRx ∧
    (s.markWall h w).handed = s.handed ∧ (s.markWall h w).choices = s.choices ∧
    (s.markWall h w).pending = s.pending :=
  by
  simp only [markWall]
  all_goals simp

@[simp] theorem settleWalls_frame (s : State) :
    s.settleWalls.now = s.now ∧ s.settleWalls.straps = s.straps ∧ s.settleWalls.dests = s.dests ∧
    s.settleWalls.srcs = s.srcs ∧ s.settleWalls.pool = s.pool ∧ s.settleWalls.registry = s.registry ∧
    s.settleWalls.store = s.store ∧ s.settleWalls.domains = s.domains ∧ s.settleWalls.bus = s.bus ∧
    s.settleWalls.ports = s.ports ∧ s.settleWalls.router = s.router ∧ s.settleWalls.gpis = s.gpis ∧
    s.settleWalls.cmps = s.cmps ∧ s.settleWalls.link = s.link ∧ s.settleWalls.flags = s.flags ∧
    s.settleWalls.wallRx = s.wallRx ∧ s.settleWalls.recorderRx = s.recorderRx ∧
    s.settleWalls.choices = s.choices ∧ s.settleWalls.pending = s.pending :=
  by
  unfold settleWalls
  split
  · simp
  · exact ⟨foldl_keep (·.now) _ (by intros; simp) _ _,
      foldl_keep (·.straps) _ (by intros; simp) _ _,
      foldl_keep (·.dests) _ (by intros; simp) _ _,
      foldl_keep (·.srcs) _ (by intros; simp) _ _,
      foldl_keep (·.pool) _ (by intros; simp) _ _,
      foldl_keep (·.registry) _ (by intros; simp) _ _,
      foldl_keep (·.store) _ (by intros; simp) _ _,
      foldl_keep (·.domains) _ (by intros; simp) _ _,
      foldl_keep (·.bus) _ (by intros; simp) _ _,
      foldl_keep (·.ports) _ (by intros; simp) _ _,
      foldl_keep (·.router) _ (by intros; simp) _ _,
      foldl_keep (·.gpis) _ (by intros; simp) _ _,
      foldl_keep (·.cmps) _ (by intros; simp) _ _,
      foldl_keep (·.link) _ (by intros; simp) _ _,
      foldl_keep (·.flags) _ (by intros; simp) _ _,
      foldl_keep (·.wallRx) _ (by intros; simp) _ _,
      foldl_keep (·.recorderRx) _ (by intros; simp) _ _,
      foldl_keep (·.choices) _ (by intros; simp) _ _,
      foldl_keep (·.pending) _ (by intros; simp) _ _⟩

@[simp] theorem fullRefresh_frame (s : State) (w : Wall) :
    (s.fullRefresh w).now = s.now ∧ (s.fullRefresh w).straps = s.straps ∧ (s.fullRefresh w).dests = s.dests ∧
    (s.fullRefresh w).srcs = s.srcs ∧ (s.fullRefresh w).pool = s.pool ∧
    (s.fullRefresh w).registry = s.registry ∧ (s.fullRefresh w).store = s.store ∧
    (s.fullRefresh w).domains = s.domains ∧ (s.fullRefresh w).bus = s.bus ∧ (s.fullRefresh w).ports = s.ports ∧
    (s.fullRefresh w).router = s.router ∧ (s.fullRefresh w).gpis = s.gpis ∧ (s.fullRefresh w).cmps = s.cmps ∧
    (s.fullRefresh w).link = s.link ∧ (s.fullRefresh w).flags = s.flags ∧ (s.fullRefresh w).wallRx = s.wallRx ∧
    (s.fullRefresh w).recorderRx = s.recorderRx ∧ (s.fullRefresh w).handed = s.handed ∧
    (s.fullRefresh w).choices = s.choices ∧ (s.fullRefresh w).pending = s.pending :=
  by
  simp only [fullRefresh]
  all_goals simp

@[simp] theorem refreshWall_frame (s : State) (w : Wall) :
    (s.refreshWall w).now = s.now ∧ (s.refreshWall w).straps = s.straps ∧ (s.refreshWall w).dests = s.dests ∧
    (s.refreshWall w).srcs = s.srcs ∧ (s.refreshWall w).pool = s.pool ∧
    (s.refreshWall w).registry = s.registry ∧ (s.refreshWall w).store = s.store ∧
    (s.refreshWall w).domains = s.domains ∧ (s.refreshWall w).bus = s.bus ∧ (s.refreshWall w).ports = s.ports ∧
    (s.refreshWall w).router = s.router ∧ (s.refreshWall w).gpis = s.gpis ∧ (s.refreshWall w).cmps = s.cmps ∧
    (s.refreshWall w).link = s.link ∧ (s.refreshWall w).flags = s.flags ∧ (s.refreshWall w).wallRx = s.wallRx ∧
    (s.refreshWall w).recorderRx = s.recorderRx ∧ (s.refreshWall w).handed = s.handed ∧
    (s.refreshWall w).choices = s.choices ∧ (s.refreshWall w).pending = s.pending :=
  by
  simp only [refreshWall]
  repeat' split
  all_goals simp

@[simp] theorem reportedChanged_frame (s : State) (p : Port) (r : RecorderState) :
    (s.reportedChanged p r).now = s.now ∧ (s.reportedChanged p r).straps = s.straps ∧
    (s.reportedChanged p r).dests = s.dests ∧ (s.reportedChanged p r).registry = s.registry ∧
    (s.reportedChanged p r).store = s.store ∧ (s.reportedChanged p r).domains = s.domains ∧
    (s.reportedChanged p r).bus = s.bus ∧ (s.reportedChanged p r).walls = s.walls ∧
    (s.reportedChanged p r).ports = s.ports ∧ (s.reportedChanged p r).router = s.router ∧
    (s.reportedChanged p r).gpis = s.gpis ∧ (s.reportedChanged p r).cmps = s.cmps ∧
    (s.reportedChanged p r).link = s.link ∧ (s.reportedChanged p r).flags = s.flags ∧
    (s.reportedChanged p r).wallRx = s.wallRx ∧ (s.reportedChanged p r).recorderRx = s.recorderRx ∧
    (s.reportedChanged p r).choices = s.choices ∧ (s.reportedChanged p r).pending = s.pending :=
  by
  simp only [reportedChanged]
  repeat' split
  all_goals simp

@[simp] theorem queueCommand_frame (s : State) (p : Port) (c : RecorderCommand) :
    (s.queueCommand p c).2.2.now = s.now ∧ (s.queueCommand p c).2.2.straps = s.straps ∧
    (s.queueCommand p c).2.2.dests = s.dests ∧ (s.queueCommand p c).2.2.srcs = s.srcs ∧
    (s.queueCommand p c).2.2.pool = s.pool ∧ (s.queueCommand p c).2.2.registry = s.registry ∧
    (s.queueCommand p c).2.2.store = s.store ∧ (s.queueCommand p c).2.2.domains = s.domains ∧
    (s.queueCommand p c).2.2.bus = s.bus ∧ (s.queueCommand p c).2.2.walls = s.walls ∧
    (s.queueCommand p c).2.2.router = s.router ∧ (s.queueCommand p c).2.2.gpis = s.gpis ∧
    (s.queueCommand p c).2.2.cmps = s.cmps ∧ (s.queueCommand p c).2.2.link = s.link ∧
    (s.queueCommand p c).2.2.flags = s.flags ∧ (s.queueCommand p c).2.2.wallRx = s.wallRx ∧
    (s.queueCommand p c).2.2.recorderRx = s.recorderRx ∧ (s.queueCommand p c).2.2.handed = s.handed ∧
    (s.queueCommand p c).2.2.choices = s.choices ∧ (s.queueCommand p c).2.2.pending = s.pending :=
  by
  simp only [queueCommand]
  repeat' split
  all_goals simp

@[simp] theorem domainStop_frame (s : State) (d : Dom) :
    (s.domainStop d).now = s.now ∧ (s.domainStop d).straps = s.straps ∧ (s.domainStop d).dests = s.dests ∧
    (s.domainStop d).srcs = s.srcs ∧ (s.domainStop d).registry = s.registry ∧
    (s.domainStop d).store = s.store ∧ (s.domainStop d).walls = s.walls ∧ (s.domainStop d).ports = s.ports ∧
    (s.domainStop d).router = s.router ∧ (s.domainStop d).gpis = s.gpis ∧ (s.domainStop d).cmps = s.cmps ∧
    (s.domainStop d).link = s.link ∧ (s.domainStop d).flags = s.flags ∧ (s.domainStop d).wallRx = s.wallRx ∧
    (s.domainStop d).recorderRx = s.recorderRx ∧ (s.domainStop d).handed = s.handed ∧
    (s.domainStop d).choices = s.choices ∧ (s.domainStop d).pending = s.pending :=
  by
  simp only [domainStop]
  all_goals simp

@[simp] theorem setLock_frame (s : State) (d : Dom) (l : LockState) :
    (s.setLock d l).now = s.now ∧ (s.setLock d l).straps = s.straps ∧ (s.setLock d l).dests = s.dests ∧
    (s.setLock d l).srcs = s.srcs ∧ (s.setLock d l).registry = s.registry ∧ (s.setLock d l).store = s.store ∧
    (s.setLock d l).walls = s.walls ∧ (s.setLock d l).ports = s.ports ∧ (s.setLock d l).router = s.router ∧
    (s.setLock d l).gpis = s.gpis ∧ (s.setLock d l).cmps = s.cmps ∧ (s.setLock d l).link = s.link ∧
    (s.setLock d l).wallRx = s.wallRx ∧ (s.setLock d l).recorderRx = s.recorderRx ∧
    (s.setLock d l).handed = s.handed ∧ (s.setLock d l).choices = s.choices ∧
    (s.setLock d l).pending = s.pending :=
  by
  simp only [setLock]
  repeat' split
  all_goals simp

@[simp] theorem flushDomain_frame (s : State) (d : Dom) :
    (s.flushDomain d).now = s.now ∧ (s.flushDomain d).straps = s.straps ∧ (s.flushDomain d).dests = s.dests ∧
    (s.flushDomain d).srcs = s.srcs ∧ (s.flushDomain d).registry = s.registry ∧
    (s.flushDomain d).store = s.store ∧ (s.flushDomain d).domains = s.domains ∧
    (s.flushDomain d).walls = s.walls ∧ (s.flushDomain d).ports = s.ports ∧
    (s.flushDomain d).router = s.router ∧ (s.flushDomain d).gpis = s.gpis ∧ (s.flushDomain d).cmps = s.cmps ∧
    (s.flushDomain d).link = s.link ∧ (s.flushDomain d).flags = s.flags ∧ (s.flushDomain d).wallRx = s.wallRx ∧
    (s.flushDomain d).recorderRx = s.recorderRx ∧ (s.flushDomain d).choices = s.choices ∧
    (s.flushDomain d).pending = s.pending :=
  by
  simp only [flushDomain]
  all_goals simp

@[simp] theorem closeIfEmpty_frame (s : State) (d : Dom) :
    (s.closeIfEmpty d).now = s.now ∧ (s.closeIfEmpty d).straps = s.straps ∧
    (s.closeIfEmpty d).dests = s.dests ∧ (s.closeIfEmpty d).srcs = s.srcs ∧
    (s.closeIfEmpty d).registry = s.registry ∧ (s.closeIfEmpty d).store = s.store ∧
    (s.closeIfEmpty d).walls = s.walls ∧ (s.closeIfEmpty d).ports = s.ports ∧
    (s.closeIfEmpty d).router = s.router ∧ (s.closeIfEmpty d).gpis = s.gpis ∧
    (s.closeIfEmpty d).cmps = s.cmps ∧ (s.closeIfEmpty d).link = s.link ∧
    (s.closeIfEmpty d).wallRx = s.wallRx ∧ (s.closeIfEmpty d).recorderRx = s.recorderRx ∧
    (s.closeIfEmpty d).handed = s.handed ∧ (s.closeIfEmpty d).choices = s.choices ∧
    (s.closeIfEmpty d).pending = s.pending :=
  by
  simp only [closeIfEmpty]
  repeat' split
  all_goals simp

@[simp] theorem serveClosing_frame (s : State) (d : Dom) :
    (s.serveClosing d).now = s.now ∧ (s.serveClosing d).straps = s.straps ∧
    (s.serveClosing d).dests = s.dests ∧ (s.serveClosing d).srcs = s.srcs ∧
    (s.serveClosing d).registry = s.registry ∧ (s.serveClosing d).store = s.store ∧
    (s.serveClosing d).walls = s.walls ∧ (s.serveClosing d).ports = s.ports ∧
    (s.serveClosing d).router = s.router ∧ (s.serveClosing d).gpis = s.gpis ∧
    (s.serveClosing d).cmps = s.cmps ∧ (s.serveClosing d).link = s.link ∧
    (s.serveClosing d).wallRx = s.wallRx ∧ (s.serveClosing d).recorderRx = s.recorderRx ∧
    (s.serveClosing d).choices = s.choices ∧ (s.serveClosing d).pending = s.pending :=
  by
  simp only [serveClosing]
  repeat' split
  all_goals simp

@[simp] theorem serveClosings_frame (s : State) :
    s.serveClosings.now = s.now ∧ s.serveClosings.straps = s.straps ∧ s.serveClosings.dests = s.dests ∧
    s.serveClosings.srcs = s.srcs ∧ s.serveClosings.registry = s.registry ∧ s.serveClosings.store = s.store ∧
    s.serveClosings.walls = s.walls ∧ s.serveClosings.ports = s.ports ∧ s.serveClosings.router = s.router ∧
    s.serveClosings.gpis = s.gpis ∧ s.serveClosings.cmps = s.cmps ∧ s.serveClosings.link = s.link ∧
    s.serveClosings.wallRx = s.wallRx ∧ s.serveClosings.recorderRx = s.recorderRx ∧
    s.serveClosings.choices = s.choices ∧ s.serveClosings.pending = s.pending :=
  by
  simp only [serveClosings]
  all_goals simp

@[simp] theorem settle_frame (s : State) :
    s.settle.now = s.now ∧ s.settle.straps = s.straps ∧ s.settle.dests = s.dests ∧ s.settle.srcs = s.srcs ∧
    s.settle.registry = s.registry ∧ s.settle.store = s.store ∧ s.settle.ports = s.ports ∧
    s.settle.router = s.router ∧ s.settle.gpis = s.gpis ∧ s.settle.cmps = s.cmps ∧ s.settle.link = s.link ∧
    s.settle.wallRx = s.wallRx ∧ s.settle.recorderRx = s.recorderRx ∧ s.settle.choices = s.choices ∧
    s.settle.pending = s.pending :=
  by
  simp only [settle]
  all_goals simp

@[simp] theorem admitMember_frame (f : Firing) (g : Group) (s : State) (j : Judged) :
    (admitMember f g s j).now = s.now ∧ (admitMember f g s j).straps = s.straps ∧
    (admitMember f g s j).dests = s.dests ∧ (admitMember f g s j).srcs = s.srcs ∧
    (admitMember f g s j).registry = s.registry ∧ (admitMember f g s j).store = s.store ∧
    (admitMember f g s j).domains = s.domains ∧ (admitMember f g s j).walls = s.walls ∧
    (admitMember f g s j).ports = s.ports ∧ (admitMember f g s j).router = s.router ∧
    (admitMember f g s j).gpis = s.gpis ∧ (admitMember f g s j).cmps = s.cmps ∧
    (admitMember f g s j).link = s.link ∧ (admitMember f g s j).flags = s.flags ∧
    (admitMember f g s j).wallRx = s.wallRx ∧ (admitMember f g s j).recorderRx = s.recorderRx ∧
    (admitMember f g s j).choices = s.choices ∧ (admitMember f g s j).pending = s.pending :=
  by
  simp only [admitMember]
  split
  · rename_i h; simp [admitTake_frame h]
  · simp

@[simp] theorem admitGroup_frame (s : State) (f : Firing) (js : List Judged) (x : Option (Status × Dest)) :
    (s.admitGroup f js x).2.now = s.now ∧ (s.admitGroup f js x).2.straps = s.straps ∧
    (s.admitGroup f js x).2.dests = s.dests ∧ (s.admitGroup f js x).2.srcs = s.srcs ∧
    (s.admitGroup f js x).2.registry = s.registry ∧ (s.admitGroup f js x).2.domains = s.domains ∧
    (s.admitGroup f js x).2.walls = s.walls ∧ (s.admitGroup f js x).2.ports = s.ports ∧
    (s.admitGroup f js x).2.router = s.router ∧ (s.admitGroup f js x).2.gpis = s.gpis ∧
    (s.admitGroup f js x).2.cmps = s.cmps ∧ (s.admitGroup f js x).2.link = s.link ∧
    (s.admitGroup f js x).2.flags = s.flags ∧ (s.admitGroup f js x).2.wallRx = s.wallRx ∧
    (s.admitGroup f js x).2.recorderRx = s.recorderRx ∧ (s.admitGroup f js x).2.choices = s.choices ∧
    (s.admitGroup f js x).2.pending = s.pending :=
  by
  simp only [admitGroup]
  split
  · simp
  · exact ⟨foldl_keep (·.now) _ (by intros; simp) _ _,
      foldl_keep (·.straps) _ (by intros; simp) _ _,
      foldl_keep (·.dests) _ (by intros; simp) _ _,
      foldl_keep (·.srcs) _ (by intros; simp) _ _,
      foldl_keep (·.registry) _ (by intros; simp) _ _,
      foldl_keep (·.domains) _ (by intros; simp) _ _,
      foldl_keep (·.walls) _ (by intros; simp) _ _,
      foldl_keep (·.ports) _ (by intros; simp) _ _,
      foldl_keep (·.router) _ (by intros; simp) _ _,
      foldl_keep (·.gpis) _ (by intros; simp) _ _,
      foldl_keep (·.cmps) _ (by intros; simp) _ _,
      foldl_keep (·.link) _ (by intros; simp) _ _,
      foldl_keep (·.flags) _ (by intros; simp) _ _,
      foldl_keep (·.wallRx) _ (by intros; simp) _ _,
      foldl_keep (·.recorderRx) _ (by intros; simp) _ _,
      foldl_keep (·.choices) _ (by intros; simp) _ _,
      foldl_keep (·.pending) _ (by intros; simp) _ _⟩

@[simp] theorem fireEntries_frame (s : State) (f : Firing) (l : List (Dest × Src)) :
    (s.fireEntries f l).2.now = s.now ∧ (s.fireEntries f l).2.straps = s.straps ∧
    (s.fireEntries f l).2.dests = s.dests ∧ (s.fireEntries f l).2.srcs = s.srcs ∧
    (s.fireEntries f l).2.registry = s.registry ∧ (s.fireEntries f l).2.domains = s.domains ∧
    (s.fireEntries f l).2.walls = s.walls ∧ (s.fireEntries f l).2.ports = s.ports ∧
    (s.fireEntries f l).2.router = s.router ∧ (s.fireEntries f l).2.gpis = s.gpis ∧
    (s.fireEntries f l).2.cmps = s.cmps ∧ (s.fireEntries f l).2.link = s.link ∧
    (s.fireEntries f l).2.flags = s.flags ∧ (s.fireEntries f l).2.wallRx = s.wallRx ∧
    (s.fireEntries f l).2.recorderRx = s.recorderRx ∧ (s.fireEntries f l).2.choices = s.choices ∧
    (s.fireEntries f l).2.pending = s.pending :=
  by
  simp only [fireEntries]
  repeat' split
  all_goals simp

@[simp] theorem fireSalvo_frame (s : State) (n : Salvo) (f : Firing) :
    (s.fireSalvo n f).2.now = s.now ∧ (s.fireSalvo n f).2.straps = s.straps ∧
    (s.fireSalvo n f).2.dests = s.dests ∧ (s.fireSalvo n f).2.srcs = s.srcs ∧
    (s.fireSalvo n f).2.registry = s.registry ∧ (s.fireSalvo n f).2.domains = s.domains ∧
    (s.fireSalvo n f).2.walls = s.walls ∧ (s.fireSalvo n f).2.ports = s.ports ∧
    (s.fireSalvo n f).2.router = s.router ∧ (s.fireSalvo n f).2.gpis = s.gpis ∧
    (s.fireSalvo n f).2.cmps = s.cmps ∧ (s.fireSalvo n f).2.link = s.link ∧
    (s.fireSalvo n f).2.flags = s.flags ∧ (s.fireSalvo n f).2.wallRx = s.wallRx ∧
    (s.fireSalvo n f).2.recorderRx = s.recorderRx ∧ (s.fireSalvo n f).2.choices = s.choices ∧
    (s.fireSalvo n f).2.pending = s.pending :=
  by
  simp only [fireSalvo]
  split
  · simp
  · split
    · simp
    · have h := s.fireEntries_frame f (look s.store.salvos n)
      split
      · rename_i e; rw [e] at h; simpa using h
      · exact h

end Sys2Proof.Machine.State
end

