-- ==== Sys2Proof/Laws/EventFrames.lean ====
section
/-! SUPPORT. What windows, events and the lock-state machine leave alone. -/

namespace Sys2Proof.Machine.State

@[simp] theorem faultDest_frame (s : State) (i : Slot) (d : Dest) :
    (s.faultDest i d).now = s.now ∧ (s.faultDest i d).straps = s.straps ∧ (s.faultDest i d).srcs = s.srcs ∧
    (s.faultDest i d).registry = s.registry ∧ (s.faultDest i d).store = s.store ∧
    (s.faultDest i d).domains = s.domains ∧ (s.faultDest i d).walls = s.walls ∧
    (s.faultDest i d).ports = s.ports ∧ (s.faultDest i d).router = s.router ∧ (s.faultDest i d).gpis = s.gpis ∧
    (s.faultDest i d).cmps = s.cmps ∧ (s.faultDest i d).link = s.link ∧ (s.faultDest i d).wallRx = s.wallRx ∧
    (s.faultDest i d).recorderRx = s.recorderRx ∧ (s.faultDest i d).choices = s.choices ∧
    (s.faultDest i d).pending = s.pending :=
  by
  simp only [faultDest]
  repeat' split
  all_goals simp

@[simp] theorem judgeDeadline_frame (d : Dom) (s : State) (i : Slot) :
    (judgeDeadline d s i).now = s.now ∧ (judgeDeadline d s i).straps = s.straps ∧
    (judgeDeadline d s i).srcs = s.srcs ∧ (judgeDeadline d s i).registry = s.registry ∧
    (judgeDeadline d s i).store = s.store ∧ (judgeDeadline d s i).domains = s.domains ∧
    (judgeDeadline d s i).walls = s.walls ∧ (judgeDeadline d s i).ports = s.ports ∧
    (judgeDeadline d s i).router = s.router ∧ (judgeDeadline d s i).gpis = s.gpis ∧
    (judgeDeadline d s i).cmps = s.cmps ∧ (judgeDeadline d s i).link = s.link ∧
    (judgeDeadline d s i).wallRx = s.wallRx ∧ (judgeDeadline d s i).recorderRx = s.recorderRx ∧
    (judgeDeadline d s i).choices = s.choices ∧ (judgeDeadline d s i).pending = s.pending :=
  by
  simp only [judgeDeadline]
  repeat' split
  all_goals simp

@[simp] theorem judgeDeadlines_frame (s : State) (d : Dom) :
    (s.judgeDeadlines d).now = s.now ∧ (s.judgeDeadlines d).straps = s.straps ∧
    (s.judgeDeadlines d).srcs = s.srcs ∧ (s.judgeDeadlines d).registry = s.registry ∧
    (s.judgeDeadlines d).store = s.store ∧ (s.judgeDeadlines d).domains = s.domains ∧
    (s.judgeDeadlines d).walls = s.walls ∧ (s.judgeDeadlines d).ports = s.ports ∧
    (s.judgeDeadlines d).router = s.router ∧ (s.judgeDeadlines d).gpis = s.gpis ∧
    (s.judgeDeadlines d).cmps = s.cmps ∧ (s.judgeDeadlines d).link = s.link ∧
    (s.judgeDeadlines d).wallRx = s.wallRx ∧ (s.judgeDeadlines d).recorderRx = s.recorderRx ∧
    (s.judgeDeadlines d).choices = s.choices ∧ (s.judgeDeadlines d).pending = s.pending :=
  by
  simp only [judgeDeadlines]
  exact ⟨foldl_keep (·.now) _ (by intros; simp) _ _,
    foldl_keep (·.straps) _ (by intros; simp) _ _,
    foldl_keep (·.srcs) _ (by intros; simp) _ _,
    foldl_keep (·.registry) _ (by intros; simp) _ _,
    foldl_keep (·.store) _ (by intros; simp) _ _,
    foldl_keep (·.domains) _ (by intros; simp) _ _,
    foldl_keep (·.walls) _ (by intros; simp) _ _,
    foldl_keep (·.ports) _ (by intros; simp) _ _,
    foldl_keep (·.router) _ (by intros; simp) _ _,
    foldl_keep (·.gpis) _ (by intros; simp) _ _,
    foldl_keep (·.cmps) _ (by intros; simp) _ _,
    foldl_keep (·.link) _ (by intros; simp) _ _,
    foldl_keep (·.wallRx) _ (by intros; simp) _ _,
    foldl_keep (·.recorderRx) _ (by intros; simp) _ _,
    foldl_keep (·.choices) _ (by intros; simp) _ _,
    foldl_keep (·.pending) _ (by intros; simp) _ _⟩

@[simp] theorem dropTimers_frame (s : State) (d : Dom) :
    (s.dropTimers d).now = s.now ∧ (s.dropTimers d).straps = s.straps ∧ (s.dropTimers d).dests = s.dests ∧
    (s.dropTimers d).srcs = s.srcs ∧ (s.dropTimers d).pool = s.pool ∧ (s.dropTimers d).registry = s.registry ∧
    (s.dropTimers d).store = s.store ∧ (s.dropTimers d).domains = s.domains ∧
    (s.dropTimers d).walls = s.walls ∧ (s.dropTimers d).ports = s.ports ∧ (s.dropTimers d).router = s.router ∧
    (s.dropTimers d).gpis = s.gpis ∧ (s.dropTimers d).cmps = s.cmps ∧ (s.dropTimers d).link = s.link ∧
    (s.dropTimers d).flags = s.flags ∧ (s.dropTimers d).wallRx = s.wallRx ∧
    (s.dropTimers d).recorderRx = s.recorderRx ∧ (s.dropTimers d).handed = s.handed ∧
    (s.dropTimers d).choices = s.choices ∧ (s.dropTimers d).pending = s.pending :=
  by
  simp only [dropTimers]
  all_goals simp

@[simp] theorem moveCursor_frame (s : State) (d : Dom) (l : List Dest) :
    (s.moveCursor d l).now = s.now ∧ (s.moveCursor d l).straps = s.straps ∧
    (s.moveCursor d l).dests = s.dests ∧ (s.moveCursor d l).srcs = s.srcs ∧ (s.moveCursor d l).pool = s.pool ∧
    (s.moveCursor d l).registry = s.registry ∧ (s.moveCursor d l).store = s.store ∧
    (s.moveCursor d l).domains = s.domains ∧ (s.moveCursor d l).walls = s.walls ∧
    (s.moveCursor d l).ports = s.ports ∧ (s.moveCursor d l).router = s.router ∧
    (s.moveCursor d l).gpis = s.gpis ∧ (s.moveCursor d l).cmps = s.cmps ∧ (s.moveCursor d l).link = s.link ∧
    (s.moveCursor d l).flags = s.flags ∧ (s.moveCursor d l).wallRx = s.wallRx ∧
    (s.moveCursor d l).recorderRx = s.recorderRx ∧ (s.moveCursor d l).handed = s.handed ∧
    (s.moveCursor d l).choices = s.choices ∧ (s.moveCursor d l).pending = s.pending :=
  by
  simp only [moveCursor]
  repeat' split
  all_goals simp

@[simp] theorem forcedScrub_frame (s : State) (d : Dom) :
    (s.forcedScrub d).state.now = s.now ∧ (s.forcedScrub d).state.straps = s.straps ∧
    (s.forcedScrub d).state.dests = s.dests ∧ (s.forcedScrub d).state.srcs = s.srcs ∧
    (s.forcedScrub d).state.pool = s.pool ∧ (s.forcedScrub d).state.registry = s.registry ∧
    (s.forcedScrub d).state.store = s.store ∧ (s.forcedScrub d).state.domains = s.domains ∧
    (s.forcedScrub d).state.walls = s.walls ∧ (s.forcedScrub d).state.ports = s.ports ∧
    (s.forcedScrub d).state.router = s.router ∧ (s.forcedScrub d).state.gpis = s.gpis ∧
    (s.forcedScrub d).state.cmps = s.cmps ∧ (s.forcedScrub d).state.link = s.link ∧
    (s.forcedScrub d).state.flags = s.flags ∧ (s.forcedScrub d).state.wallRx = s.wallRx ∧
    (s.forcedScrub d).state.recorderRx = s.recorderRx ∧ (s.forcedScrub d).state.handed = s.handed ∧
    (s.forcedScrub d).state.choices = s.choices ∧ (s.forcedScrub d).state.pending = s.pending :=
  by
  simp only [forcedScrub]
  repeat' split
  all_goals simp

@[simp] theorem ordinaryScrub_frame (g : Grant) (d : Dom) (l : List Dest) :
    (ordinaryScrub g d l).state.now = g.state.now ∧ (ordinaryScrub g d l).state.straps = g.state.straps ∧
    (ordinaryScrub g d l).state.dests = g.state.dests ∧ (ordinaryScrub g d l).state.srcs = g.state.srcs ∧
    (ordinaryScrub g d l).state.pool = g.state.pool ∧ (ordinaryScrub g d l).state.registry = g.state.registry ∧
    (ordinaryScrub g d l).state.store = g.state.store ∧ (ordinaryScrub g d l).state.domains = g.state.domains ∧
    (ordinaryScrub g d l).state.walls = g.state.walls ∧ (ordinaryScrub g d l).state.ports = g.state.ports ∧
    (ordinaryScrub g d l).state.router = g.state.router ∧ (ordinaryScrub g d l).state.gpis = g.state.gpis ∧
    (ordinaryScrub g d l).state.cmps = g.state.cmps ∧ (ordinaryScrub g d l).state.link = g.state.link ∧
    (ordinaryScrub g d l).state.flags = g.state.flags ∧ (ordinaryScrub g d l).state.wallRx = g.state.wallRx ∧
    (ordinaryScrub g d l).state.recorderRx = g.state.recorderRx ∧ (ordinaryScrub g d l).state.handed = g.state.handed ∧
    (ordinaryScrub g d l).state.choices = g.state.choices ∧ (ordinaryScrub g d l).state.pending = g.state.pending :=
  by
  simp only [ordinaryScrub]
  all_goals simp

@[simp] theorem reissue_frame (n : U32) (s : State) (t : Tag) :
    (reissue n s t).now = s.now ∧ (reissue n s t).straps = s.straps ∧ (reissue n s t).dests = s.dests ∧
    (reissue n s t).srcs = s.srcs ∧ (reissue n s t).registry = s.registry ∧ (reissue n s t).store = s.store ∧
    (reissue n s t).domains = s.domains ∧ (reissue n s t).bus = s.bus ∧ (reissue n s t).walls = s.walls ∧
    (reissue n s t).ports = s.ports ∧ (reissue n s t).router = s.router ∧ (reissue n s t).gpis = s.gpis ∧
    (reissue n s t).cmps = s.cmps ∧ (reissue n s t).link = s.link ∧ (reissue n s t).flags = s.flags ∧
    (reissue n s t).wallRx = s.wallRx ∧ (reissue n s t).recorderRx = s.recorderRx ∧
    (reissue n s t).handed = s.handed ∧ (reissue n s t).choices = s.choices ∧
    (reissue n s t).pending = s.pending :=
  by
  simp only [reissue]
  repeat' split
  all_goals simp

@[simp] theorem grantRetries_frame (g : Grant) (d : Dom) :
    (grantRetries g d).state.now = g.state.now ∧ (grantRetries g d).state.straps = g.state.straps ∧
    (grantRetries g d).state.dests = g.state.dests ∧ (grantRetries g d).state.srcs = g.state.srcs ∧
    (grantRetries g d).state.registry = g.state.registry ∧ (grantRetries g d).state.store = g.state.store ∧
    (grantRetries g d).state.domains = g.state.domains ∧ (grantRetries g d).state.walls = g.state.walls ∧
    (grantRetries g d).state.ports = g.state.ports ∧ (grantRetries g d).state.router = g.state.router ∧
    (grantRetries g d).state.gpis = g.state.gpis ∧ (grantRetries g d).state.cmps = g.state.cmps ∧
    (grantRetries g d).state.link = g.state.link ∧ (grantRetries g d).state.flags = g.state.flags ∧
    (grantRetries g d).state.wallRx = g.state.wallRx ∧
    (grantRetries g d).state.recorderRx = g.state.recorderRx ∧
    (grantRetries g d).state.handed = g.state.handed ∧ (grantRetries g d).state.choices = g.state.choices ∧
    (grantRetries g d).state.pending = g.state.pending :=
  ⟨foldl_keep (·.now) _ (by intros; simp) _ _,
      foldl_keep (·.straps) _ (by intros; simp) _ _,
      foldl_keep (·.dests) _ (by intros; simp) _ _,
      foldl_keep (·.srcs) _ (by intros; simp) _ _,
      foldl_keep (·.registry) _ (by intros; simp) _ _,
      foldl_keep (·.store) _ (by intros; simp) _ _,
      foldl_keep (·.domains) _ (by intros; simp) _ _,
      foldl_keep (·.walls) _ (by intros; simp) _ _,
      foldl_keep (·.ports) _ (by intros; simp) _ _,
      foldl_keep (·.router) _ (by intros; simp) _ _,
      foldl_keep (·.gpis) _ (by intros; simp) _ _,
      foldl_keep (·.cmps) _ (by intros; simp) _ _,
      foldl_keep (·.link) _ (by intros; simp) _ _,
      foldl_keep (·.flags) _ (by intros; simp) _ _,
      foldl_keep (·.wallRx) _ (by intros; simp) _ _,
      foldl_keep (·.recorderRx) _ (by intros; simp) _ _,
      foldl_keep (·.handed) _ (by intros; simp) _ _,
      foldl_keep (·.choices) _ (by intros; simp) _ _,
      foldl_keep (·.pending) _ (by intros; simp) _ _⟩

@[simp] theorem issue_frame (d : Dom) (s : State) (i : Slot) :
    (issue d s i).now = s.now ∧ (issue d s i).straps = s.straps ∧ (issue d s i).dests = s.dests ∧
    (issue d s i).srcs = s.srcs ∧ (issue d s i).registry = s.registry ∧ (issue d s i).store = s.store ∧
    (issue d s i).domains = s.domains ∧ (issue d s i).bus = s.bus ∧ (issue d s i).walls = s.walls ∧
    (issue d s i).router = s.router ∧ (issue d s i).gpis = s.gpis ∧ (issue d s i).cmps = s.cmps ∧
    (issue d s i).link = s.link ∧ (issue d s i).flags = s.flags ∧ (issue d s i).wallRx = s.wallRx ∧
    (issue d s i).recorderRx = s.recorderRx ∧ (issue d s i).handed = s.handed ∧
    (issue d s i).choices = s.choices ∧ (issue d s i).pending = s.pending :=
  by
  simp only [issue]
  repeat' split
  all_goals simp

@[simp] theorem issueAll_frame (d : Dom) (g : Grant) (l : List Slot) :
    (issueAll d g l).state.now = g.state.now ∧ (issueAll d g l).state.straps = g.state.straps ∧
    (issueAll d g l).state.dests = g.state.dests ∧ (issueAll d g l).state.srcs = g.state.srcs ∧
    (issueAll d g l).state.registry = g.state.registry ∧ (issueAll d g l).state.store = g.state.store ∧
    (issueAll d g l).state.domains = g.state.domains ∧ (issueAll d g l).state.bus = g.state.bus ∧
    (issueAll d g l).state.walls = g.state.walls ∧ (issueAll d g l).state.router = g.state.router ∧
    (issueAll d g l).state.gpis = g.state.gpis ∧ (issueAll d g l).state.cmps = g.state.cmps ∧
    (issueAll d g l).state.link = g.state.link ∧ (issueAll d g l).state.flags = g.state.flags ∧
    (issueAll d g l).state.wallRx = g.state.wallRx ∧ (issueAll d g l).state.recorderRx = g.state.recorderRx ∧
    (issueAll d g l).state.handed = g.state.handed ∧ (issueAll d g l).state.choices = g.state.choices ∧
    (issueAll d g l).state.pending = g.state.pending :=
  ⟨foldl_keep (·.now) _ (by intros; simp) _ _,
      foldl_keep (·.straps) _ (by intros; simp) _ _,
      foldl_keep (·.dests) _ (by intros; simp) _ _,
      foldl_keep (·.srcs) _ (by intros; simp) _ _,
      foldl_keep (·.registry) _ (by intros; simp) _ _,
      foldl_keep (·.store) _ (by intros; simp) _ _,
      foldl_keep (·.domains) _ (by intros; simp) _ _,
      foldl_keep (·.bus) _ (by intros; simp) _ _,
      foldl_keep (·.walls) _ (by intros; simp) _ _,
      foldl_keep (·.router) _ (by intros; simp) _ _,
      foldl_keep (·.gpis) _ (by intros; simp) _ _,
      foldl_keep (·.cmps) _ (by intros; simp) _ _,
      foldl_keep (·.link) _ (by intros; simp) _ _,
      foldl_keep (·.flags) _ (by intros; simp) _ _,
      foldl_keep (·.wallRx) _ (by intros; simp) _ _,
      foldl_keep (·.recorderRx) _ (by intros; simp) _ _,
      foldl_keep (·.handed) _ (by intros; simp) _ _,
      foldl_keep (·.choices) _ (by intros; simp) _ _,
      foldl_keep (·.pending) _ (by intros; simp) _ _⟩

@[simp] theorem retestSlot_frame (s : State) (i : Slot) :
    (s.retestSlot i).now = s.now ∧ (s.retestSlot i).straps = s.straps ∧ (s.retestSlot i).dests = s.dests ∧
    (s.retestSlot i).srcs = s.srcs ∧ (s.retestSlot i).registry = s.registry ∧
    (s.retestSlot i).store = s.store ∧ (s.retestSlot i).domains = s.domains ∧ (s.retestSlot i).bus = s.bus ∧
    (s.retestSlot i).walls = s.walls ∧ (s.retestSlot i).ports = s.ports ∧ (s.retestSlot i).router = s.router ∧
    (s.retestSlot i).gpis = s.gpis ∧ (s.retestSlot i).cmps = s.cmps ∧ (s.retestSlot i).link = s.link ∧
    (s.retestSlot i).flags = s.flags ∧ (s.retestSlot i).wallRx = s.wallRx ∧
    (s.retestSlot i).recorderRx = s.recorderRx ∧ (s.retestSlot i).handed = s.handed ∧
    (s.retestSlot i).choices = s.choices ∧ (s.retestSlot i).pending = s.pending :=
  by
  simp only [retestSlot]
  repeat' split
  all_goals simp

@[simp] theorem walkSingle_frame (d : Dom) (g : Grant) (i : Slot) :
    (walkSingle d g i).state.now = g.state.now ∧ (walkSingle d g i).state.straps = g.state.straps ∧
    (walkSingle d g i).state.dests = g.state.dests ∧ (walkSingle d g i).state.srcs = g.state.srcs ∧
    (walkSingle d g i).state.registry = g.state.registry ∧ (walkSingle d g i).state.store = g.state.store ∧
    (walkSingle d g i).state.domains = g.state.domains ∧ (walkSingle d g i).state.walls = g.state.walls ∧
    (walkSingle d g i).state.router = g.state.router ∧ (walkSingle d g i).state.gpis = g.state.gpis ∧
    (walkSingle d g i).state.cmps = g.state.cmps ∧ (walkSingle d g i).state.link = g.state.link ∧
    (walkSingle d g i).state.flags = g.state.flags ∧ (walkSingle d g i).state.wallRx = g.state.wallRx ∧
    (walkSingle d g i).state.recorderRx = g.state.recorderRx ∧
    (walkSingle d g i).state.choices = g.state.choices ∧ (walkSingle d g i).state.pending = g.state.pending :=
  by
  simp only [walkSingle]
  repeat' split
  all_goals simp

@[simp] theorem retestRun_frame (l : List Slot) (s : State) :
    (l.foldl retestSlot s).now = s.now ∧ (l.foldl retestSlot s).straps = s.straps ∧
    (l.foldl retestSlot s).dests = s.dests ∧ (l.foldl retestSlot s).srcs = s.srcs ∧
    (l.foldl retestSlot s).registry = s.registry ∧ (l.foldl retestSlot s).store = s.store ∧
    (l.foldl retestSlot s).domains = s.domains ∧ (l.foldl retestSlot s).bus = s.bus ∧
    (l.foldl retestSlot s).walls = s.walls ∧ (l.foldl retestSlot s).ports = s.ports ∧
    (l.foldl retestSlot s).router = s.router ∧ (l.foldl retestSlot s).gpis = s.gpis ∧
    (l.foldl retestSlot s).cmps = s.cmps ∧ (l.foldl retestSlot s).link = s.link ∧
    (l.foldl retestSlot s).flags = s.flags ∧ (l.foldl retestSlot s).wallRx = s.wallRx ∧
    (l.foldl retestSlot s).recorderRx = s.recorderRx ∧ (l.foldl retestSlot s).handed = s.handed ∧
    (l.foldl retestSlot s).choices = s.choices ∧ (l.foldl retestSlot s).pending = s.pending :=
  ⟨foldl_keep (·.now) _ (by intros; simp) _ _,
    foldl_keep (·.straps) _ (by intros; simp) _ _,
    foldl_keep (·.dests) _ (by intros; simp) _ _,
    foldl_keep (·.srcs) _ (by intros; simp) _ _,
    foldl_keep (·.registry) _ (by intros; simp) _ _,
    foldl_keep (·.store) _ (by intros; simp) _ _,
    foldl_keep (·.domains) _ (by intros; simp) _ _,
    foldl_keep (·.bus) _ (by intros; simp) _ _,
    foldl_keep (·.walls) _ (by intros; simp) _ _,
    foldl_keep (·.ports) _ (by intros; simp) _ _,
    foldl_keep (·.router) _ (by intros; simp) _ _,
    foldl_keep (·.gpis) _ (by intros; simp) _ _,
    foldl_keep (·.cmps) _ (by intros; simp) _ _,
    foldl_keep (·.link) _ (by intros; simp) _ _,
    foldl_keep (·.flags) _ (by intros; simp) _ _,
    foldl_keep (·.wallRx) _ (by intros; simp) _ _,
    foldl_keep (·.recorderRx) _ (by intros; simp) _ _,
    foldl_keep (·.handed) _ (by intros; simp) _ _,
    foldl_keep (·.choices) _ (by intros; simp) _ _,
    foldl_keep (·.pending) _ (by intros; simp) _ _⟩

@[simp] theorem walkRun_frame (d : Dom) (g : Grant) (l : List Slot) :
    (walkRun d g l).1.state.now = g.state.now ∧ (walkRun d g l).1.state.straps = g.state.straps ∧
    (walkRun d g l).1.state.dests = g.state.dests ∧ (walkRun d g l).1.state.srcs = g.state.srcs ∧
    (walkRun d g l).1.state.registry = g.state.registry ∧ (walkRun d g l).1.state.store = g.state.store ∧
    (walkRun d g l).1.state.domains = g.state.domains ∧ (walkRun d g l).1.state.walls = g.state.walls ∧
    (walkRun d g l).1.state.router = g.state.router ∧ (walkRun d g l).1.state.gpis = g.state.gpis ∧
    (walkRun d g l).1.state.cmps = g.state.cmps ∧ (walkRun d g l).1.state.link = g.state.link ∧
    (walkRun d g l).1.state.flags = g.state.flags ∧ (walkRun d g l).1.state.wallRx = g.state.wallRx ∧
    (walkRun d g l).1.state.recorderRx = g.state.recorderRx ∧
    (walkRun d g l).1.state.choices = g.state.choices ∧ (walkRun d g l).1.state.pending = g.state.pending :=
  by
  simp only [walkRun]
  repeat' split
  all_goals simp

@[simp] theorem walk_frame (d : Dom) (n : Nat) (g : Grant) (l : List Slot) :
    (walk d n g l).state.now = g.state.now ∧ (walk d n g l).state.straps = g.state.straps ∧
    (walk d n g l).state.dests = g.state.dests ∧ (walk d n g l).state.srcs = g.state.srcs ∧
    (walk d n g l).state.registry = g.state.registry ∧ (walk d n g l).state.store = g.state.store ∧
    (walk d n g l).state.domains = g.state.domains ∧ (walk d n g l).state.walls = g.state.walls ∧
    (walk d n g l).state.router = g.state.router ∧ (walk d n g l).state.gpis = g.state.gpis ∧
    (walk d n g l).state.cmps = g.state.cmps ∧ (walk d n g l).state.link = g.state.link ∧
    (walk d n g l).state.flags = g.state.flags ∧ (walk d n g l).state.wallRx = g.state.wallRx ∧
    (walk d n g l).state.recorderRx = g.state.recorderRx ∧ (walk d n g l).state.choices = g.state.choices ∧
    (walk d n g l).state.pending = g.state.pending :=
  by
  induction n generalizing g l with
  | zero => simp [walk]
  | succ n ih =>
    cases l with
    | nil => simp [walk]
    | cons i rest =>
      simp only [walk]
      split
      · simp
      · split
        · simpa using ih (walkSingle d g i) rest
        · rename_i run _
          have h := walkRun_frame d g run
          split
          · rename_i e; rw [e] at h; simp only [ih]; exact h
          · rename_i e; rw [e] at h; exact h

@[simp] theorem selectTakes_frame (g : Grant) (d : Dom) (l : List Tag) :
    (selectTakes g d l).state.now = g.state.now ∧ (selectTakes g d l).state.straps = g.state.straps ∧
    (selectTakes g d l).state.dests = g.state.dests ∧ (selectTakes g d l).state.srcs = g.state.srcs ∧
    (selectTakes g d l).state.registry = g.state.registry ∧ (selectTakes g d l).state.store = g.state.store ∧
    (selectTakes g d l).state.domains = g.state.domains ∧ (selectTakes g d l).state.walls = g.state.walls ∧
    (selectTakes g d l).state.router = g.state.router ∧ (selectTakes g d l).state.gpis = g.state.gpis ∧
    (selectTakes g d l).state.cmps = g.state.cmps ∧ (selectTakes g d l).state.link = g.state.link ∧
    (selectTakes g d l).state.flags = g.state.flags ∧ (selectTakes g d l).state.wallRx = g.state.wallRx ∧
    (selectTakes g d l).state.recorderRx = g.state.recorderRx ∧
    (selectTakes g d l).state.choices = g.state.choices ∧ (selectTakes g d l).state.pending = g.state.pending :=
  walk_frame _ _ _ _

@[simp] theorem issueWindow_frame (s : State) (d : Dom) (l : List Tag) :
    (s.issueWindow d l).now = s.now ∧ (s.issueWindow d l).straps = s.straps ∧
    (s.issueWindow d l).srcs = s.srcs ∧ (s.issueWindow d l).registry = s.registry ∧
    (s.issueWindow d l).store = s.store ∧ (s.issueWindow d l).domains = s.domains ∧
    (s.issueWindow d l).walls = s.walls ∧ (s.issueWindow d l).router = s.router ∧
    (s.issueWindow d l).gpis = s.gpis ∧ (s.issueWindow d l).cmps = s.cmps ∧ (s.issueWindow d l).link = s.link ∧
    (s.issueWindow d l).wallRx = s.wallRx ∧ (s.issueWindow d l).recorderRx = s.recorderRx ∧
    (s.issueWindow d l).choices = s.choices ∧ (s.issueWindow d l).pending = s.pending :=
  by
  simp only [issueWindow]
  repeat' split
  all_goals simp

@[simp] theorem forward_frame (s : State) (k : Cmp) (b : Bool) (n : Nat) :
    (s.forward k b n).1.now = s.now ∧ (s.forward k b n).1.straps = s.straps ∧
    (s.forward k b n).1.dests = s.dests ∧ (s.forward k b n).1.srcs = s.srcs ∧
    (s.forward k b n).1.pool = s.pool ∧ (s.forward k b n).1.registry = s.registry ∧
    (s.forward k b n).1.store = s.store ∧ (s.forward k b n).1.domains = s.domains ∧
    (s.forward k b n).1.bus = s.bus ∧ (s.forward k b n).1.walls = s.walls ∧
    (s.forward k b n).1.ports = s.ports ∧ (s.forward k b n).1.router = s.router ∧
    (s.forward k b n).1.gpis = s.gpis ∧ (s.forward k b n).1.link = s.link ∧
    (s.forward k b n).1.flags = s.flags ∧ (s.forward k b n).1.wallRx = s.wallRx ∧
    (s.forward k b n).1.recorderRx = s.recorderRx ∧ (s.forward k b n).1.handed = s.handed ∧
    (s.forward k b n).1.choices = s.choices ∧ (s.forward k b n).1.pending = s.pending :=
  by
  simp only [forward]
  repeat' split
  all_goals simp

@[simp] theorem trigger_frame (s : State) (k : Cmp) :
    (s.trigger k).1.now = s.now ∧ (s.trigger k).1.straps = s.straps ∧ (s.trigger k).1.dests = s.dests ∧
    (s.trigger k).1.srcs = s.srcs ∧ (s.trigger k).1.pool = s.pool ∧ (s.trigger k).1.registry = s.registry ∧
    (s.trigger k).1.store = s.store ∧ (s.trigger k).1.domains = s.domains ∧ (s.trigger k).1.bus = s.bus ∧
    (s.trigger k).1.walls = s.walls ∧ (s.trigger k).1.ports = s.ports ∧ (s.trigger k).1.router = s.router ∧
    (s.trigger k).1.gpis = s.gpis ∧ (s.trigger k).1.link = s.link ∧ (s.trigger k).1.flags = s.flags ∧
    (s.trigger k).1.wallRx = s.wallRx ∧ (s.trigger k).1.recorderRx = s.recorderRx ∧
    (s.trigger k).1.handed = s.handed ∧ (s.trigger k).1.choices = s.choices ∧
    (s.trigger k).1.pending = s.pending :=
  by
  simp only [trigger]
  repeat' split
  all_goals simp

@[simp] theorem carryOut_frame (s : State) (k : Cmp) (a : Action) :
    (s.carryOut k a).2.now = s.now ∧ (s.carryOut k a).2.straps = s.straps ∧
    (s.carryOut k a).2.dests = s.dests ∧ (s.carryOut k a).2.srcs = s.srcs ∧
    (s.carryOut k a).2.registry = s.registry ∧ (s.carryOut k a).2.domains = s.domains ∧
    (s.carryOut k a).2.walls = s.walls ∧ (s.carryOut k a).2.router = s.router ∧
    (s.carryOut k a).2.gpis = s.gpis ∧ (s.carryOut k a).2.cmps = s.cmps ∧ (s.carryOut k a).2.link = s.link ∧
    (s.carryOut k a).2.flags = s.flags ∧ (s.carryOut k a).2.wallRx = s.wallRx ∧
    (s.carryOut k a).2.recorderRx = s.recorderRx ∧ (s.carryOut k a).2.choices = s.choices ∧
    (s.carryOut k a).2.pending = s.pending :=
  by
  simp only [carryOut]
  repeat' split
  all_goals simp

@[simp] theorem runAction_frame (s : State) (k : Cmp) (b : Bool) (a : Action) :
    (s.runAction k b a).now = s.now ∧ (s.runAction k b a).straps = s.straps ∧
    (s.runAction k b a).dests = s.dests ∧ (s.runAction k b a).srcs = s.srcs ∧
    (s.runAction k b a).registry = s.registry ∧ (s.runAction k b a).domains = s.domains ∧
    (s.runAction k b a).walls = s.walls ∧ (s.runAction k b a).router = s.router ∧
    (s.runAction k b a).gpis = s.gpis ∧ (s.runAction k b a).link = s.link ∧
    (s.runAction k b a).wallRx = s.wallRx ∧ (s.runAction k b a).recorderRx = s.recorderRx ∧
    (s.runAction k b a).choices = s.choices ∧ (s.runAction k b a).pending = s.pending :=
  by
  simp only [runAction]
  repeat' split
  all_goals simp

@[simp] theorem arrive_frame (s : State) (a : Arrival) :
    (s.arrive a).1.now = s.now ∧ (s.arrive a).1.straps = s.straps ∧ (s.arrive a).1.srcs = s.srcs ∧
    (s.arrive a).1.registry = s.registry ∧ (s.arrive a).1.walls = s.walls ∧ (s.arrive a).1.router = s.router ∧
    (s.arrive a).1.gpis = s.gpis ∧ (s.arrive a).1.link = s.link ∧ (s.arrive a).1.wallRx = s.wallRx ∧
    (s.arrive a).1.recorderRx = s.recorderRx ∧ (s.arrive a).1.choices = s.choices ∧
    (s.arrive a).1.pending = s.pending :=
  by
  simp only [arrive]
  repeat' split
  all_goals simp

@[simp] theorem runArrivals_frame (n : Nat) (l : List Arrival) (s : State) :
    (runArrivals n l s).now = s.now ∧ (runArrivals n l s).straps = s.straps ∧
    (runArrivals n l s).srcs = s.srcs ∧ (runArrivals n l s).registry = s.registry ∧
    (runArrivals n l s).router = s.router ∧ (runArrivals n l s).gpis = s.gpis ∧
    (runArrivals n l s).link = s.link ∧ (runArrivals n l s).wallRx = s.wallRx ∧
    (runArrivals n l s).recorderRx = s.recorderRx ∧ (runArrivals n l s).pending = s.pending :=
  by
  induction n generalizing l s with
  | zero => simp [runArrivals]
  | succ n ih =>
    cases l with
    | nil => simp [runArrivals]
    | cons a rest =>
      simp only [runArrivals]
      simp [ih]

@[simp] theorem deliver_frame (s : State) (l : List Arrival) :
    (s.deliver l).now = s.now ∧ (s.deliver l).straps = s.straps ∧ (s.deliver l).srcs = s.srcs ∧
    (s.deliver l).registry = s.registry ∧ (s.deliver l).router = s.router ∧ (s.deliver l).gpis = s.gpis ∧
    (s.deliver l).link = s.link ∧ (s.deliver l).wallRx = s.wallRx ∧ (s.deliver l).recorderRx = s.recorderRx ∧
    (s.deliver l).pending = s.pending :=
  by
  simp only [deliver]
  all_goals simp

@[simp] theorem raise_frame (s : State) (b : Byte) :
    (s.raise b).now = s.now ∧ (s.raise b).straps = s.straps ∧ (s.raise b).srcs = s.srcs ∧
    (s.raise b).registry = s.registry ∧ (s.raise b).router = s.router ∧ (s.raise b).gpis = s.gpis ∧
    (s.raise b).link = s.link ∧ (s.raise b).wallRx = s.wallRx ∧ (s.raise b).recorderRx = s.recorderRx ∧
    (s.raise b).pending = s.pending :=
  by
  simp only [raise]
  all_goals simp

@[simp] theorem switchPoint_frame (s : State) (d : Dom) :
    (s.switchPoint d).now = s.now ∧ (s.switchPoint d).straps = s.straps ∧ (s.switchPoint d).srcs = s.srcs ∧
    (s.switchPoint d).registry = s.registry ∧ (s.switchPoint d).router = s.router ∧
    (s.switchPoint d).gpis = s.gpis ∧ (s.switchPoint d).link = s.link ∧ (s.switchPoint d).wallRx = s.wallRx ∧
    (s.switchPoint d).recorderRx = s.recorderRx ∧ (s.switchPoint d).pending = s.pending :=
  by
  simp only [switchPoint]
  all_goals simp

@[simp] theorem takeLevel_frame (s : State) (i : Gpi) (b : Bool) :
    (s.takeLevel i b).now = s.now ∧ (s.takeLevel i b).straps = s.straps ∧ (s.takeLevel i b).srcs = s.srcs ∧
    (s.takeLevel i b).registry = s.registry ∧ (s.takeLevel i b).router = s.router ∧
    (s.takeLevel i b).link = s.link ∧ (s.takeLevel i b).wallRx = s.wallRx ∧
    (s.takeLevel i b).recorderRx = s.recorderRx ∧ (s.takeLevel i b).pending = s.pending :=
  by
  simp only [takeLevel]
  all_goals simp

@[simp] theorem judgeSpacing_frame (s : State) (n : Nat) :
    (s.judgeSpacing n).2.now = s.now ∧ (s.judgeSpacing n).2.straps = s.straps ∧
    (s.judgeSpacing n).2.dests = s.dests ∧ (s.judgeSpacing n).2.srcs = s.srcs ∧
    (s.judgeSpacing n).2.pool = s.pool ∧ (s.judgeSpacing n).2.registry = s.registry ∧
    (s.judgeSpacing n).2.store = s.store ∧ (s.judgeSpacing n).2.domains = s.domains ∧
    (s.judgeSpacing n).2.bus = s.bus ∧ (s.judgeSpacing n).2.walls = s.walls ∧
    (s.judgeSpacing n).2.ports = s.ports ∧ (s.judgeSpacing n).2.router = s.router ∧
    (s.judgeSpacing n).2.gpis = s.gpis ∧ (s.judgeSpacing n).2.cmps = s.cmps ∧
    (s.judgeSpacing n).2.link = s.link ∧ (s.judgeSpacing n).2.flags = s.flags ∧
    (s.judgeSpacing n).2.wallRx = s.wallRx ∧ (s.judgeSpacing n).2.recorderRx = s.recorderRx ∧
    (s.judgeSpacing n).2.handed = s.handed ∧ (s.judgeSpacing n).2.pending = s.pending :=
  by
  simp only [judgeSpacing]
  repeat' split
  all_goals simp

@[simp] theorem lockLoss_frame (s : State) (d : Dom) :
    (s.lockLoss d).now = s.now ∧ (s.lockLoss d).straps = s.straps ∧ (s.lockLoss d).dests = s.dests ∧
    (s.lockLoss d).srcs = s.srcs ∧ (s.lockLoss d).registry = s.registry ∧ (s.lockLoss d).store = s.store ∧
    (s.lockLoss d).walls = s.walls ∧ (s.lockLoss d).ports = s.ports ∧ (s.lockLoss d).router = s.router ∧
    (s.lockLoss d).gpis = s.gpis ∧ (s.lockLoss d).cmps = s.cmps ∧ (s.lockLoss d).link = s.link ∧
    (s.lockLoss d).wallRx = s.wallRx ∧ (s.lockLoss d).recorderRx = s.recorderRx ∧
    (s.lockLoss d).handed = s.handed ∧ (s.lockLoss d).choices = s.choices ∧
    (s.lockLoss d).pending = s.pending :=
  by
  simp only [lockLoss]
  repeat' split
  all_goals simp

@[simp] theorem forgetReference_frame (s : State) (d : Dom) (t : Option Time) :
    (s.forgetReference d t).now = s.now ∧ (s.forgetReference d t).straps = s.straps ∧
    (s.forgetReference d t).dests = s.dests ∧ (s.forgetReference d t).srcs = s.srcs ∧
    (s.forgetReference d t).pool = s.pool ∧ (s.forgetReference d t).registry = s.registry ∧
    (s.forgetReference d t).store = s.store ∧ (s.forgetReference d t).bus = s.bus ∧
    (s.forgetReference d t).walls = s.walls ∧ (s.forgetReference d t).ports = s.ports ∧
    (s.forgetReference d t).router = s.router ∧ (s.forgetReference d t).gpis = s.gpis ∧
    (s.forgetReference d t).cmps = s.cmps ∧ (s.forgetReference d t).link = s.link ∧
    (s.forgetReference d t).flags = s.flags ∧ (s.forgetReference d t).wallRx = s.wallRx ∧
    (s.forgetReference d t).recorderRx = s.recorderRx ∧ (s.forgetReference d t).handed = s.handed ∧
    (s.forgetReference d t).choices = s.choices ∧ (s.forgetReference d t).pending = s.pending :=
  by
  simp only [forgetReference]
  all_goals simp

@[simp] theorem loseReference_frame (s : State) (d : Dom) (t : Option Time) :
    (s.loseReference d t).now = s.now ∧ (s.loseReference d t).straps = s.straps ∧
    (s.loseReference d t).dests = s.dests ∧ (s.loseReference d t).srcs = s.srcs ∧
    (s.loseReference d t).registry = s.registry ∧ (s.loseReference d t).store = s.store ∧
    (s.loseReference d t).walls = s.walls ∧ (s.loseReference d t).ports = s.ports ∧
    (s.loseReference d t).router = s.router ∧ (s.loseReference d t).gpis = s.gpis ∧
    (s.loseReference d t).cmps = s.cmps ∧ (s.loseReference d t).link = s.link ∧
    (s.loseReference d t).wallRx = s.wallRx ∧ (s.loseReference d t).recorderRx = s.recorderRx ∧
    (s.loseReference d t).handed = s.handed ∧ (s.loseReference d t).choices = s.choices ∧
    (s.loseReference d t).pending = s.pending :=
  by
  simp only [loseReference]
  all_goals simp

@[simp] theorem departure_frame (s : State) (d : Dom) :
    (s.departure d).now = s.now ∧ (s.departure d).straps = s.straps ∧ (s.departure d).dests = s.dests ∧
    (s.departure d).srcs = s.srcs ∧ (s.departure d).registry = s.registry ∧ (s.departure d).store = s.store ∧
    (s.departure d).walls = s.walls ∧ (s.departure d).ports = s.ports ∧ (s.departure d).router = s.router ∧
    (s.departure d).gpis = s.gpis ∧ (s.departure d).cmps = s.cmps ∧ (s.departure d).link = s.link ∧
    (s.departure d).wallRx = s.wallRx ∧ (s.departure d).recorderRx = s.recorderRx ∧
    (s.departure d).handed = s.handed ∧ (s.departure d).choices = s.choices ∧
    (s.departure d).pending = s.pending :=
  by
  simp only [departure]
  repeat' split
  all_goals simp

@[simp] theorem placeTimer_frame (s : State) (d : Dom) :
    (s.placeTimer d).now = s.now ∧ (s.placeTimer d).straps = s.straps ∧ (s.placeTimer d).dests = s.dests ∧
    (s.placeTimer d).srcs = s.srcs ∧ (s.placeTimer d).pool = s.pool ∧ (s.placeTimer d).registry = s.registry ∧
    (s.placeTimer d).store = s.store ∧ (s.placeTimer d).bus = s.bus ∧ (s.placeTimer d).walls = s.walls ∧
    (s.placeTimer d).ports = s.ports ∧ (s.placeTimer d).router = s.router ∧ (s.placeTimer d).gpis = s.gpis ∧
    (s.placeTimer d).cmps = s.cmps ∧ (s.placeTimer d).link = s.link ∧ (s.placeTimer d).flags = s.flags ∧
    (s.placeTimer d).wallRx = s.wallRx ∧ (s.placeTimer d).recorderRx = s.recorderRx ∧
    (s.placeTimer d).handed = s.handed ∧ (s.placeTimer d).choices = s.choices ∧
    (s.placeTimer d).pending = s.pending :=
  by
  simp only [placeTimer]
  all_goals simp

@[simp] theorem returnInPhase_frame (s : State) (d : Dom) :
    (s.returnInPhase d).now = s.now ∧ (s.returnInPhase d).straps = s.straps ∧
    (s.returnInPhase d).srcs = s.srcs ∧ (s.returnInPhase d).registry = s.registry ∧
    (s.returnInPhase d).router = s.router ∧ (s.returnInPhase d).gpis = s.gpis ∧
    (s.returnInPhase d).link = s.link ∧ (s.returnInPhase d).wallRx = s.wallRx ∧
    (s.returnInPhase d).recorderRx = s.recorderRx ∧ (s.returnInPhase d).pending = s.pending :=
  by
  simp only [returnInPhase]
  repeat' split
  all_goals simp

@[simp] theorem detect_frame (s : State) (d : Dom) :
    (s.detect d).now = s.now ∧ (s.detect d).straps = s.straps ∧ (s.detect d).srcs = s.srcs ∧
    (s.detect d).registry = s.registry ∧ (s.detect d).router = s.router ∧ (s.detect d).gpis = s.gpis ∧
    (s.detect d).link = s.link ∧ (s.detect d).wallRx = s.wallRx ∧ (s.detect d).recorderRx = s.recorderRx ∧
    (s.detect d).pending = s.pending :=
  by
  simp only [detect]
  repeat' split
  all_goals simp

@[simp] theorem settleFrame_frame (s : State) (d : Dom) :
    (s.settleFrame d).now = s.now ∧ (s.settleFrame d).straps = s.straps ∧ (s.settleFrame d).srcs = s.srcs ∧
    (s.settleFrame d).registry = s.registry ∧ (s.settleFrame d).router = s.router ∧
    (s.settleFrame d).gpis = s.gpis ∧ (s.settleFrame d).link = s.link ∧ (s.settleFrame d).wallRx = s.wallRx ∧
    (s.settleFrame d).recorderRx = s.recorderRx ∧ (s.settleFrame d).pending = s.pending :=
  by
  simp only [settleFrame]
  repeat' split
  all_goals simp

@[simp] theorem referenceStart_frame (s : State) (d : Dom) :
    (s.referenceStart d).now = s.now ∧ (s.referenceStart d).straps = s.straps ∧
    (s.referenceStart d).srcs = s.srcs ∧ (s.referenceStart d).registry = s.registry ∧
    (s.referenceStart d).router = s.router ∧ (s.referenceStart d).gpis = s.gpis ∧
    (s.referenceStart d).link = s.link ∧ (s.referenceStart d).wallRx = s.wallRx ∧
    (s.referenceStart d).recorderRx = s.recorderRx ∧ (s.referenceStart d).pending = s.pending :=
  by
  simp only [referenceStart]
  repeat' split
  all_goals simp

@[simp] theorem holdoverFrame_frame (s : State) (d : Dom) :
    (s.holdoverFrame d).now = s.now ∧ (s.holdoverFrame d).straps = s.straps ∧
    (s.holdoverFrame d).srcs = s.srcs ∧ (s.holdoverFrame d).registry = s.registry ∧
    (s.holdoverFrame d).router = s.router ∧ (s.holdoverFrame d).gpis = s.gpis ∧
    (s.holdoverFrame d).link = s.link ∧ (s.holdoverFrame d).wallRx = s.wallRx ∧
    (s.holdoverFrame d).recorderRx = s.recorderRx ∧ (s.holdoverFrame d).pending = s.pending :=
  by
  simp only [holdoverFrame]
  repeat' split
  all_goals simp

@[simp] theorem lockedFrame_frame (s : State) (d : Dom) (b : Bool) :
    (s.lockedFrame d b).now = s.now ∧ (s.lockedFrame d b).straps = s.straps ∧
    (s.lockedFrame d b).srcs = s.srcs ∧ (s.lockedFrame d b).registry = s.registry ∧
    (s.lockedFrame d b).router = s.router ∧ (s.lockedFrame d b).gpis = s.gpis ∧
    (s.lockedFrame d b).link = s.link ∧ (s.lockedFrame d b).wallRx = s.wallRx ∧
    (s.lockedFrame d b).recorderRx = s.recorderRx ∧ (s.lockedFrame d b).pending = s.pending :=
  by
  simp only [lockedFrame]
  repeat' split
  all_goals simp

end Sys2Proof.Machine.State
end

