-- ==== Sys2Proof/Laws/Deliver.lean ====
section
/-! SUPPORT. Delivery: an arrival's weight bounds what it may still raise, so that the bound of `runArrivals` is never met
and any bound that large gives the same run. -/

namespace Sys2Proof.Machine

open State

/-- How many arrivals handling the listed ones can take. -/
def weights (as : List Arrival) : Nat := (as.map Arrival.weight).sum

theorem Arrival.one_le_weight (a : Arrival) : 1 ≤ a.weight := by cases a <;> simp [Arrival.weight]

@[simp] theorem weights_nil : weights [] = 0 := rfl

@[simp] theorem weights_cons (a : Arrival) (as : List Arrival) : weights (a :: as) = a.weight + weights as := by
  simp [weights]

@[simp] theorem weights_append (as bs : List Arrival) : weights (as ++ bs) = weights as + weights bs := by simp [weights]

theorem weights_light {as : List Arrival} (h : ∀ a ∈ as, a.weight = 1) : weights as = as.length := by
  induction as with
  | nil => rfl
  | cons a as ih =>
    rw [weights_cons, ih (fun b hb => h b (List.mem_cons_of_mem _ hb)), h a List.mem_cons_self, List.length_cons,
      Nat.add_comm]

theorem weights_eraseIdx {as : List Arrival} {i : Nat} {a : Arrival} (h : as[i]? = some a) :
    weights as = a.weight + weights (as.eraseIdx i) := by
  induction as generalizing i with
  | nil => simp at h
  | cons b as ih =>
    cases i with
    | zero => simp at h; subst h; simp
    | succ i =>
      simp at h
      have := ih h
      simp only [weights_cons, List.eraseIdx_cons_succ]
      omega

theorem boundTo_length {n : Nat} (v : Vector Byte n) (id : Byte) : (boundTo v id).length ≤ n := by
  unfold boundTo
  rw [List.length_map]
  exact (List.length_filter_le _ _).trans (by rw [entries_length])

theorem weights_pollsAndMarks (s : State) (id : Byte) : weights (s.pollsAndMarks id) ≤ 20 := by
  rw [weights_light]
  · have hp := boundTo_length s.router.poll id
    have hm := boundTo_length s.router.mark id
    simp only [pollsAndMarks, List.length_append, List.length_map]
    omega
  · intro a
    simp only [pollsAndMarks, List.mem_append, List.mem_map]
    rintro (⟨_, _, rfl⟩ | ⟨_, _, rfl⟩) <;> rfl

theorem weights_forward (s : State) (k : Cmp) (branch : Bool) (timecode : Nat) :
    weights (s.forward k branch timecode).2 ≤ 21 := by
  have action (a : Action) : weights (if a = .none then [] else [.action k branch a]) ≤ 1 := by
    split <;> simp [Arrival.weight]
  simp only [forward, weights_append]
  exact Nat.add_le_add (weights_pollsAndMarks _ _) (action _)

/-- Handling an arrival takes one of its weight, and what it raises no more than the rest. -/
theorem weights_arrive (s : State) (a : Arrival) : weights (s.arrive a).2 + 1 ≤ a.weight := by
  cases a with
  | trigger k =>
    simp only [arrive, trigger, Arrival.weight]
    repeat' split
    all_goals first
      | exact Nat.succ_le_succ (weights_forward ..)
      | simp
  | _ => simp [arrive, Arrival.weight]

/-- One arrival is chosen and applied whole; the others and what it raised remain. -/
theorem runArrivals_succ (fuel : Nat) (s : State) (a : Arrival) (rest : List Arrival) :
    let i := (s.choose (rest.length + 1)).1
    let u : State := if rest = [] then s else { s with choices := s.choices + 1 }
    ∃ b, (a :: rest)[i]? = some b ∧
      runArrivals (fuel + 1) (a :: rest) s =
        runArrivals fuel ((a :: rest).eraseIdx i ++ (u.arrive b).2) (u.arrive b).1.settle := by
  intro i u
  obtain ⟨hi, hu⟩ : i < (a :: rest).length ∧ (s.choose (rest.length + 1)).2 = u := by
    simp only [i, u, choose]
    by_cases h : rest = []
    · simp [h]
    · have : ¬ rest.length + 1 ≤ 1 := by have := List.length_pos_iff.2 h; omega
      rw [if_neg this, if_neg h]
      exact ⟨Nat.mod_lt _ (Nat.succ_pos _), rfl⟩
  have hb : (a :: rest)[i]? = some ((a :: rest).getD i a) := by
    rw [List.getD_eq_getElem?_getD, List.getElem?_eq_getElem hi]; rfl
  refine ⟨_, hb, ?_⟩
  rw [← hu]
  rfl

/-- Two bounds that both reach the weight of the arrivals give the same run. -/
theorem runArrivals_bound {n m : Nat} {as : List Arrival} {s : State} (hn : weights as ≤ n) (hm : weights as ≤ m) :
    runArrivals n as s = runArrivals m as s := by
  induction n generalizing m as s with
  | zero =>
    cases as with
    | nil => cases m <;> rfl
    | cons a as => have := a.one_le_weight; rw [weights_cons] at hn; omega
  | succ n ih =>
    cases as with
    | nil => cases m <;> rfl
    | cons a as =>
      cases m with
      | zero => have := a.one_le_weight; rw [weights_cons] at hm; omega
      | succ m =>
        obtain ⟨b, hb, e⟩ := runArrivals_succ n s a as
        obtain ⟨b', hb', e'⟩ := runArrivals_succ m s a as
        rw [hb] at hb'
        cases hb'
        rw [e, e']
        have hw := weights_eraseIdx hb
        have ha := weights_arrive (if as = [] then s else { s with choices := s.choices + 1 }) b
        apply ih <;> rw [weights_append] <;> omega

end Sys2Proof.Machine
end

