-- ==== Sys2Proof/Laws/EffectFrames.lean ====
section
/-! SUPPORT. What the effect of each command leaves alone. -/

namespace Sys2Proof.Machine

open State

@[simp] theorem runSetSourceLabel_frame (x : U16) (l : TextField) (s : State) :
    (runSetSourceLabel x l s).2.now = s.now ∧ (runSetSourceLabel x l s).2.straps = s.straps ∧
    (runSetSourceLabel x l s).2.dests = s.dests ∧ (runSetSourceLabel x l s).2.pool = s.pool ∧
    (runSetSourceLabel x l s).2.registry = s.registry ∧ (runSetSourceLabel x l s).2.store = s.store ∧
    (runSetSourceLabel x l s).2.domains = s.domains ∧ (runSetSourceLabel x l s).2.bus = s.bus ∧
    (runSetSourceLabel x l s).2.ports = s.ports ∧ (runSetSourceLabel x l s).2.router = s.router ∧
    (runSetSourceLabel x l s).2.gpis = s.gpis ∧ (runSetSourceLabel x l s).2.cmps = s.cmps ∧
    (runSetSourceLabel x l s).2.link = s.link ∧ (runSetSourceLabel x l s).2.flags = s.flags ∧
    (runSetSourceLabel x l s).2.wallRx = s.wallRx ∧ (runSetSourceLabel x l s).2.recorderRx = s.recorderRx ∧
    (runSetSourceLabel x l s).2.choices = s.choices ∧ (runSetSourceLabel x l s).2.pending = s.pending :=
  by
  simp only [runSetSourceLabel]
  repeat' split
  all_goals simp

@[simp] theorem configureDest_frame (s : State) (d : Dest) (c : DestConfig) :
    (configureDest s d c).now = s.now ∧ (configureDest s d c).straps = s.straps ∧
    (configureDest s d c).pool = s.pool ∧ (configureDest s d c).registry = s.registry ∧
    (configureDest s d c).store = s.store ∧ (configureDest s d c).domains = s.domains ∧
    (configureDest s d c).bus = s.bus ∧ (configureDest s d c).walls = s.walls ∧
    (configureDest s d c).ports = s.ports ∧ (configureDest s d c).router = s.router ∧
    (configureDest s d c).gpis = s.gpis ∧ (configureDest s d c).cmps = s.cmps ∧
    (configureDest s d c).link = s.link ∧ (configureDest s d c).flags = s.flags ∧
    (configureDest s d c).wallRx = s.wallRx ∧ (configureDest s d c).recorderRx = s.recorderRx ∧
    (configureDest s d c).choices = s.choices ∧ (configureDest s d c).pending = s.pending :=
  by
  simp only [configureDest]
  repeat' split
  all_goals simp

@[simp] theorem runSetDestConfig_frame (d : Byte) (n : TextField) (m z r : Byte) (s : State) :
    (runSetDestConfig d n m z r s).2.now = s.now ∧ (runSetDestConfig d n m z r s).2.straps = s.straps ∧
    (runSetDestConfig d n m z r s).2.pool = s.pool ∧ (runSetDestConfig d n m z r s).2.registry = s.registry ∧
    (runSetDestConfig d n m z r s).2.store = s.store ∧ (runSetDestConfig d n m z r s).2.domains = s.domains ∧
    (runSetDestConfig d n m z r s).2.bus = s.bus ∧ (runSetDestConfig d n m z r s).2.ports = s.ports ∧
    (runSetDestConfig d n m z r s).2.router = s.router ∧ (runSetDestConfig d n m z r s).2.gpis = s.gpis ∧
    (runSetDestConfig d n m z r s).2.cmps = s.cmps ∧ (runSetDestConfig d n m z r s).2.link = s.link ∧
    (runSetDestConfig d n m z r s).2.flags = s.flags ∧ (runSetDestConfig d n m z r s).2.wallRx = s.wallRx ∧
    (runSetDestConfig d n m z r s).2.recorderRx = s.recorderRx ∧
    (runSetDestConfig d n m z r s).2.choices = s.choices ∧
    (runSetDestConfig d n m z r s).2.pending = s.pending :=
  by
  simp only [runSetDestConfig]
  repeat' split
  all_goals simp

@[simp] theorem runReadDest_frame (d : Byte) (s : State) :
    (runReadDest d s).2.now = s.now ∧ (runReadDest d s).2.straps = s.straps ∧
    (runReadDest d s).2.dests = s.dests ∧ (runReadDest d s).2.srcs = s.srcs ∧
    (runReadDest d s).2.pool = s.pool ∧ (runReadDest d s).2.registry = s.registry ∧
    (runReadDest d s).2.store = s.store ∧ (runReadDest d s).2.domains = s.domains ∧
    (runReadDest d s).2.bus = s.bus ∧ (runReadDest d s).2.walls = s.walls ∧
    (runReadDest d s).2.ports = s.ports ∧ (runReadDest d s).2.router = s.router ∧
    (runReadDest d s).2.gpis = s.gpis ∧ (runReadDest d s).2.cmps = s.cmps ∧ (runReadDest d s).2.link = s.link ∧
    (runReadDest d s).2.flags = s.flags ∧ (runReadDest d s).2.wallRx = s.wallRx ∧
    (runReadDest d s).2.recorderRx = s.recorderRx ∧ (runReadDest d s).2.handed = s.handed ∧
    (runReadDest d s).2.choices = s.choices ∧ (runReadDest d s).2.pending = s.pending :=
  by
  simp only [runReadDest]
  all_goals simp

@[simp] theorem runReadSource_frame (x : U16) (s : State) :
    (runReadSource x s).2.now = s.now ∧ (runReadSource x s).2.straps = s.straps ∧
    (runReadSource x s).2.dests = s.dests ∧ (runReadSource x s).2.srcs = s.srcs ∧
    (runReadSource x s).2.pool = s.pool ∧ (runReadSource x s).2.registry = s.registry ∧
    (runReadSource x s).2.store = s.store ∧ (runReadSource x s).2.domains = s.domains ∧
    (runReadSource x s).2.bus = s.bus ∧ (runReadSource x s).2.walls = s.walls ∧
    (runReadSource x s).2.ports = s.ports ∧ (runReadSource x s).2.router = s.router ∧
    (runReadSource x s).2.gpis = s.gpis ∧ (runReadSource x s).2.cmps = s.cmps ∧
    (runReadSource x s).2.link = s.link ∧ (runReadSource x s).2.flags = s.flags ∧
    (runReadSource x s).2.wallRx = s.wallRx ∧ (runReadSource x s).2.recorderRx = s.recorderRx ∧
    (runReadSource x s).2.handed = s.handed ∧ (runReadSource x s).2.choices = s.choices ∧
    (runReadSource x s).2.pending = s.pending :=
  by
  simp only [runReadSource]
  repeat' split
  all_goals simp

@[simp] theorem admitRequest_frame (d x : U16) (p : Byte) (c : Option Src) (r : Bool) (s : State) :
    (admitRequest d x p c r s).2.now = s.now ∧ (admitRequest d x p c r s).2.straps = s.straps ∧
    (admitRequest d x p c r s).2.dests = s.dests ∧ (admitRequest d x p c r s).2.srcs = s.srcs ∧
    (admitRequest d x p c r s).2.registry = s.registry ∧ (admitRequest d x p c r s).2.store = s.store ∧
    (admitRequest d x p c r s).2.ports = s.ports ∧ (admitRequest d x p c r s).2.router = s.router ∧
    (admitRequest d x p c r s).2.gpis = s.gpis ∧ (admitRequest d x p c r s).2.cmps = s.cmps ∧
    (admitRequest d x p c r s).2.link = s.link ∧ (admitRequest d x p c r s).2.wallRx = s.wallRx ∧
    (admitRequest d x p c r s).2.recorderRx = s.recorderRx ∧ (admitRequest d x p c r s).2.choices = s.choices ∧
    (admitRequest d x p c r s).2.pending = s.pending :=
  by
  simp only [admitRequest]
  split
  · simp
  · split
    · simp
    · rename_i h; simp [admitTake_frame h]

@[simp] theorem runTake_frame (d x : U16) (p : Byte) (c : OptField U16) (r : Byte) (s : State) :
    (runTake d x p c r s).2.now = s.now ∧ (runTake d x p c r s).2.straps = s.straps ∧
    (runTake d x p c r s).2.dests = s.dests ∧ (runTake d x p c r s).2.srcs = s.srcs ∧
    (runTake d x p c r s).2.registry = s.registry ∧ (runTake d x p c r s).2.store = s.store ∧
    (runTake d x p c r s).2.ports = s.ports ∧ (runTake d x p c r s).2.router = s.router ∧
    (runTake d x p c r s).2.gpis = s.gpis ∧ (runTake d x p c r s).2.cmps = s.cmps ∧
    (runTake d x p c r s).2.link = s.link ∧ (runTake d x p c r s).2.wallRx = s.wallRx ∧
    (runTake d x p c r s).2.recorderRx = s.recorderRx ∧ (runTake d x p c r s).2.choices = s.choices ∧
    (runTake d x p c r s).2.pending = s.pending :=
  by
  simp only [runTake]
  repeat' split
  all_goals simp

@[simp] theorem runCancelTake_frame (i g : Byte) (s : State) :
    (runCancelTake i g s).2.now = s.now ∧ (runCancelTake i g s).2.straps = s.straps ∧
    (runCancelTake i g s).2.dests = s.dests ∧ (runCancelTake i g s).2.srcs = s.srcs ∧
    (runCancelTake i g s).2.registry = s.registry ∧ (runCancelTake i g s).2.store = s.store ∧
    (runCancelTake i g s).2.ports = s.ports ∧ (runCancelTake i g s).2.router = s.router ∧
    (runCancelTake i g s).2.gpis = s.gpis ∧ (runCancelTake i g s).2.cmps = s.cmps ∧
    (runCancelTake i g s).2.link = s.link ∧ (runCancelTake i g s).2.wallRx = s.wallRx ∧
    (runCancelTake i g s).2.recorderRx = s.recorderRx ∧ (runCancelTake i g s).2.choices = s.choices ∧
    (runCancelTake i g s).2.pending = s.pending :=
  by
  simp only [runCancelTake]
  repeat' split
  all_goals simp

@[simp] theorem runReadTake_frame (i g : Byte) (s : State) :
    (runReadTake i g s).2.now = s.now ∧ (runReadTake i g s).2.straps = s.straps ∧
    (runReadTake i g s).2.dests = s.dests ∧ (runReadTake i g s).2.srcs = s.srcs ∧
    (runReadTake i g s).2.pool = s.pool ∧ (runReadTake i g s).2.registry = s.registry ∧
    (runReadTake i g s).2.store = s.store ∧ (runReadTake i g s).2.domains = s.domains ∧
    (runReadTake i g s).2.bus = s.bus ∧ (runReadTake i g s).2.walls = s.walls ∧
    (runReadTake i g s).2.ports = s.ports ∧ (runReadTake i g s).2.router = s.router ∧
    (runReadTake i g s).2.gpis = s.gpis ∧ (runReadTake i g s).2.cmps = s.cmps ∧
    (runReadTake i g s).2.link = s.link ∧ (runReadTake i g s).2.flags = s.flags ∧
    (runReadTake i g s).2.wallRx = s.wallRx ∧ (runReadTake i g s).2.recorderRx = s.recorderRx ∧
    (runReadTake i g s).2.handed = s.handed ∧ (runReadTake i g s).2.choices = s.choices ∧
    (runReadTake i g s).2.pending = s.pending :=
  by
  simp only [runReadTake]
  repeat' split
  all_goals simp

@[simp] theorem expireHold_frame (i : Slot) (s : State) :
    (expireHold i s).now = s.now ∧ (expireHold i s).straps = s.straps ∧ (expireHold i s).dests = s.dests ∧
    (expireHold i s).srcs = s.srcs ∧ (expireHold i s).registry = s.registry ∧
    (expireHold i s).store = s.store ∧ (expireHold i s).ports = s.ports ∧ (expireHold i s).router = s.router ∧
    (expireHold i s).gpis = s.gpis ∧ (expireHold i s).cmps = s.cmps ∧ (expireHold i s).link = s.link ∧
    (expireHold i s).wallRx = s.wallRx ∧ (expireHold i s).recorderRx = s.recorderRx ∧
    (expireHold i s).choices = s.choices ∧ (expireHold i s).pending = s.pending :=
  by
  simp only [expireHold]
  repeat' split
  all_goals simp

@[simp] theorem releaseProtect_frame (n : Panel) (y : ReleaseReason) (s : State) (d : Dest) :
    (releaseProtect n y s d).now = s.now ∧ (releaseProtect n y s d).straps = s.straps ∧
    (releaseProtect n y s d).dests = s.dests ∧ (releaseProtect n y s d).srcs = s.srcs ∧
    (releaseProtect n y s d).pool = s.pool ∧ (releaseProtect n y s d).store = s.store ∧
    (releaseProtect n y s d).domains = s.domains ∧ (releaseProtect n y s d).bus = s.bus ∧
    (releaseProtect n y s d).walls = s.walls ∧ (releaseProtect n y s d).ports = s.ports ∧
    (releaseProtect n y s d).router = s.router ∧ (releaseProtect n y s d).gpis = s.gpis ∧
    (releaseProtect n y s d).cmps = s.cmps ∧ (releaseProtect n y s d).link = s.link ∧
    (releaseProtect n y s d).wallRx = s.wallRx ∧ (releaseProtect n y s d).recorderRx = s.recorderRx ∧
    (releaseProtect n y s d).handed = s.handed ∧ (releaseProtect n y s d).choices = s.choices ∧
    (releaseProtect n y s d).pending = s.pending :=
  by
  simp only [releaseProtect]
  all_goals simp

@[simp] theorem releaseAll_frame (n : Panel) (y : ReleaseReason) (l : List Dest) (s : State) :
    (l.foldl (releaseProtect n y) s).now = s.now ∧ (l.foldl (releaseProtect n y) s).straps = s.straps ∧
    (l.foldl (releaseProtect n y) s).dests = s.dests ∧ (l.foldl (releaseProtect n y) s).srcs = s.srcs ∧
    (l.foldl (releaseProtect n y) s).pool = s.pool ∧ (l.foldl (releaseProtect n y) s).store = s.store ∧
    (l.foldl (releaseProtect n y) s).domains = s.domains ∧ (l.foldl (releaseProtect n y) s).bus = s.bus ∧
    (l.foldl (releaseProtect n y) s).walls = s.walls ∧ (l.foldl (releaseProtect n y) s).ports = s.ports ∧
    (l.foldl (releaseProtect n y) s).router = s.router ∧ (l.foldl (releaseProtect n y) s).gpis = s.gpis ∧
    (l.foldl (releaseProtect n y) s).cmps = s.cmps ∧ (l.foldl (releaseProtect n y) s).link = s.link ∧
    (l.foldl (releaseProtect n y) s).wallRx = s.wallRx ∧
    (l.foldl (releaseProtect n y) s).recorderRx = s.recorderRx ∧
    (l.foldl (releaseProtect n y) s).handed = s.handed ∧ (l.foldl (releaseProtect n y) s).choices = s.choices ∧
    (l.foldl (releaseProtect n y) s).pending = s.pending :=
  ⟨foldl_keep (·.now) _ (by intros; simp) _ _,
      foldl_keep (·.straps) _ (by intros; simp) _ _,
      foldl_keep (·.dests) _ (by intros; simp) _ _,
      foldl_keep (·.srcs) _ (by intros; simp) _ _,
      foldl_keep (·.pool) _ (by intros; simp) _ _,
      foldl_keep (·.store) _ (by intros; simp) _ _,
      foldl_keep (·.domains) _ (by intros; simp) _ _,
      foldl_keep (·.bus) _ (by intros; simp) _ _,
      foldl_keep (·.walls) _ (by intros; simp) _ _,
      foldl_keep (·.ports) _ (by intros; simp) _ _,
      foldl_keep (·.router) _ (by intros; simp) _ _,
      foldl_keep (·.gpis) _ (by intros; simp) _ _,
      foldl_keep (·.cmps) _ (by intros; simp) _ _,
      foldl_keep (·.link) _ (by intros; simp) _ _,
      foldl_keep (·.wallRx) _ (by intros; simp) _ _,
      foldl_keep (·.recorderRx) _ (by intros; simp) _ _,
      foldl_keep (·.handed) _ (by intros; simp) _ _,
      foldl_keep (·.choices) _ (by intros; simp) _ _,
      foldl_keep (·.pending) _ (by intros; simp) _ _⟩

@[simp] theorem runEnrolPanel_frame (p l : Byte) (s : State) :
    (runEnrolPanel p l s).2.now = s.now ∧ (runEnrolPanel p l s).2.straps = s.straps ∧
    (runEnrolPanel p l s).2.dests = s.dests ∧ (runEnrolPanel p l s).2.srcs = s.srcs ∧
    (runEnrolPanel p l s).2.pool = s.pool ∧ (runEnrolPanel p l s).2.store = s.store ∧
    (runEnrolPanel p l s).2.domains = s.domains ∧ (runEnrolPanel p l s).2.bus = s.bus ∧
    (runEnrolPanel p l s).2.walls = s.walls ∧ (runEnrolPanel p l s).2.ports = s.ports ∧
    (runEnrolPanel p l s).2.router = s.router ∧ (runEnrolPanel p l s).2.gpis = s.gpis ∧
    (runEnrolPanel p l s).2.cmps = s.cmps ∧ (runEnrolPanel p l s).2.link = s.link ∧
    (runEnrolPanel p l s).2.flags = s.flags ∧ (runEnrolPanel p l s).2.wallRx = s.wallRx ∧
    (runEnrolPanel p l s).2.recorderRx = s.recorderRx ∧ (runEnrolPanel p l s).2.handed = s.handed ∧
    (runEnrolPanel p l s).2.choices = s.choices ∧ (runEnrolPanel p l s).2.pending = s.pending :=
  by
  simp only [runEnrolPanel]
  repeat' split
  all_goals simp

@[simp] theorem runSetPanelLevel_frame (p l : Byte) (s : State) :
    (runSetPanelLevel p l s).2.now = s.now ∧ (runSetPanelLevel p l s).2.straps = s.straps ∧
    (runSetPanelLevel p l s).2.dests = s.dests ∧ (runSetPanelLevel p l s).2.srcs = s.srcs ∧
    (runSetPanelLevel p l s).2.pool = s.pool ∧ (runSetPanelLevel p l s).2.store = s.store ∧
    (runSetPanelLevel p l s).2.domains = s.domains ∧ (runSetPanelLevel p l s).2.bus = s.bus ∧
    (runSetPanelLevel p l s).2.walls = s.walls ∧ (runSetPanelLevel p l s).2.ports = s.ports ∧
    (runSetPanelLevel p l s).2.router = s.router ∧ (runSetPanelLevel p l s).2.gpis = s.gpis ∧
    (runSetPanelLevel p l s).2.cmps = s.cmps ∧ (runSetPanelLevel p l s).2.link = s.link ∧
    (runSetPanelLevel p l s).2.wallRx = s.wallRx ∧ (runSetPanelLevel p l s).2.recorderRx = s.recorderRx ∧
    (runSetPanelLevel p l s).2.handed = s.handed ∧ (runSetPanelLevel p l s).2.choices = s.choices ∧
    (runSetPanelLevel p l s).2.pending = s.pending :=
  by
  simp only [runSetPanelLevel]
  repeat' split
  all_goals simp

@[simp] theorem runWithdrawPanel_frame (p : Byte) (s : State) :
    (runWithdrawPanel p s).2.now = s.now ∧ (runWithdrawPanel p s).2.straps = s.straps ∧
    (runWithdrawPanel p s).2.dests = s.dests ∧ (runWithdrawPanel p s).2.srcs = s.srcs ∧
    (runWithdrawPanel p s).2.pool = s.pool ∧ (runWithdrawPanel p s).2.store = s.store ∧
    (runWithdrawPanel p s).2.domains = s.domains ∧ (runWithdrawPanel p s).2.bus = s.bus ∧
    (runWithdrawPanel p s).2.walls = s.walls ∧ (runWithdrawPanel p s).2.ports = s.ports ∧
    (runWithdrawPanel p s).2.router = s.router ∧ (runWithdrawPanel p s).2.gpis = s.gpis ∧
    (runWithdrawPanel p s).2.cmps = s.cmps ∧ (runWithdrawPanel p s).2.link = s.link ∧
    (runWithdrawPanel p s).2.wallRx = s.wallRx ∧ (runWithdrawPanel p s).2.recorderRx = s.recorderRx ∧
    (runWithdrawPanel p s).2.handed = s.handed ∧ (runWithdrawPanel p s).2.choices = s.choices ∧
    (runWithdrawPanel p s).2.pending = s.pending :=
  by
  simp only [runWithdrawPanel]
  repeat' split
  all_goals simp

@[simp] theorem runSetZone_frame (z l : Byte) (s : State) :
    (runSetZone z l s).2.now = s.now ∧ (runSetZone z l s).2.straps = s.straps ∧
    (runSetZone z l s).2.dests = s.dests ∧ (runSetZone z l s).2.srcs = s.srcs ∧
    (runSetZone z l s).2.pool = s.pool ∧ (runSetZone z l s).2.store = s.store ∧
    (runSetZone z l s).2.domains = s.domains ∧ (runSetZone z l s).2.bus = s.bus ∧
    (runSetZone z l s).2.walls = s.walls ∧ (runSetZone z l s).2.ports = s.ports ∧
    (runSetZone z l s).2.router = s.router ∧ (runSetZone z l s).2.gpis = s.gpis ∧
    (runSetZone z l s).2.cmps = s.cmps ∧ (runSetZone z l s).2.link = s.link ∧
    (runSetZone z l s).2.flags = s.flags ∧ (runSetZone z l s).2.wallRx = s.wallRx ∧
    (runSetZone z l s).2.recorderRx = s.recorderRx ∧ (runSetZone z l s).2.handed = s.handed ∧
    (runSetZone z l s).2.choices = s.choices ∧ (runSetZone z l s).2.pending = s.pending :=
  by
  simp only [runSetZone]
  repeat' split
  all_goals simp

@[simp] theorem protectRequest_frame (d : Dest) (p : Byte) (k : ProtectKind) (l : Level) (r : Bool) (s : State) :
    (protectRequest d p k l r s).2.now = s.now ∧ (protectRequest d p k l r s).2.straps = s.straps ∧
    (protectRequest d p k l r s).2.dests = s.dests ∧ (protectRequest d p k l r s).2.srcs = s.srcs ∧
    (protectRequest d p k l r s).2.pool = s.pool ∧ (protectRequest d p k l r s).2.store = s.store ∧
    (protectRequest d p k l r s).2.domains = s.domains ∧ (protectRequest d p k l r s).2.bus = s.bus ∧
    (protectRequest d p k l r s).2.walls = s.walls ∧ (protectRequest d p k l r s).2.ports = s.ports ∧
    (protectRequest d p k l r s).2.router = s.router ∧ (protectRequest d p k l r s).2.gpis = s.gpis ∧
    (protectRequest d p k l r s).2.cmps = s.cmps ∧ (protectRequest d p k l r s).2.link = s.link ∧
    (protectRequest d p k l r s).2.flags = s.flags ∧ (protectRequest d p k l r s).2.wallRx = s.wallRx ∧
    (protectRequest d p k l r s).2.recorderRx = s.recorderRx ∧
    (protectRequest d p k l r s).2.handed = s.handed ∧ (protectRequest d p k l r s).2.choices = s.choices ∧
    (protectRequest d p k l r s).2.pending = s.pending :=
  by
  simp only [protectRequest]
  repeat' split
  all_goals simp

@[simp] theorem runProtectDest_frame (d p k l r : Byte) (s : State) :
    (runProtectDest d p k l r s).2.now = s.now ∧ (runProtectDest d p k l r s).2.straps = s.straps ∧
    (runProtectDest d p k l r s).2.dests = s.dests ∧ (runProtectDest d p k l r s).2.srcs = s.srcs ∧
    (runProtectDest d p k l r s).2.pool = s.pool ∧ (runProtectDest d p k l r s).2.store = s.store ∧
    (runProtectDest d p k l r s).2.domains = s.domains ∧ (runProtectDest d p k l r s).2.bus = s.bus ∧
    (runProtectDest d p k l r s).2.walls = s.walls ∧ (runProtectDest d p k l r s).2.ports = s.ports ∧
    (runProtectDest d p k l r s).2.router = s.router ∧ (runProtectDest d p k l r s).2.gpis = s.gpis ∧
    (runProtectDest d p k l r s).2.cmps = s.cmps ∧ (runProtectDest d p k l r s).2.link = s.link ∧
    (runProtectDest d p k l r s).2.flags = s.flags ∧ (runProtectDest d p k l r s).2.wallRx = s.wallRx ∧
    (runProtectDest d p k l r s).2.recorderRx = s.recorderRx ∧
    (runProtectDest d p k l r s).2.handed = s.handed ∧ (runProtectDest d p k l r s).2.choices = s.choices ∧
    (runProtectDest d p k l r s).2.pending = s.pending :=
  by
  simp only [runProtectDest]
  repeat' split
  all_goals simp

@[simp] theorem runReleaseDest_frame (d p : Byte) (s : State) :
    (runReleaseDest d p s).2.now = s.now ∧ (runReleaseDest d p s).2.straps = s.straps ∧
    (runReleaseDest d p s).2.dests = s.dests ∧ (runReleaseDest d p s).2.srcs = s.srcs ∧
    (runReleaseDest d p s).2.pool = s.pool ∧ (runReleaseDest d p s).2.store = s.store ∧
    (runReleaseDest d p s).2.domains = s.domains ∧ (runReleaseDest d p s).2.bus = s.bus ∧
    (runReleaseDest d p s).2.walls = s.walls ∧ (runReleaseDest d p s).2.ports = s.ports ∧
    (runReleaseDest d p s).2.router = s.router ∧ (runReleaseDest d p s).2.gpis = s.gpis ∧
    (runReleaseDest d p s).2.cmps = s.cmps ∧ (runReleaseDest d p s).2.link = s.link ∧
    (runReleaseDest d p s).2.wallRx = s.wallRx ∧ (runReleaseDest d p s).2.recorderRx = s.recorderRx ∧
    (runReleaseDest d p s).2.handed = s.handed ∧ (runReleaseDest d p s).2.choices = s.choices ∧
    (runReleaseDest d p s).2.pending = s.pending :=
  by
  simp only [runReleaseDest]
  repeat' split
  all_goals simp

theorem admitOwn_frame {s t : State} {d : Dest} {x : Src} {g : TakeOrigin} {p : Panel} {a : Admitted}
    (h : s.admitOwn d x g p = .ok (a, t)) :
    t.now = s.now ∧ t.straps = s.straps ∧ t.dests = s.dests ∧ t.srcs = s.srcs ∧ t.registry = s.registry ∧
    t.store = s.store ∧ t.domains = s.domains ∧ t.walls = s.walls ∧ t.ports = s.ports ∧ t.router = s.router ∧
    t.gpis = s.gpis ∧ t.cmps = s.cmps ∧ t.link = s.link ∧ t.flags = s.flags ∧ t.wallRx = s.wallRx ∧
    t.recorderRx = s.recorderRx ∧ t.choices = s.choices ∧ t.pending = s.pending := by
  simp only [admitOwn] at h
  repeat' split at h
  all_goals cases h
  rename_i h
  exact admitTake_frame h

@[simp] theorem restore_frame (s : State) (d : Dest) (k : Protect) (x : Src) (y : Option Src) :
    (s.restore d k x y).2.now = s.now ∧ (s.restore d k x y).2.straps = s.straps ∧
    (s.restore d k x y).2.dests = s.dests ∧ (s.restore d k x y).2.srcs = s.srcs ∧
    (s.restore d k x y).2.registry = s.registry ∧ (s.restore d k x y).2.store = s.store ∧
    (s.restore d k x y).2.domains = s.domains ∧ (s.restore d k x y).2.walls = s.walls ∧
    (s.restore d k x y).2.ports = s.ports ∧ (s.restore d k x y).2.router = s.router ∧
    (s.restore d k x y).2.gpis = s.gpis ∧ (s.restore d k x y).2.cmps = s.cmps ∧
    (s.restore d k x y).2.link = s.link ∧ (s.restore d k x y).2.flags = s.flags ∧
    (s.restore d k x y).2.wallRx = s.wallRx ∧ (s.restore d k x y).2.recorderRx = s.recorderRx ∧
    (s.restore d k x y).2.choices = s.choices ∧ (s.restore d k x y).2.pending = s.pending :=
  by
  simp only [restore]
  repeat' split
  all_goals first
    | (simp; done)
    | (rename_i h; simpa using admitOwn_frame h)

@[simp] theorem breach_frame (s : State) (d : Dest) (x : Src) (y : Option Src) :
    (s.breach d x y).now = s.now ∧ (s.breach d x y).straps = s.straps ∧ (s.breach d x y).dests = s.dests ∧
    (s.breach d x y).srcs = s.srcs ∧ (s.breach d x y).registry = s.registry ∧
    (s.breach d x y).store = s.store ∧ (s.breach d x y).domains = s.domains ∧
    (s.breach d x y).walls = s.walls ∧ (s.breach d x y).ports = s.ports ∧ (s.breach d x y).router = s.router ∧
    (s.breach d x y).gpis = s.gpis ∧ (s.breach d x y).cmps = s.cmps ∧ (s.breach d x y).link = s.link ∧
    (s.breach d x y).wallRx = s.wallRx ∧ (s.breach d x y).recorderRx = s.recorderRx ∧
    (s.breach d x y).choices = s.choices ∧ (s.breach d x y).pending = s.pending :=
  by
  simp only [breach]
  repeat' split
  all_goals simp

@[simp] theorem storeEntries_frame (n : Salvo) (l : List (Dest × Src)) (s : State) :
    (storeEntries n l s).2.now = s.now ∧ (storeEntries n l s).2.straps = s.straps ∧
    (storeEntries n l s).2.dests = s.dests ∧ (storeEntries n l s).2.srcs = s.srcs ∧
    (storeEntries n l s).2.pool = s.pool ∧ (storeEntries n l s).2.registry = s.registry ∧
    (storeEntries n l s).2.domains = s.domains ∧ (storeEntries n l s).2.bus = s.bus ∧
    (storeEntries n l s).2.walls = s.walls ∧ (storeEntries n l s).2.ports = s.ports ∧
    (storeEntries n l s).2.router = s.router ∧ (storeEntries n l s).2.gpis = s.gpis ∧
    (storeEntries n l s).2.cmps = s.cmps ∧ (storeEntries n l s).2.link = s.link ∧
    (storeEntries n l s).2.flags = s.flags ∧ (storeEntries n l s).2.wallRx = s.wallRx ∧
    (storeEntries n l s).2.recorderRx = s.recorderRx ∧ (storeEntries n l s).2.handed = s.handed ∧
    (storeEntries n l s).2.choices = s.choices ∧ (storeEntries n l s).2.pending = s.pending :=
  by
  simp only [storeEntries]
  repeat' split
  all_goals simp

@[simp] theorem runStoreSalvo_frame (n : Byte) (l : List (Byte × U16)) (s : State) :
    (runStoreSalvo n l s).2.now = s.now ∧ (runStoreSalvo n l s).2.straps = s.straps ∧
    (runStoreSalvo n l s).2.dests = s.dests ∧ (runStoreSalvo n l s).2.srcs = s.srcs ∧
    (runStoreSalvo n l s).2.pool = s.pool ∧ (runStoreSalvo n l s).2.registry = s.registry ∧
    (runStoreSalvo n l s).2.domains = s.domains ∧ (runStoreSalvo n l s).2.bus = s.bus ∧
    (runStoreSalvo n l s).2.walls = s.walls ∧ (runStoreSalvo n l s).2.ports = s.ports ∧
    (runStoreSalvo n l s).2.router = s.router ∧ (runStoreSalvo n l s).2.gpis = s.gpis ∧
    (runStoreSalvo n l s).2.cmps = s.cmps ∧ (runStoreSalvo n l s).2.link = s.link ∧
    (runStoreSalvo n l s).2.flags = s.flags ∧ (runStoreSalvo n l s).2.wallRx = s.wallRx ∧
    (runStoreSalvo n l s).2.recorderRx = s.recorderRx ∧ (runStoreSalvo n l s).2.handed = s.handed ∧
    (runStoreSalvo n l s).2.choices = s.choices ∧ (runStoreSalvo n l s).2.pending = s.pending :=
  by
  simp only [runStoreSalvo]
  repeat' split
  all_goals simp

@[simp] theorem runEraseSalvo_frame (n : Byte) (s : State) :
    (runEraseSalvo n s).2.now = s.now ∧ (runEraseSalvo n s).2.straps = s.straps ∧
    (runEraseSalvo n s).2.dests = s.dests ∧ (runEraseSalvo n s).2.srcs = s.srcs ∧
    (runEraseSalvo n s).2.pool = s.pool ∧ (runEraseSalvo n s).2.registry = s.registry ∧
    (runEraseSalvo n s).2.domains = s.domains ∧ (runEraseSalvo n s).2.bus = s.bus ∧
    (runEraseSalvo n s).2.walls = s.walls ∧ (runEraseSalvo n s).2.ports = s.ports ∧
    (runEraseSalvo n s).2.router = s.router ∧ (runEraseSalvo n s).2.gpis = s.gpis ∧
    (runEraseSalvo n s).2.cmps = s.cmps ∧ (runEraseSalvo n s).2.link = s.link ∧
    (runEraseSalvo n s).2.flags = s.flags ∧ (runEraseSalvo n s).2.wallRx = s.wallRx ∧
    (runEraseSalvo n s).2.recorderRx = s.recorderRx ∧ (runEraseSalvo n s).2.handed = s.handed ∧
    (runEraseSalvo n s).2.choices = s.choices ∧ (runEraseSalvo n s).2.pending = s.pending :=
  by
  simp only [runEraseSalvo]
  repeat' split
  all_goals simp

@[simp] theorem runFireSalvo_frame (n p m r : Byte) (s : State) :
    (runFireSalvo n p m r s).2.now = s.now ∧ (runFireSalvo n p m r s).2.straps = s.straps ∧
    (runFireSalvo n p m r s).2.dests = s.dests ∧ (runFireSalvo n p m r s).2.srcs = s.srcs ∧
    (runFireSalvo n p m r s).2.registry = s.registry ∧ (runFireSalvo n p m r s).2.ports = s.ports ∧
    (runFireSalvo n p m r s).2.router = s.router ∧ (runFireSalvo n p m r s).2.gpis = s.gpis ∧
    (runFireSalvo n p m r s).2.cmps = s.cmps ∧ (runFireSalvo n p m r s).2.link = s.link ∧
    (runFireSalvo n p m r s).2.wallRx = s.wallRx ∧ (runFireSalvo n p m r s).2.recorderRx = s.recorderRx ∧
    (runFireSalvo n p m r s).2.choices = s.choices ∧ (runFireSalvo n p m r s).2.pending = s.pending :=
  by
  simp only [runFireSalvo]
  repeat' split
  all_goals first
    | (simp; done)
    | (rename_i e; have h := congrArg Prod.snd e; simp only at h; subst h; simp)

@[simp] theorem runUndo_frame (p : Byte) (s : State) :
    (runUndo p s).2.now = s.now ∧ (runUndo p s).2.straps = s.straps ∧ (runUndo p s).2.dests = s.dests ∧
    (runUndo p s).2.srcs = s.srcs ∧ (runUndo p s).2.registry = s.registry ∧ (runUndo p s).2.ports = s.ports ∧
    (runUndo p s).2.router = s.router ∧ (runUndo p s).2.gpis = s.gpis ∧ (runUndo p s).2.cmps = s.cmps ∧
    (runUndo p s).2.link = s.link ∧ (runUndo p s).2.wallRx = s.wallRx ∧
    (runUndo p s).2.recorderRx = s.recorderRx ∧ (runUndo p s).2.choices = s.choices ∧
    (runUndo p s).2.pending = s.pending :=
  by
  simp only [runUndo]
  repeat' split
  all_goals first
    | (simp; done)
    | (rename_i e; have h := congrArg Prod.snd e; simp only at h; subst h; simp)

@[simp] theorem runReadSalvo_frame (n : Byte) (s : State) :
    (runReadSalvo n s).2.now = s.now ∧ (runReadSalvo n s).2.straps = s.straps ∧
    (runReadSalvo n s).2.dests = s.dests ∧ (runReadSalvo n s).2.srcs = s.srcs ∧
    (runReadSalvo n s).2.pool = s.pool ∧ (runReadSalvo n s).2.registry = s.registry ∧
    (runReadSalvo n s).2.store = s.store ∧ (runReadSalvo n s).2.domains = s.domains ∧
    (runReadSalvo n s).2.bus = s.bus ∧ (runReadSalvo n s).2.walls = s.walls ∧
    (runReadSalvo n s).2.ports = s.ports ∧ (runReadSalvo n s).2.router = s.router ∧
    (runReadSalvo n s).2.gpis = s.gpis ∧ (runReadSalvo n s).2.cmps = s.cmps ∧
    (runReadSalvo n s).2.link = s.link ∧ (runReadSalvo n s).2.flags = s.flags ∧
    (runReadSalvo n s).2.wallRx = s.wallRx ∧ (runReadSalvo n s).2.recorderRx = s.recorderRx ∧
    (runReadSalvo n s).2.handed = s.handed ∧ (runReadSalvo n s).2.choices = s.choices ∧
    (runReadSalvo n s).2.pending = s.pending :=
  by
  simp only [runReadSalvo]
  repeat' split
  all_goals simp

@[simp] theorem runSetDomain_frame (d c a b : Byte) (h : U16) (s : State) :
    (runSetDomain d c a b h s).2.now = s.now ∧ (runSetDomain d c a b h s).2.straps = s.straps ∧
    (runSetDomain d c a b h s).2.dests = s.dests ∧ (runSetDomain d c a b h s).2.srcs = s.srcs ∧
    (runSetDomain d c a b h s).2.pool = s.pool ∧ (runSetDomain d c a b h s).2.registry = s.registry ∧
    (runSetDomain d c a b h s).2.store = s.store ∧ (runSetDomain d c a b h s).2.bus = s.bus ∧
    (runSetDomain d c a b h s).2.walls = s.walls ∧ (runSetDomain d c a b h s).2.ports = s.ports ∧
    (runSetDomain d c a b h s).2.router = s.router ∧ (runSetDomain d c a b h s).2.gpis = s.gpis ∧
    (runSetDomain d c a b h s).2.cmps = s.cmps ∧ (runSetDomain d c a b h s).2.link = s.link ∧
    (runSetDomain d c a b h s).2.flags = s.flags ∧ (runSetDomain d c a b h s).2.wallRx = s.wallRx ∧
    (runSetDomain d c a b h s).2.recorderRx = s.recorderRx ∧ (runSetDomain d c a b h s).2.handed = s.handed ∧
    (runSetDomain d c a b h s).2.choices = s.choices ∧ (runSetDomain d c a b h s).2.pending = s.pending :=
  by
  simp only [runSetDomain]
  repeat' split
  all_goals simp

@[simp] theorem runOpenDomain_frame (d : Byte) (s : State) :
    (runOpenDomain d s).2.now = s.now ∧ (runOpenDomain d s).2.straps = s.straps ∧
    (runOpenDomain d s).2.dests = s.dests ∧ (runOpenDomain d s).2.srcs = s.srcs ∧
    (runOpenDomain d s).2.registry = s.registry ∧ (runOpenDomain d s).2.store = s.store ∧
    (runOpenDomain d s).2.walls = s.walls ∧ (runOpenDomain d s).2.ports = s.ports ∧
    (runOpenDomain d s).2.router = s.router ∧ (runOpenDomain d s).2.gpis = s.gpis ∧
    (runOpenDomain d s).2.cmps = s.cmps ∧ (runOpenDomain d s).2.link = s.link ∧
    (runOpenDomain d s).2.wallRx = s.wallRx ∧ (runOpenDomain d s).2.recorderRx = s.recorderRx ∧
    (runOpenDomain d s).2.handed = s.handed ∧ (runOpenDomain d s).2.choices = s.choices ∧
    (runOpenDomain d s).2.pending = s.pending :=
  by
  simp only [runOpenDomain]
  repeat' split
  all_goals simp

@[simp] theorem closeDomain_frame (d : Dom) (m : CloseMode) (s : State) :
    (closeDomain d m s).2.now = s.now ∧ (closeDomain d m s).2.straps = s.straps ∧
    (closeDomain d m s).2.dests = s.dests ∧ (closeDomain d m s).2.srcs = s.srcs ∧
    (closeDomain d m s).2.registry = s.registry ∧ (closeDomain d m s).2.store = s.store ∧
    (closeDomain d m s).2.ports = s.ports ∧ (closeDomain d m s).2.router = s.router ∧
    (closeDomain d m s).2.gpis = s.gpis ∧ (closeDomain d m s).2.cmps = s.cmps ∧
    (closeDomain d m s).2.link = s.link ∧ (closeDomain d m s).2.wallRx = s.wallRx ∧
    (closeDomain d m s).2.recorderRx = s.recorderRx ∧ (closeDomain d m s).2.choices = s.choices ∧
    (closeDomain d m s).2.pending = s.pending :=
  by
  simp only [closeDomain]
  repeat' split
  all_goals simp

@[simp] theorem runCloseDomain_frame (d m : Byte) (s : State) :
    (runCloseDomain d m s).2.now = s.now ∧ (runCloseDomain d m s).2.straps = s.straps ∧
    (runCloseDomain d m s).2.dests = s.dests ∧ (runCloseDomain d m s).2.srcs = s.srcs ∧
    (runCloseDomain d m s).2.registry = s.registry ∧ (runCloseDomain d m s).2.store = s.store ∧
    (runCloseDomain d m s).2.ports = s.ports ∧ (runCloseDomain d m s).2.router = s.router ∧
    (runCloseDomain d m s).2.gpis = s.gpis ∧ (runCloseDomain d m s).2.cmps = s.cmps ∧
    (runCloseDomain d m s).2.link = s.link ∧ (runCloseDomain d m s).2.wallRx = s.wallRx ∧
    (runCloseDomain d m s).2.recorderRx = s.recorderRx ∧ (runCloseDomain d m s).2.choices = s.choices ∧
    (runCloseDomain d m s).2.pending = s.pending :=
  by
  simp only [runCloseDomain]
  repeat' split
  all_goals simp

@[simp] theorem runSetTimecode_frame (d : Byte) (v : U32) (s : State) :
    (runSetTimecode d v s).2.now = s.now ∧ (runSetTimecode d v s).2.straps = s.straps ∧
    (runSetTimecode d v s).2.dests = s.dests ∧ (runSetTimecode d v s).2.srcs = s.srcs ∧
    (runSetTimecode d v s).2.pool = s.pool ∧ (runSetTimecode d v s).2.registry = s.registry ∧
    (runSetTimecode d v s).2.store = s.store ∧ (runSetTimecode d v s).2.bus = s.bus ∧
    (runSetTimecode d v s).2.walls = s.walls ∧ (runSetTimecode d v s).2.ports = s.ports ∧
    (runSetTimecode d v s).2.router = s.router ∧ (runSetTimecode d v s).2.gpis = s.gpis ∧
    (runSetTimecode d v s).2.cmps = s.cmps ∧ (runSetTimecode d v s).2.link = s.link ∧
    (runSetTimecode d v s).2.flags = s.flags ∧ (runSetTimecode d v s).2.wallRx = s.wallRx ∧
    (runSetTimecode d v s).2.recorderRx = s.recorderRx ∧ (runSetTimecode d v s).2.handed = s.handed ∧
    (runSetTimecode d v s).2.choices = s.choices ∧ (runSetTimecode d v s).2.pending = s.pending :=
  by
  simp only [runSetTimecode]
  repeat' split
  all_goals simp

@[simp] theorem runArmMark_frame (d m : Byte) (v : U32) (e : Byte) (s : State) :
    (runArmMark d m v e s).2.now = s.now ∧ (runArmMark d m v e s).2.straps = s.straps ∧
    (runArmMark d m v e s).2.dests = s.dests ∧ (runArmMark d m v e s).2.srcs = s.srcs ∧
    (runArmMark d m v e s).2.pool = s.pool ∧ (runArmMark d m v e s).2.registry = s.registry ∧
    (runArmMark d m v e s).2.store = s.store ∧ (runArmMark d m v e s).2.bus = s.bus ∧
    (runArmMark d m v e s).2.walls = s.walls ∧ (runArmMark d m v e s).2.ports = s.ports ∧
    (runArmMark d m v e s).2.gpis = s.gpis ∧ (runArmMark d m v e s).2.cmps = s.cmps ∧
    (runArmMark d m v e s).2.link = s.link ∧ (runArmMark d m v e s).2.flags = s.flags ∧
    (runArmMark d m v e s).2.wallRx = s.wallRx ∧ (runArmMark d m v e s).2.recorderRx = s.recorderRx ∧
    (runArmMark d m v e s).2.handed = s.handed ∧ (runArmMark d m v e s).2.choices = s.choices ∧
    (runArmMark d m v e s).2.pending = s.pending :=
  by
  simp only [runArmMark]
  repeat' split
  all_goals simp

@[simp] theorem runDisarmMark_frame (d : Byte) (s : State) :
    (runDisarmMark d s).2.now = s.now ∧ (runDisarmMark d s).2.straps = s.straps ∧
    (runDisarmMark d s).2.dests = s.dests ∧ (runDisarmMark d s).2.srcs = s.srcs ∧
    (runDisarmMark d s).2.pool = s.pool ∧ (runDisarmMark d s).2.registry = s.registry ∧
    (runDisarmMark d s).2.store = s.store ∧ (runDisarmMark d s).2.bus = s.bus ∧
    (runDisarmMark d s).2.walls = s.walls ∧ (runDisarmMark d s).2.ports = s.ports ∧
    (runDisarmMark d s).2.gpis = s.gpis ∧ (runDisarmMark d s).2.cmps = s.cmps ∧
    (runDisarmMark d s).2.link = s.link ∧ (runDisarmMark d s).2.flags = s.flags ∧
    (runDisarmMark d s).2.wallRx = s.wallRx ∧ (runDisarmMark d s).2.recorderRx = s.recorderRx ∧
    (runDisarmMark d s).2.handed = s.handed ∧ (runDisarmMark d s).2.choices = s.choices ∧
    (runDisarmMark d s).2.pending = s.pending :=
  by
  simp only [runDisarmMark]
  repeat' split
  all_goals simp

@[simp] theorem runReadDomain_frame (d : Byte) (s : State) :
    (runReadDomain d s).2.now = s.now ∧ (runReadDomain d s).2.straps = s.straps ∧
    (runReadDomain d s).2.dests = s.dests ∧ (runReadDomain d s).2.srcs = s.srcs ∧
    (runReadDomain d s).2.pool = s.pool ∧ (runReadDomain d s).2.registry = s.registry ∧
    (runReadDomain d s).2.store = s.store ∧ (runReadDomain d s).2.domains = s.domains ∧
    (runReadDomain d s).2.bus = s.bus ∧ (runReadDomain d s).2.walls = s.walls ∧
    (runReadDomain d s).2.ports = s.ports ∧ (runReadDomain d s).2.router = s.router ∧
    (runReadDomain d s).2.gpis = s.gpis ∧ (runReadDomain d s).2.cmps = s.cmps ∧
    (runReadDomain d s).2.link = s.link ∧ (runReadDomain d s).2.flags = s.flags ∧
    (runReadDomain d s).2.wallRx = s.wallRx ∧ (runReadDomain d s).2.recorderRx = s.recorderRx ∧
    (runReadDomain d s).2.handed = s.handed ∧ (runReadDomain d s).2.choices = s.choices ∧
    (runReadDomain d s).2.pending = s.pending :=
  by
  simp only [runReadDomain]
  repeat' split
  all_goals simp

@[simp] theorem loseByTimeout_frame (d : Dom) (s : State) :
    (loseByTimeout d s).now = s.now ∧ (loseByTimeout d s).straps = s.straps ∧
    (loseByTimeout d s).srcs = s.srcs ∧ (loseByTimeout d s).registry = s.registry ∧
    (loseByTimeout d s).router = s.router ∧ (loseByTimeout d s).gpis = s.gpis ∧
    (loseByTimeout d s).link = s.link ∧ (loseByTimeout d s).wallRx = s.wallRx ∧
    (loseByTimeout d s).recorderRx = s.recorderRx ∧ (loseByTimeout d s).pending = s.pending :=
  by
  simp only [loseByTimeout]
  repeat' split
  all_goals simp

@[simp] theorem timerFrame_frame (d : Dom) (b : Bool) (s : State) :
    (timerFrame d b s).now = s.now ∧ (timerFrame d b s).straps = s.straps ∧ (timerFrame d b s).srcs = s.srcs ∧
    (timerFrame d b s).registry = s.registry ∧ (timerFrame d b s).router = s.router ∧
    (timerFrame d b s).gpis = s.gpis ∧ (timerFrame d b s).link = s.link ∧
    (timerFrame d b s).wallRx = s.wallRx ∧ (timerFrame d b s).recorderRx = s.recorderRx ∧
    (timerFrame d b s).pending = s.pending :=
  by
  simp only [timerFrame]
  repeat' split
  all_goals simp

@[simp] theorem confirmOwn_frame (s : State) (d : Dest) (x : Src) :
    (s.confirmOwn d x).now = s.now ∧ (s.confirmOwn d x).straps = s.straps ∧
    (s.confirmOwn d x).registry = s.registry ∧ (s.confirmOwn d x).store = s.store ∧
    (s.confirmOwn d x).ports = s.ports ∧ (s.confirmOwn d x).router = s.router ∧
    (s.confirmOwn d x).gpis = s.gpis ∧ (s.confirmOwn d x).cmps = s.cmps ∧ (s.confirmOwn d x).link = s.link ∧
    (s.confirmOwn d x).wallRx = s.wallRx ∧ (s.confirmOwn d x).recorderRx = s.recorderRx ∧
    (s.confirmOwn d x).choices = s.choices ∧ (s.confirmOwn d x).pending = s.pending :=
  by
  simp only [confirmOwn]
  repeat' split
  all_goals simp

@[simp] theorem confirmForeign_frame (s : State) (d : Dest) (x : Src) :
    (s.confirmForeign d x).now = s.now ∧ (s.confirmForeign d x).straps = s.straps ∧
    (s.confirmForeign d x).registry = s.registry ∧ (s.confirmForeign d x).store = s.store ∧
    (s.confirmForeign d x).ports = s.ports ∧ (s.confirmForeign d x).router = s.router ∧
    (s.confirmForeign d x).gpis = s.gpis ∧ (s.confirmForeign d x).cmps = s.cmps ∧
    (s.confirmForeign d x).link = s.link ∧ (s.confirmForeign d x).wallRx = s.wallRx ∧
    (s.confirmForeign d x).recorderRx = s.recorderRx ∧ (s.confirmForeign d x).choices = s.choices ∧
    (s.confirmForeign d x).pending = s.pending :=
  by
  simp only [confirmForeign]
  all_goals simp

@[simp] theorem walkOn_frame (s : State) (d : Dest) :
    (s.walkOn d).now = s.now ∧ (s.walkOn d).straps = s.straps ∧ (s.walkOn d).dests = s.dests ∧
    (s.walkOn d).srcs = s.srcs ∧ (s.walkOn d).pool = s.pool ∧ (s.walkOn d).registry = s.registry ∧
    (s.walkOn d).store = s.store ∧ (s.walkOn d).domains = s.domains ∧ (s.walkOn d).walls = s.walls ∧
    (s.walkOn d).ports = s.ports ∧ (s.walkOn d).router = s.router ∧ (s.walkOn d).gpis = s.gpis ∧
    (s.walkOn d).cmps = s.cmps ∧ (s.walkOn d).link = s.link ∧ (s.walkOn d).flags = s.flags ∧
    (s.walkOn d).wallRx = s.wallRx ∧ (s.walkOn d).recorderRx = s.recorderRx ∧ (s.walkOn d).handed = s.handed ∧
    (s.walkOn d).choices = s.choices ∧ (s.walkOn d).pending = s.pending :=
  by
  simp only [walkOn]
  repeat' split
  all_goals simp

@[simp] theorem sendReadback_frame (s : State) (d : Dest) (k : ReadbackKind) :
    (s.sendReadback d k).now = s.now ∧ (s.sendReadback d k).straps = s.straps ∧
    (s.sendReadback d k).dests = s.dests ∧ (s.sendReadback d k).srcs = s.srcs ∧
    (s.sendReadback d k).pool = s.pool ∧ (s.sendReadback d k).registry = s.registry ∧
    (s.sendReadback d k).store = s.store ∧ (s.sendReadback d k).domains = s.domains ∧
    (s.sendReadback d k).walls = s.walls ∧ (s.sendReadback d k).ports = s.ports ∧
    (s.sendReadback d k).router = s.router ∧ (s.sendReadback d k).gpis = s.gpis ∧
    (s.sendReadback d k).cmps = s.cmps ∧ (s.sendReadback d k).link = s.link ∧
    (s.sendReadback d k).flags = s.flags ∧ (s.sendReadback d k).wallRx = s.wallRx ∧
    (s.sendReadback d k).recorderRx = s.recorderRx ∧ (s.sendReadback d k).handed = s.handed ∧
    (s.sendReadback d k).choices = s.choices ∧ (s.sendReadback d k).pending = s.pending :=
  by
  simp only [sendReadback]
  all_goals simp

@[simp] theorem walkNext_frame (n : Nat) (s : State) :
    (walkNext n s).now = s.now ∧ (walkNext n s).straps = s.straps ∧ (walkNext n s).dests = s.dests ∧
    (walkNext n s).srcs = s.srcs ∧ (walkNext n s).pool = s.pool ∧ (walkNext n s).registry = s.registry ∧
    (walkNext n s).store = s.store ∧ (walkNext n s).domains = s.domains ∧ (walkNext n s).walls = s.walls ∧
    (walkNext n s).ports = s.ports ∧ (walkNext n s).router = s.router ∧ (walkNext n s).gpis = s.gpis ∧
    (walkNext n s).cmps = s.cmps ∧ (walkNext n s).link = s.link ∧ (walkNext n s).flags = s.flags ∧
    (walkNext n s).wallRx = s.wallRx ∧ (walkNext n s).recorderRx = s.recorderRx ∧
    (walkNext n s).handed = s.handed ∧ (walkNext n s).choices = s.choices ∧
    (walkNext n s).pending = s.pending :=
  by
  induction n generalizing s with
  | zero => simp [walkNext]
  | succ n ih =>
    simp only [walkNext]
    split
    · simp
    · split
      · simp
      · simp [ih]

@[simp] theorem readbackNext_frame (s : State) :
    s.readbackNext.now = s.now ∧ s.readbackNext.straps = s.straps ∧ s.readbackNext.dests = s.dests ∧
    s.readbackNext.srcs = s.srcs ∧ s.readbackNext.pool = s.pool ∧ s.readbackNext.registry = s.registry ∧
    s.readbackNext.store = s.store ∧ s.readbackNext.domains = s.domains ∧ s.readbackNext.walls = s.walls ∧
    s.readbackNext.ports = s.ports ∧ s.readbackNext.router = s.router ∧ s.readbackNext.gpis = s.gpis ∧
    s.readbackNext.cmps = s.cmps ∧ s.readbackNext.link = s.link ∧ s.readbackNext.flags = s.flags ∧
    s.readbackNext.wallRx = s.wallRx ∧ s.readbackNext.recorderRx = s.recorderRx ∧
    s.readbackNext.handed = s.handed ∧ s.readbackNext.choices = s.choices ∧
    s.readbackNext.pending = s.pending :=
  by
  simp only [readbackNext]
  repeat' split
  all_goals simp

@[simp] theorem repair_frame (s : State) (d : Dest) (x : Src) :
    (s.repair d x).2.now = s.now ∧ (s.repair d x).2.straps = s.straps ∧ (s.repair d x).2.dests = s.dests ∧
    (s.repair d x).2.srcs = s.srcs ∧ (s.repair d x).2.registry = s.registry ∧
    (s.repair d x).2.store = s.store ∧ (s.repair d x).2.domains = s.domains ∧
    (s.repair d x).2.walls = s.walls ∧ (s.repair d x).2.ports = s.ports ∧ (s.repair d x).2.router = s.router ∧
    (s.repair d x).2.gpis = s.gpis ∧ (s.repair d x).2.cmps = s.cmps ∧ (s.repair d x).2.link = s.link ∧
    (s.repair d x).2.flags = s.flags ∧ (s.repair d x).2.wallRx = s.wallRx ∧
    (s.repair d x).2.recorderRx = s.recorderRx ∧ (s.repair d x).2.choices = s.choices ∧
    (s.repair d x).2.pending = s.pending :=
  by
  simp only [repair]
  repeat' split
  all_goals first
    | (simp; done)
    | (rename_i h; simpa using admitOwn_frame h)

@[simp] theorem addDiscrepancy_frame (s : State) (r : Discrepancy) :
    (s.addDiscrepancy r).now = s.now ∧ (s.addDiscrepancy r).straps = s.straps ∧
    (s.addDiscrepancy r).dests = s.dests ∧ (s.addDiscrepancy r).srcs = s.srcs ∧
    (s.addDiscrepancy r).pool = s.pool ∧ (s.addDiscrepancy r).registry = s.registry ∧
    (s.addDiscrepancy r).store = s.store ∧ (s.addDiscrepancy r).domains = s.domains ∧
    (s.addDiscrepancy r).walls = s.walls ∧ (s.addDiscrepancy r).ports = s.ports ∧
    (s.addDiscrepancy r).router = s.router ∧ (s.addDiscrepancy r).gpis = s.gpis ∧
    (s.addDiscrepancy r).cmps = s.cmps ∧ (s.addDiscrepancy r).link = s.link ∧
    (s.addDiscrepancy r).flags = s.flags ∧ (s.addDiscrepancy r).wallRx = s.wallRx ∧
    (s.addDiscrepancy r).recorderRx = s.recorderRx ∧ (s.addDiscrepancy r).handed = s.handed ∧
    (s.addDiscrepancy r).choices = s.choices ∧ (s.addDiscrepancy r).pending = s.pending :=
  by
  simp only [addDiscrepancy]
  all_goals simp

@[simp] theorem endReadback_frame (s : State) (r : Readback) :
    (s.endReadback r).now = s.now ∧ (s.endReadback r).straps = s.straps ∧ (s.endReadback r).dests = s.dests ∧
    (s.endReadback r).srcs = s.srcs ∧ (s.endReadback r).pool = s.pool ∧
    (s.endReadback r).registry = s.registry ∧ (s.endReadback r).store = s.store ∧
    (s.endReadback r).domains = s.domains ∧ (s.endReadback r).walls = s.walls ∧
    (s.endReadback r).ports = s.ports ∧ (s.endReadback r).router = s.router ∧ (s.endReadback r).gpis = s.gpis ∧
    (s.endReadback r).cmps = s.cmps ∧ (s.endReadback r).link = s.link ∧ (s.endReadback r).flags = s.flags ∧
    (s.endReadback r).wallRx = s.wallRx ∧ (s.endReadback r).recorderRx = s.recorderRx ∧
    (s.endReadback r).handed = s.handed ∧ (s.endReadback r).choices = s.choices ∧
    (s.endReadback r).pending = s.pending :=
  by
  simp only [endReadback]
  repeat' split
  all_goals simp

@[simp] theorem answerSource_frame (s : State) (r : Readback) (x : Src) :
    (s.answerSource r x).now = s.now ∧ (s.answerSource r x).straps = s.straps ∧
    (s.answerSource r x).registry = s.registry ∧ (s.answerSource r x).store = s.store ∧
    (s.answerSource r x).domains = s.domains ∧ (s.answerSource r x).walls = s.walls ∧
    (s.answerSource r x).ports = s.ports ∧ (s.answerSource r x).router = s.router ∧
    (s.answerSource r x).gpis = s.gpis ∧ (s.answerSource r x).cmps = s.cmps ∧
    (s.answerSource r x).link = s.link ∧ (s.answerSource r x).flags = s.flags ∧
    (s.answerSource r x).wallRx = s.wallRx ∧ (s.answerSource r x).recorderRx = s.recorderRx ∧
    (s.answerSource r x).choices = s.choices ∧ (s.answerSource r x).pending = s.pending :=
  by
  simp only [answerSource]
  repeat' split
  all_goals simp

@[simp] theorem answerNone_frame (s : State) (r : Readback) :
    (s.answerNone r).now = s.now ∧ (s.answerNone r).straps = s.straps ∧ (s.answerNone r).srcs = s.srcs ∧
    (s.answerNone r).pool = s.pool ∧ (s.answerNone r).registry = s.registry ∧
    (s.answerNone r).store = s.store ∧ (s.answerNone r).domains = s.domains ∧
    (s.answerNone r).walls = s.walls ∧ (s.answerNone r).ports = s.ports ∧ (s.answerNone r).router = s.router ∧
    (s.answerNone r).gpis = s.gpis ∧ (s.answerNone r).cmps = s.cmps ∧ (s.answerNone r).link = s.link ∧
    (s.answerNone r).flags = s.flags ∧ (s.answerNone r).wallRx = s.wallRx ∧
    (s.answerNone r).recorderRx = s.recorderRx ∧ (s.answerNone r).choices = s.choices ∧
    (s.answerNone r).pending = s.pending :=
  by
  simp only [answerNone]
  all_goals simp

@[simp] theorem answer_frame (s : State) (d : Dest) (x : Option Src) :
    (s.answer d x).now = s.now ∧ (s.answer d x).straps = s.straps ∧ (s.answer d x).registry = s.registry ∧
    (s.answer d x).store = s.store ∧ (s.answer d x).ports = s.ports ∧ (s.answer d x).router = s.router ∧
    (s.answer d x).gpis = s.gpis ∧ (s.answer d x).cmps = s.cmps ∧ (s.answer d x).link = s.link ∧
    (s.answer d x).wallRx = s.wallRx ∧ (s.answer d x).recorderRx = s.recorderRx ∧
    (s.answer d x).choices = s.choices ∧ (s.answer d x).pending = s.pending :=
  by
  simp only [answer]
  repeat' split
  all_goals simp

@[simp] theorem answerTimeout_frame (s : State) :
    s.answerTimeout.now = s.now ∧ s.answerTimeout.straps = s.straps ∧ s.answerTimeout.registry = s.registry ∧
    s.answerTimeout.store = s.store ∧ s.answerTimeout.ports = s.ports ∧ s.answerTimeout.router = s.router ∧
    s.answerTimeout.gpis = s.gpis ∧ s.answerTimeout.cmps = s.cmps ∧ s.answerTimeout.link = s.link ∧
    s.answerTimeout.wallRx = s.wallRx ∧ s.answerTimeout.recorderRx = s.recorderRx ∧
    s.answerTimeout.choices = s.choices ∧ s.answerTimeout.pending = s.pending :=
  by
  simp only [answerTimeout]
  repeat' split
  all_goals simp

@[simp] theorem joinPriority_frame (s : State) (d : Dest) :
    (s.joinPriority d).now = s.now ∧ (s.joinPriority d).straps = s.straps ∧
    (s.joinPriority d).dests = s.dests ∧ (s.joinPriority d).srcs = s.srcs ∧ (s.joinPriority d).pool = s.pool ∧
    (s.joinPriority d).registry = s.registry ∧ (s.joinPriority d).store = s.store ∧
    (s.joinPriority d).domains = s.domains ∧ (s.joinPriority d).walls = s.walls ∧
    (s.joinPriority d).ports = s.ports ∧ (s.joinPriority d).router = s.router ∧
    (s.joinPriority d).gpis = s.gpis ∧ (s.joinPriority d).cmps = s.cmps ∧ (s.joinPriority d).link = s.link ∧
    (s.joinPriority d).flags = s.flags ∧ (s.joinPriority d).wallRx = s.wallRx ∧
    (s.joinPriority d).recorderRx = s.recorderRx ∧ (s.joinPriority d).handed = s.handed ∧
    (s.joinPriority d).choices = s.choices ∧ (s.joinPriority d).pending = s.pending :=
  by
  simp only [joinPriority]
  repeat' split
  all_goals simp

@[simp] theorem expireAbsent_frame (s : State) (i : Slot) :
    (s.expireAbsent i).now = s.now ∧ (s.expireAbsent i).straps = s.straps ∧
    (s.expireAbsent i).registry = s.registry ∧ (s.expireAbsent i).store = s.store ∧
    (s.expireAbsent i).ports = s.ports ∧ (s.expireAbsent i).router = s.router ∧
    (s.expireAbsent i).gpis = s.gpis ∧ (s.expireAbsent i).cmps = s.cmps ∧ (s.expireAbsent i).link = s.link ∧
    (s.expireAbsent i).wallRx = s.wallRx ∧ (s.expireAbsent i).recorderRx = s.recorderRx ∧
    (s.expireAbsent i).choices = s.choices ∧ (s.expireAbsent i).pending = s.pending :=
  by
  simp only [expireAbsent]
  repeat' split
  all_goals simp

@[simp] theorem beginVerify_frame (s : State) :
    s.beginVerify.now = s.now ∧ s.beginVerify.straps = s.straps ∧ s.beginVerify.dests = s.dests ∧
    s.beginVerify.srcs = s.srcs ∧ s.beginVerify.pool = s.pool ∧ s.beginVerify.registry = s.registry ∧
    s.beginVerify.store = s.store ∧ s.beginVerify.domains = s.domains ∧ s.beginVerify.walls = s.walls ∧
    s.beginVerify.ports = s.ports ∧ s.beginVerify.router = s.router ∧ s.beginVerify.gpis = s.gpis ∧
    s.beginVerify.cmps = s.cmps ∧ s.beginVerify.link = s.link ∧ s.beginVerify.flags = s.flags ∧
    s.beginVerify.wallRx = s.wallRx ∧ s.beginVerify.recorderRx = s.recorderRx ∧
    s.beginVerify.handed = s.handed ∧ s.beginVerify.choices = s.choices ∧ s.beginVerify.pending = s.pending :=
  by
  simp only [beginVerify]
  all_goals simp

@[simp] theorem transferEnd_frame (s : State) :
    s.transferEnd.now = s.now ∧ s.transferEnd.straps = s.straps ∧ s.transferEnd.dests = s.dests ∧
    s.transferEnd.srcs = s.srcs ∧ s.transferEnd.pool = s.pool ∧ s.transferEnd.registry = s.registry ∧
    s.transferEnd.store = s.store ∧ s.transferEnd.domains = s.domains ∧ s.transferEnd.walls = s.walls ∧
    s.transferEnd.ports = s.ports ∧ s.transferEnd.router = s.router ∧ s.transferEnd.gpis = s.gpis ∧
    s.transferEnd.cmps = s.cmps ∧ s.transferEnd.link = s.link ∧ s.transferEnd.flags = s.flags ∧
    s.transferEnd.wallRx = s.wallRx ∧ s.transferEnd.recorderRx = s.recorderRx ∧
    s.transferEnd.handed = s.handed ∧ s.transferEnd.choices = s.choices ∧ s.transferEnd.pending = s.pending :=
  by
  simp only [transferEnd]
  all_goals simp

@[simp] theorem hearTransaction_frame (l : List Byte) (s : State) :
    (hearTransaction l s).now = s.now ∧ (hearTransaction l s).straps = s.straps ∧
    (hearTransaction l s).registry = s.registry ∧ (hearTransaction l s).store = s.store ∧
    (hearTransaction l s).ports = s.ports ∧ (hearTransaction l s).router = s.router ∧
    (hearTransaction l s).gpis = s.gpis ∧ (hearTransaction l s).cmps = s.cmps ∧
    (hearTransaction l s).link = s.link ∧ (hearTransaction l s).wallRx = s.wallRx ∧
    (hearTransaction l s).recorderRx = s.recorderRx ∧ (hearTransaction l s).choices = s.choices ∧
    (hearTransaction l s).pending = s.pending :=
  by
  simp only [hearTransaction]
  repeat' split
  all_goals simp

@[simp] theorem runSetVerify_frame (i : U16) (p : Byte) (s : State) :
    (runSetVerify i p s).2.now = s.now ∧ (runSetVerify i p s).2.straps = s.straps ∧
    (runSetVerify i p s).2.dests = s.dests ∧ (runSetVerify i p s).2.srcs = s.srcs ∧
    (runSetVerify i p s).2.pool = s.pool ∧ (runSetVerify i p s).2.registry = s.registry ∧
    (runSetVerify i p s).2.store = s.store ∧ (runSetVerify i p s).2.domains = s.domains ∧
    (runSetVerify i p s).2.walls = s.walls ∧ (runSetVerify i p s).2.ports = s.ports ∧
    (runSetVerify i p s).2.router = s.router ∧ (runSetVerify i p s).2.gpis = s.gpis ∧
    (runSetVerify i p s).2.cmps = s.cmps ∧ (runSetVerify i p s).2.link = s.link ∧
    (runSetVerify i p s).2.flags = s.flags ∧ (runSetVerify i p s).2.wallRx = s.wallRx ∧
    (runSetVerify i p s).2.recorderRx = s.recorderRx ∧ (runSetVerify i p s).2.handed = s.handed ∧
    (runSetVerify i p s).2.choices = s.choices ∧ (runSetVerify i p s).2.pending = s.pending :=
  by
  simp only [runSetVerify]
  repeat' split
  all_goals simp

@[simp] theorem runStartWalk_frame  (s : State) :
    (runStartWalk  s).2.now = s.now ∧ (runStartWalk  s).2.straps = s.straps ∧
    (runStartWalk  s).2.dests = s.dests ∧ (runStartWalk  s).2.srcs = s.srcs ∧
    (runStartWalk  s).2.pool = s.pool ∧ (runStartWalk  s).2.registry = s.registry ∧
    (runStartWalk  s).2.store = s.store ∧ (runStartWalk  s).2.domains = s.domains ∧
    (runStartWalk  s).2.walls = s.walls ∧ (runStartWalk  s).2.ports = s.ports ∧
    (runStartWalk  s).2.router = s.router ∧ (runStartWalk  s).2.gpis = s.gpis ∧
    (runStartWalk  s).2.cmps = s.cmps ∧ (runStartWalk  s).2.link = s.link ∧
    (runStartWalk  s).2.flags = s.flags ∧ (runStartWalk  s).2.wallRx = s.wallRx ∧
    (runStartWalk  s).2.recorderRx = s.recorderRx ∧ (runStartWalk  s).2.handed = s.handed ∧
    (runStartWalk  s).2.choices = s.choices ∧ (runStartWalk  s).2.pending = s.pending :=
  by
  simp only [runStartWalk]
  repeat' split
  all_goals simp

@[simp] theorem runClearFault_frame (d : Byte) (s : State) :
    (runClearFault d s).2.now = s.now ∧ (runClearFault d s).2.straps = s.straps ∧
    (runClearFault d s).2.srcs = s.srcs ∧ (runClearFault d s).2.pool = s.pool ∧
    (runClearFault d s).2.registry = s.registry ∧ (runClearFault d s).2.store = s.store ∧
    (runClearFault d s).2.domains = s.domains ∧ (runClearFault d s).2.ports = s.ports ∧
    (runClearFault d s).2.router = s.router ∧ (runClearFault d s).2.gpis = s.gpis ∧
    (runClearFault d s).2.cmps = s.cmps ∧ (runClearFault d s).2.link = s.link ∧
    (runClearFault d s).2.flags = s.flags ∧ (runClearFault d s).2.wallRx = s.wallRx ∧
    (runClearFault d s).2.recorderRx = s.recorderRx ∧ (runClearFault d s).2.choices = s.choices ∧
    (runClearFault d s).2.pending = s.pending :=
  by
  simp only [runClearFault]
  repeat' split
  all_goals simp

@[simp] theorem runReadBus_frame  (s : State) :
    (runReadBus  s).2.now = s.now ∧ (runReadBus  s).2.straps = s.straps ∧ (runReadBus  s).2.dests = s.dests ∧
    (runReadBus  s).2.srcs = s.srcs ∧ (runReadBus  s).2.pool = s.pool ∧
    (runReadBus  s).2.registry = s.registry ∧ (runReadBus  s).2.store = s.store ∧
    (runReadBus  s).2.domains = s.domains ∧ (runReadBus  s).2.bus = s.bus ∧ (runReadBus  s).2.walls = s.walls ∧
    (runReadBus  s).2.ports = s.ports ∧ (runReadBus  s).2.router = s.router ∧ (runReadBus  s).2.gpis = s.gpis ∧
    (runReadBus  s).2.cmps = s.cmps ∧ (runReadBus  s).2.link = s.link ∧ (runReadBus  s).2.flags = s.flags ∧
    (runReadBus  s).2.wallRx = s.wallRx ∧ (runReadBus  s).2.recorderRx = s.recorderRx ∧
    (runReadBus  s).2.handed = s.handed ∧ (runReadBus  s).2.choices = s.choices ∧
    (runReadBus  s).2.pending = s.pending :=
  by
  simp only [runReadBus]
  all_goals simp

@[simp] theorem dropFrame_frame (s : State) (w : Wall) (l : WallState) :
    (s.dropFrame w l).now = s.now ∧ (s.dropFrame w l).straps = s.straps ∧ (s.dropFrame w l).dests = s.dests ∧
    (s.dropFrame w l).srcs = s.srcs ∧ (s.dropFrame w l).pool = s.pool ∧
    (s.dropFrame w l).registry = s.registry ∧ (s.dropFrame w l).store = s.store ∧
    (s.dropFrame w l).domains = s.domains ∧ (s.dropFrame w l).bus = s.bus ∧ (s.dropFrame w l).ports = s.ports ∧
    (s.dropFrame w l).router = s.router ∧ (s.dropFrame w l).gpis = s.gpis ∧ (s.dropFrame w l).cmps = s.cmps ∧
    (s.dropFrame w l).link = s.link ∧ (s.dropFrame w l).flags = s.flags ∧ (s.dropFrame w l).wallRx = s.wallRx ∧
    (s.dropFrame w l).recorderRx = s.recorderRx ∧ (s.dropFrame w l).handed = s.handed ∧
    (s.dropFrame w l).choices = s.choices ∧ (s.dropFrame w l).pending = s.pending :=
  by
  simp only [dropFrame]
  all_goals simp

@[simp] theorem wallHello_frame (s : State) (w : Wall) :
    (s.wallHello w).now = s.now ∧ (s.wallHello w).straps = s.straps ∧ (s.wallHello w).dests = s.dests ∧
    (s.wallHello w).srcs = s.srcs ∧ (s.wallHello w).pool = s.pool ∧ (s.wallHello w).registry = s.registry ∧
    (s.wallHello w).store = s.store ∧ (s.wallHello w).domains = s.domains ∧ (s.wallHello w).bus = s.bus ∧
    (s.wallHello w).ports = s.ports ∧ (s.wallHello w).router = s.router ∧ (s.wallHello w).gpis = s.gpis ∧
    (s.wallHello w).cmps = s.cmps ∧ (s.wallHello w).link = s.link ∧ (s.wallHello w).wallRx = s.wallRx ∧
    (s.wallHello w).recorderRx = s.recorderRx ∧ (s.wallHello w).handed = s.handed ∧
    (s.wallHello w).choices = s.choices ∧ (s.wallHello w).pending = s.pending :=
  by
  simp only [wallHello]
  all_goals simp

@[simp] theorem wallAck_frame (s : State) (w : Wall) (n : Byte) :
    (s.wallAck w n).now = s.now ∧ (s.wallAck w n).straps = s.straps ∧ (s.wallAck w n).dests = s.dests ∧
    (s.wallAck w n).srcs = s.srcs ∧ (s.wallAck w n).pool = s.pool ∧ (s.wallAck w n).registry = s.registry ∧
    (s.wallAck w n).store = s.store ∧ (s.wallAck w n).domains = s.domains ∧ (s.wallAck w n).bus = s.bus ∧
    (s.wallAck w n).ports = s.ports ∧ (s.wallAck w n).router = s.router ∧ (s.wallAck w n).gpis = s.gpis ∧
    (s.wallAck w n).cmps = s.cmps ∧ (s.wallAck w n).link = s.link ∧ (s.wallAck w n).flags = s.flags ∧
    (s.wallAck w n).wallRx = s.wallRx ∧ (s.wallAck w n).recorderRx = s.recorderRx ∧
    (s.wallAck w n).handed = s.handed ∧ (s.wallAck w n).choices = s.choices ∧
    (s.wallAck w n).pending = s.pending :=
  by
  simp only [wallAck]
  repeat' split
  all_goals simp

@[simp] theorem ackTimeout_frame (s : State) (w : Wall) :
    (s.ackTimeout w).now = s.now ∧ (s.ackTimeout w).straps = s.straps ∧ (s.ackTimeout w).dests = s.dests ∧
    (s.ackTimeout w).srcs = s.srcs ∧ (s.ackTimeout w).pool = s.pool ∧ (s.ackTimeout w).registry = s.registry ∧
    (s.ackTimeout w).store = s.store ∧ (s.ackTimeout w).domains = s.domains ∧ (s.ackTimeout w).bus = s.bus ∧
    (s.ackTimeout w).ports = s.ports ∧ (s.ackTimeout w).router = s.router ∧ (s.ackTimeout w).gpis = s.gpis ∧
    (s.ackTimeout w).cmps = s.cmps ∧ (s.ackTimeout w).link = s.link ∧ (s.ackTimeout w).wallRx = s.wallRx ∧
    (s.ackTimeout w).recorderRx = s.recorderRx ∧ (s.ackTimeout w).handed = s.handed ∧
    (s.ackTimeout w).choices = s.choices ∧ (s.ackTimeout w).pending = s.pending :=
  by
  simp only [ackTimeout]
  repeat' split
  all_goals simp

@[simp] theorem wallFrame_frame (s : State) (w : Wall) (f : PartnerFrame) :
    (s.wallFrame w f).now = s.now ∧ (s.wallFrame w f).straps = s.straps ∧ (s.wallFrame w f).dests = s.dests ∧
    (s.wallFrame w f).srcs = s.srcs ∧ (s.wallFrame w f).pool = s.pool ∧
    (s.wallFrame w f).registry = s.registry ∧ (s.wallFrame w f).store = s.store ∧
    (s.wallFrame w f).domains = s.domains ∧ (s.wallFrame w f).bus = s.bus ∧ (s.wallFrame w f).ports = s.ports ∧
    (s.wallFrame w f).router = s.router ∧ (s.wallFrame w f).gpis = s.gpis ∧ (s.wallFrame w f).cmps = s.cmps ∧
    (s.wallFrame w f).link = s.link ∧ (s.wallFrame w f).wallRx = s.wallRx ∧
    (s.wallFrame w f).recorderRx = s.recorderRx ∧ (s.wallFrame w f).handed = s.handed ∧
    (s.wallFrame w f).choices = s.choices ∧ (s.wallFrame w f).pending = s.pending :=
  by
  simp only [wallFrame]
  repeat' split
  all_goals simp

@[simp] theorem wallByte_frame (w : Wall) (s : State) (b : Byte) :
    (wallByte w s b).now = s.now ∧ (wallByte w s b).straps = s.straps ∧ (wallByte w s b).dests = s.dests ∧
    (wallByte w s b).srcs = s.srcs ∧ (wallByte w s b).pool = s.pool ∧ (wallByte w s b).registry = s.registry ∧
    (wallByte w s b).store = s.store ∧ (wallByte w s b).domains = s.domains ∧ (wallByte w s b).bus = s.bus ∧
    (wallByte w s b).ports = s.ports ∧ (wallByte w s b).router = s.router ∧ (wallByte w s b).gpis = s.gpis ∧
    (wallByte w s b).cmps = s.cmps ∧ (wallByte w s b).link = s.link ∧
    (wallByte w s b).recorderRx = s.recorderRx ∧ (wallByte w s b).handed = s.handed ∧
    (wallByte w s b).choices = s.choices ∧ (wallByte w s b).pending = s.pending :=
  by
  simp only [wallByte]
  repeat' split
  all_goals simp

@[simp] theorem wallBytes_frame (w : Wall) (l : List Byte) (s : State) :
    (l.foldl (wallByte w) s).now = s.now ∧ (l.foldl (wallByte w) s).straps = s.straps ∧
    (l.foldl (wallByte w) s).dests = s.dests ∧ (l.foldl (wallByte w) s).srcs = s.srcs ∧
    (l.foldl (wallByte w) s).pool = s.pool ∧ (l.foldl (wallByte w) s).registry = s.registry ∧
    (l.foldl (wallByte w) s).store = s.store ∧ (l.foldl (wallByte w) s).domains = s.domains ∧
    (l.foldl (wallByte w) s).bus = s.bus ∧ (l.foldl (wallByte w) s).ports = s.ports ∧
    (l.foldl (wallByte w) s).router = s.router ∧ (l.foldl (wallByte w) s).gpis = s.gpis ∧
    (l.foldl (wallByte w) s).cmps = s.cmps ∧ (l.foldl (wallByte w) s).link = s.link ∧
    (l.foldl (wallByte w) s).recorderRx = s.recorderRx ∧ (l.foldl (wallByte w) s).handed = s.handed ∧
    (l.foldl (wallByte w) s).choices = s.choices ∧ (l.foldl (wallByte w) s).pending = s.pending :=
  ⟨foldl_keep (·.now) _ (by intros; simp) _ _,
      foldl_keep (·.straps) _ (by intros; simp) _ _,
      foldl_keep (·.dests) _ (by intros; simp) _ _,
      foldl_keep (·.srcs) _ (by intros; simp) _ _,
      foldl_keep (·.pool) _ (by intros; simp) _ _,
      foldl_keep (·.registry) _ (by intros; simp) _ _,
      foldl_keep (·.store) _ (by intros; simp) _ _,
      foldl_keep (·.domains) _ (by intros; simp) _ _,
      foldl_keep (·.bus) _ (by intros; simp) _ _,
      foldl_keep (·.ports) _ (by intros; simp) _ _,
      foldl_keep (·.router) _ (by intros; simp) _ _,
      foldl_keep (·.gpis) _ (by intros; simp) _ _,
      foldl_keep (·.cmps) _ (by intros; simp) _ _,
      foldl_keep (·.link) _ (by intros; simp) _ _,
      foldl_keep (·.recorderRx) _ (by intros; simp) _ _,
      foldl_keep (·.handed) _ (by intros; simp) _ _,
      foldl_keep (·.choices) _ (by intros; simp) _ _,
      foldl_keep (·.pending) _ (by intros; simp) _ _⟩

@[simp] theorem bindTile_frame (s : State) (w : Wall) (t : Tile) (b : Binding) :
    (s.bindTile w t b).now = s.now ∧ (s.bindTile w t b).straps = s.straps ∧
    (s.bindTile w t b).dests = s.dests ∧ (s.bindTile w t b).srcs = s.srcs ∧ (s.bindTile w t b).pool = s.pool ∧
    (s.bindTile w t b).registry = s.registry ∧ (s.bindTile w t b).store = s.store ∧
    (s.bindTile w t b).domains = s.domains ∧ (s.bindTile w t b).bus = s.bus ∧
    (s.bindTile w t b).ports = s.ports ∧ (s.bindTile w t b).router = s.router ∧
    (s.bindTile w t b).gpis = s.gpis ∧ (s.bindTile w t b).cmps = s.cmps ∧ (s.bindTile w t b).link = s.link ∧
    (s.bindTile w t b).flags = s.flags ∧ (s.bindTile w t b).wallRx = s.wallRx ∧
    (s.bindTile w t b).recorderRx = s.recorderRx ∧ (s.bindTile w t b).handed = s.handed ∧
    (s.bindTile w t b).choices = s.choices ∧ (s.bindTile w t b).pending = s.pending :=
  by
  simp only [bindTile]
  all_goals simp

@[simp] theorem runBindTile_frame (w t k : Byte) (v : U16) (s : State) :
    (runBindTile w t k v s).2.now = s.now ∧ (runBindTile w t k v s).2.straps = s.straps ∧
    (runBindTile w t k v s).2.dests = s.dests ∧ (runBindTile w t k v s).2.srcs = s.srcs ∧
    (runBindTile w t k v s).2.pool = s.pool ∧ (runBindTile w t k v s).2.registry = s.registry ∧
    (runBindTile w t k v s).2.store = s.store ∧ (runBindTile w t k v s).2.domains = s.domains ∧
    (runBindTile w t k v s).2.bus = s.bus ∧ (runBindTile w t k v s).2.ports = s.ports ∧
    (runBindTile w t k v s).2.router = s.router ∧ (runBindTile w t k v s).2.gpis = s.gpis ∧
    (runBindTile w t k v s).2.cmps = s.cmps ∧ (runBindTile w t k v s).2.link = s.link ∧
    (runBindTile w t k v s).2.flags = s.flags ∧ (runBindTile w t k v s).2.wallRx = s.wallRx ∧
    (runBindTile w t k v s).2.recorderRx = s.recorderRx ∧ (runBindTile w t k v s).2.handed = s.handed ∧
    (runBindTile w t k v s).2.choices = s.choices ∧ (runBindTile w t k v s).2.pending = s.pending :=
  by
  simp only [runBindTile]
  repeat' split
  all_goals simp

@[simp] theorem runRefreshWall_frame (w : Byte) (s : State) :
    (runRefreshWall w s).2.now = s.now ∧ (runRefreshWall w s).2.straps = s.straps ∧
    (runRefreshWall w s).2.dests = s.dests ∧ (runRefreshWall w s).2.srcs = s.srcs ∧
    (runRefreshWall w s).2.pool = s.pool ∧ (runRefreshWall w s).2.registry = s.registry ∧
    (runRefreshWall w s).2.store = s.store ∧ (runRefreshWall w s).2.domains = s.domains ∧
    (runRefreshWall w s).2.bus = s.bus ∧ (runRefreshWall w s).2.ports = s.ports ∧
    (runRefreshWall w s).2.router = s.router ∧ (runRefreshWall w s).2.gpis = s.gpis ∧
    (runRefreshWall w s).2.cmps = s.cmps ∧ (runRefreshWall w s).2.link = s.link ∧
    (runRefreshWall w s).2.flags = s.flags ∧ (runRefreshWall w s).2.wallRx = s.wallRx ∧
    (runRefreshWall w s).2.recorderRx = s.recorderRx ∧ (runRefreshWall w s).2.handed = s.handed ∧
    (runRefreshWall w s).2.choices = s.choices ∧ (runRefreshWall w s).2.pending = s.pending :=
  by
  simp only [runRefreshWall]
  repeat' split
  all_goals simp

@[simp] theorem runReadWall_frame (w : Byte) (t : OptField Byte) (s : State) :
    (runReadWall w t s).2.now = s.now ∧ (runReadWall w t s).2.straps = s.straps ∧
    (runReadWall w t s).2.dests = s.dests ∧ (runReadWall w t s).2.srcs = s.srcs ∧
    (runReadWall w t s).2.pool = s.pool ∧ (runReadWall w t s).2.registry = s.registry ∧
    (runReadWall w t s).2.store = s.store ∧ (runReadWall w t s).2.domains = s.domains ∧
    (runReadWall w t s).2.bus = s.bus ∧ (runReadWall w t s).2.walls = s.walls ∧
    (runReadWall w t s).2.ports = s.ports ∧ (runReadWall w t s).2.router = s.router ∧
    (runReadWall w t s).2.gpis = s.gpis ∧ (runReadWall w t s).2.cmps = s.cmps ∧
    (runReadWall w t s).2.link = s.link ∧ (runReadWall w t s).2.flags = s.flags ∧
    (runReadWall w t s).2.wallRx = s.wallRx ∧ (runReadWall w t s).2.recorderRx = s.recorderRx ∧
    (runReadWall w t s).2.handed = s.handed ∧ (runReadWall w t s).2.choices = s.choices ∧
    (runReadWall w t s).2.pending = s.pending :=
  by
  simp only [runReadWall]
  repeat' split
  all_goals simp

@[simp] theorem flagOnline_frame (s : State) (p : Port) (b : Bool) :
    (s.flagOnline p b).now = s.now ∧ (s.flagOnline p b).straps = s.straps ∧
    (s.flagOnline p b).dests = s.dests ∧ (s.flagOnline p b).srcs = s.srcs ∧ (s.flagOnline p b).pool = s.pool ∧
    (s.flagOnline p b).registry = s.registry ∧ (s.flagOnline p b).store = s.store ∧
    (s.flagOnline p b).domains = s.domains ∧ (s.flagOnline p b).bus = s.bus ∧
    (s.flagOnline p b).walls = s.walls ∧ (s.flagOnline p b).ports = s.ports ∧
    (s.flagOnline p b).router = s.router ∧ (s.flagOnline p b).gpis = s.gpis ∧
    (s.flagOnline p b).cmps = s.cmps ∧ (s.flagOnline p b).link = s.link ∧
    (s.flagOnline p b).wallRx = s.wallRx ∧ (s.flagOnline p b).recorderRx = s.recorderRx ∧
    (s.flagOnline p b).handed = s.handed ∧ (s.flagOnline p b).choices = s.choices ∧
    (s.flagOnline p b).pending = s.pending :=
  by
  simp only [flagOnline]
  repeat' split
  all_goals simp

@[simp] theorem recorderStatus_frame (s : State) (p : Port) (x : RecorderState) :
    (s.recorderStatus p x).now = s.now ∧ (s.recorderStatus p x).straps = s.straps ∧
    (s.recorderStatus p x).registry = s.registry ∧ (s.recorderStatus p x).router = s.router ∧
    (s.recorderStatus p x).gpis = s.gpis ∧ (s.recorderStatus p x).link = s.link ∧
    (s.recorderStatus p x).wallRx = s.wallRx ∧ (s.recorderStatus p x).recorderRx = s.recorderRx ∧
    (s.recorderStatus p x).pending = s.pending :=
  by
  simp only [recorderStatus]
  repeat' split
  all_goals simp

@[simp] theorem recorderAck_frame (s : State) (p : Port) (c : RecorderCommand) (a : Bool) :
    (s.recorderAck p c a).now = s.now ∧ (s.recorderAck p c a).straps = s.straps ∧
    (s.recorderAck p c a).dests = s.dests ∧ (s.recorderAck p c a).srcs = s.srcs ∧
    (s.recorderAck p c a).pool = s.pool ∧ (s.recorderAck p c a).registry = s.registry ∧
    (s.recorderAck p c a).store = s.store ∧ (s.recorderAck p c a).domains = s.domains ∧
    (s.recorderAck p c a).bus = s.bus ∧ (s.recorderAck p c a).walls = s.walls ∧
    (s.recorderAck p c a).router = s.router ∧ (s.recorderAck p c a).gpis = s.gpis ∧
    (s.recorderAck p c a).cmps = s.cmps ∧ (s.recorderAck p c a).link = s.link ∧
    (s.recorderAck p c a).wallRx = s.wallRx ∧ (s.recorderAck p c a).recorderRx = s.recorderRx ∧
    (s.recorderAck p c a).handed = s.handed ∧ (s.recorderAck p c a).choices = s.choices ∧
    (s.recorderAck p c a).pending = s.pending :=
  by
  simp only [recorderAck]
  repeat' split
  all_goals simp

@[simp] theorem judgeSilence_frame (s : State) (p : Port) :
    (s.judgeSilence p).now = s.now ∧ (s.judgeSilence p).straps = s.straps ∧
    (s.judgeSilence p).dests = s.dests ∧ (s.judgeSilence p).registry = s.registry ∧
    (s.judgeSilence p).store = s.store ∧ (s.judgeSilence p).domains = s.domains ∧
    (s.judgeSilence p).bus = s.bus ∧ (s.judgeSilence p).walls = s.walls ∧
    (s.judgeSilence p).router = s.router ∧ (s.judgeSilence p).gpis = s.gpis ∧
    (s.judgeSilence p).cmps = s.cmps ∧ (s.judgeSilence p).link = s.link ∧
    (s.judgeSilence p).wallRx = s.wallRx ∧ (s.judgeSilence p).recorderRx = s.recorderRx ∧
    (s.judgeSilence p).choices = s.choices ∧ (s.judgeSilence p).pending = s.pending :=
  by
  simp only [judgeSilence]
  repeat' split
  all_goals simp

@[simp] theorem recorderTimeout_frame (s : State) (p : Port) :
    (s.recorderTimeout p).now = s.now ∧ (s.recorderTimeout p).straps = s.straps ∧
    (s.recorderTimeout p).dests = s.dests ∧ (s.recorderTimeout p).registry = s.registry ∧
    (s.recorderTimeout p).store = s.store ∧ (s.recorderTimeout p).router = s.router ∧
    (s.recorderTimeout p).gpis = s.gpis ∧ (s.recorderTimeout p).cmps = s.cmps ∧
    (s.recorderTimeout p).link = s.link ∧ (s.recorderTimeout p).wallRx = s.wallRx ∧
    (s.recorderTimeout p).recorderRx = s.recorderRx ∧ (s.recorderTimeout p).choices = s.choices ∧
    (s.recorderTimeout p).pending = s.pending :=
  by
  simp only [recorderTimeout]
  repeat' split
  all_goals simp

@[simp] theorem endGuard_frame (s : State) (p : Port) :
    (s.endGuard p).now = s.now ∧ (s.endGuard p).straps = s.straps ∧ (s.endGuard p).srcs = s.srcs ∧
    (s.endGuard p).registry = s.registry ∧ (s.endGuard p).router = s.router ∧ (s.endGuard p).gpis = s.gpis ∧
    (s.endGuard p).link = s.link ∧ (s.endGuard p).wallRx = s.wallRx ∧
    (s.endGuard p).recorderRx = s.recorderRx ∧ (s.endGuard p).pending = s.pending :=
  by
  simp only [endGuard]
  repeat' split
  all_goals simp

@[simp] theorem recorderFrame_frame (s : State) (p : Port) (f : PartnerFrame) :
    (s.recorderFrame p f).now = s.now ∧ (s.recorderFrame p f).straps = s.straps ∧
    (s.recorderFrame p f).registry = s.registry ∧ (s.recorderFrame p f).router = s.router ∧
    (s.recorderFrame p f).gpis = s.gpis ∧ (s.recorderFrame p f).link = s.link ∧
    (s.recorderFrame p f).wallRx = s.wallRx ∧ (s.recorderFrame p f).recorderRx = s.recorderRx ∧
    (s.recorderFrame p f).pending = s.pending :=
  by
  simp only [recorderFrame]
  repeat' split
  all_goals simp

@[simp] theorem recorderByte_frame (p : Port) (s : State) (b : Byte) :
    (recorderByte p s b).now = s.now ∧ (recorderByte p s b).straps = s.straps ∧
    (recorderByte p s b).registry = s.registry ∧ (recorderByte p s b).router = s.router ∧
    (recorderByte p s b).gpis = s.gpis ∧ (recorderByte p s b).link = s.link ∧
    (recorderByte p s b).wallRx = s.wallRx ∧ (recorderByte p s b).pending = s.pending :=
  by
  simp only [recorderByte]
  repeat' split
  all_goals simp

@[simp] theorem recorderBytes_frame (p : Port) (l : List Byte) (s : State) :
    (l.foldl (recorderByte p) s).now = s.now ∧ (l.foldl (recorderByte p) s).straps = s.straps ∧
    (l.foldl (recorderByte p) s).registry = s.registry ∧ (l.foldl (recorderByte p) s).router = s.router ∧
    (l.foldl (recorderByte p) s).gpis = s.gpis ∧ (l.foldl (recorderByte p) s).link = s.link ∧
    (l.foldl (recorderByte p) s).wallRx = s.wallRx ∧ (l.foldl (recorderByte p) s).pending = s.pending :=
  ⟨foldl_keep (·.now) _ (by intros; simp) _ _,
      foldl_keep (·.straps) _ (by intros; simp) _ _,
      foldl_keep (·.registry) _ (by intros; simp) _ _,
      foldl_keep (·.router) _ (by intros; simp) _ _,
      foldl_keep (·.gpis) _ (by intros; simp) _ _,
      foldl_keep (·.link) _ (by intros; simp) _ _,
      foldl_keep (·.wallRx) _ (by intros; simp) _ _,
      foldl_keep (·.pending) _ (by intros; simp) _ _⟩

@[simp] theorem retestOpt_frame (s : State) (d : Option Dest) :
    (s.retestOpt d).now = s.now ∧ (s.retestOpt d).straps = s.straps ∧ (s.retestOpt d).dests = s.dests ∧
    (s.retestOpt d).srcs = s.srcs ∧ (s.retestOpt d).registry = s.registry ∧ (s.retestOpt d).store = s.store ∧
    (s.retestOpt d).domains = s.domains ∧ (s.retestOpt d).bus = s.bus ∧ (s.retestOpt d).walls = s.walls ∧
    (s.retestOpt d).ports = s.ports ∧ (s.retestOpt d).router = s.router ∧ (s.retestOpt d).gpis = s.gpis ∧
    (s.retestOpt d).cmps = s.cmps ∧ (s.retestOpt d).link = s.link ∧ (s.retestOpt d).flags = s.flags ∧
    (s.retestOpt d).wallRx = s.wallRx ∧ (s.retestOpt d).recorderRx = s.recorderRx ∧
    (s.retestOpt d).handed = s.handed ∧ (s.retestOpt d).choices = s.choices ∧
    (s.retestOpt d).pending = s.pending :=
  by
  simp only [retestOpt]
  repeat' split
  all_goals simp

@[simp] theorem bindRecorder_frame (s : State) (p : Port) (c : PortConfig) :
    (bindRecorder s p c).now = s.now ∧ (bindRecorder s p c).straps = s.straps ∧
    (bindRecorder s p c).dests = s.dests ∧ (bindRecorder s p c).registry = s.registry ∧
    (bindRecorder s p c).store = s.store ∧ (bindRecorder s p c).domains = s.domains ∧
    (bindRecorder s p c).bus = s.bus ∧ (bindRecorder s p c).walls = s.walls ∧
    (bindRecorder s p c).gpis = s.gpis ∧ (bindRecorder s p c).cmps = s.cmps ∧
    (bindRecorder s p c).link = s.link ∧ (bindRecorder s p c).flags = s.flags ∧
    (bindRecorder s p c).wallRx = s.wallRx ∧ (bindRecorder s p c).recorderRx = s.recorderRx ∧
    (bindRecorder s p c).choices = s.choices ∧ (bindRecorder s p c).pending = s.pending :=
  by
  simp only [bindRecorder]
  repeat' split
  all_goals simp

@[simp] theorem bindRequest_frame (p : Port) (c : PortConfig) (s : State) :
    (bindRequest p c s).2.now = s.now ∧ (bindRequest p c s).2.straps = s.straps ∧
    (bindRequest p c s).2.dests = s.dests ∧ (bindRequest p c s).2.registry = s.registry ∧
    (bindRequest p c s).2.store = s.store ∧ (bindRequest p c s).2.gpis = s.gpis ∧
    (bindRequest p c s).2.cmps = s.cmps ∧ (bindRequest p c s).2.link = s.link ∧
    (bindRequest p c s).2.wallRx = s.wallRx ∧ (bindRequest p c s).2.recorderRx = s.recorderRx ∧
    (bindRequest p c s).2.choices = s.choices ∧ (bindRequest p c s).2.pending = s.pending :=
  by
  simp only [bindRequest]
  repeat' split
  all_goals simp

@[simp] theorem runBindRecorder_frame (p : Byte) (d : OptField Byte) (g e t u : Byte) (s : State) :
    (runBindRecorder p d g e t u s).2.now = s.now ∧ (runBindRecorder p d g e t u s).2.straps = s.straps ∧
    (runBindRecorder p d g e t u s).2.dests = s.dests ∧
    (runBindRecorder p d g e t u s).2.registry = s.registry ∧
    (runBindRecorder p d g e t u s).2.store = s.store ∧ (runBindRecorder p d g e t u s).2.gpis = s.gpis ∧
    (runBindRecorder p d g e t u s).2.cmps = s.cmps ∧ (runBindRecorder p d g e t u s).2.link = s.link ∧
    (runBindRecorder p d g e t u s).2.wallRx = s.wallRx ∧
    (runBindRecorder p d g e t u s).2.recorderRx = s.recorderRx ∧
    (runBindRecorder p d g e t u s).2.choices = s.choices ∧
    (runBindRecorder p d g e t u s).2.pending = s.pending :=
  by
  simp only [runBindRecorder]
  repeat' split
  all_goals simp

@[simp] theorem runRecorderCommand_frame (p c : Byte) (s : State) :
    (runRecorderCommand p c s).2.now = s.now ∧ (runRecorderCommand p c s).2.straps = s.straps ∧
    (runRecorderCommand p c s).2.dests = s.dests ∧ (runRecorderCommand p c s).2.srcs = s.srcs ∧
    (runRecorderCommand p c s).2.pool = s.pool ∧ (runRecorderCommand p c s).2.registry = s.registry ∧
    (runRecorderCommand p c s).2.store = s.store ∧ (runRecorderCommand p c s).2.domains = s.domains ∧
    (runRecorderCommand p c s).2.bus = s.bus ∧ (runRecorderCommand p c s).2.walls = s.walls ∧
    (runRecorderCommand p c s).2.router = s.router ∧ (runRecorderCommand p c s).2.gpis = s.gpis ∧
    (runRecorderCommand p c s).2.cmps = s.cmps ∧ (runRecorderCommand p c s).2.link = s.link ∧
    (runRecorderCommand p c s).2.flags = s.flags ∧ (runRecorderCommand p c s).2.wallRx = s.wallRx ∧
    (runRecorderCommand p c s).2.recorderRx = s.recorderRx ∧ (runRecorderCommand p c s).2.handed = s.handed ∧
    (runRecorderCommand p c s).2.choices = s.choices ∧ (runRecorderCommand p c s).2.pending = s.pending :=
  by
  simp only [runRecorderCommand]
  repeat' split
  all_goals first
    | (simp; done)
    | (rename_i e; have h := congrArg (fun x => x.2.2) e; simp only at h; subst h; simp)

@[simp] theorem runReadRecorder_frame (p : Byte) (s : State) :
    (runReadRecorder p s).2.now = s.now ∧ (runReadRecorder p s).2.straps = s.straps ∧
    (runReadRecorder p s).2.dests = s.dests ∧ (runReadRecorder p s).2.srcs = s.srcs ∧
    (runReadRecorder p s).2.pool = s.pool ∧ (runReadRecorder p s).2.registry = s.registry ∧
    (runReadRecorder p s).2.store = s.store ∧ (runReadRecorder p s).2.domains = s.domains ∧
    (runReadRecorder p s).2.bus = s.bus ∧ (runReadRecorder p s).2.walls = s.walls ∧
    (runReadRecorder p s).2.ports = s.ports ∧ (runReadRecorder p s).2.router = s.router ∧
    (runReadRecorder p s).2.gpis = s.gpis ∧ (runReadRecorder p s).2.cmps = s.cmps ∧
    (runReadRecorder p s).2.link = s.link ∧ (runReadRecorder p s).2.flags = s.flags ∧
    (runReadRecorder p s).2.wallRx = s.wallRx ∧ (runReadRecorder p s).2.recorderRx = s.recorderRx ∧
    (runReadRecorder p s).2.handed = s.handed ∧ (runReadRecorder p s).2.choices = s.choices ∧
    (runReadRecorder p s).2.pending = s.pending :=
  by
  simp only [runReadRecorder]
  repeat' split
  all_goals simp

@[simp] theorem gpiPin_frame (s : State) (i : Gpi) (b : Bool) :
    (s.gpiPin i b).now = s.now ∧ (s.gpiPin i b).straps = s.straps ∧ (s.gpiPin i b).srcs = s.srcs ∧
    (s.gpiPin i b).registry = s.registry ∧ (s.gpiPin i b).router = s.router ∧ (s.gpiPin i b).link = s.link ∧
    (s.gpiPin i b).wallRx = s.wallRx ∧ (s.gpiPin i b).recorderRx = s.recorderRx ∧
    (s.gpiPin i b).pending = s.pending :=
  by
  simp only [gpiPin]
  repeat' split
  all_goals simp

@[simp] theorem judgeCandidate_frame (s : State) (i : Gpi) :
    (s.judgeCandidate i).now = s.now ∧ (s.judgeCandidate i).straps = s.straps ∧
    (s.judgeCandidate i).srcs = s.srcs ∧ (s.judgeCandidate i).registry = s.registry ∧
    (s.judgeCandidate i).router = s.router ∧ (s.judgeCandidate i).link = s.link ∧
    (s.judgeCandidate i).wallRx = s.wallRx ∧ (s.judgeCandidate i).recorderRx = s.recorderRx ∧
    (s.judgeCandidate i).pending = s.pending :=
  by
  simp only [judgeCandidate]
  repeat' split
  all_goals simp

@[simp] theorem runSetGpi_frame (i d : Byte) (s : State) :
    (runSetGpi i d s).2.now = s.now ∧ (runSetGpi i d s).2.straps = s.straps ∧
    (runSetGpi i d s).2.srcs = s.srcs ∧ (runSetGpi i d s).2.registry = s.registry ∧
    (runSetGpi i d s).2.router = s.router ∧ (runSetGpi i d s).2.link = s.link ∧
    (runSetGpi i d s).2.wallRx = s.wallRx ∧ (runSetGpi i d s).2.recorderRx = s.recorderRx ∧
    (runSetGpi i d s).2.pending = s.pending :=
  by
  simp only [runSetGpi]
  repeat' split
  all_goals simp

@[simp] theorem configureComparator_frame (s : State) (k : Cmp) (c : CmpConfig) (a b p : Nat) (t : Byte) :
    (configureComparator s k c a b p t).now = s.now ∧ (configureComparator s k c a b p t).straps = s.straps ∧
    (configureComparator s k c a b p t).dests = s.dests ∧ (configureComparator s k c a b p t).srcs = s.srcs ∧
    (configureComparator s k c a b p t).pool = s.pool ∧
    (configureComparator s k c a b p t).registry = s.registry ∧
    (configureComparator s k c a b p t).store = s.store ∧
    (configureComparator s k c a b p t).domains = s.domains ∧ (configureComparator s k c a b p t).bus = s.bus ∧
    (configureComparator s k c a b p t).walls = s.walls ∧ (configureComparator s k c a b p t).ports = s.ports ∧
    (configureComparator s k c a b p t).gpis = s.gpis ∧ (configureComparator s k c a b p t).link = s.link ∧
    (configureComparator s k c a b p t).flags = s.flags ∧
    (configureComparator s k c a b p t).wallRx = s.wallRx ∧
    (configureComparator s k c a b p t).recorderRx = s.recorderRx ∧
    (configureComparator s k c a b p t).handed = s.handed ∧
    (configureComparator s k c a b p t).choices = s.choices ∧
    (configureComparator s k c a b p t).pending = s.pending :=
  by
  simp only [configureComparator]
  all_goals simp

@[simp] theorem setComparatorChecked_frame (k : Cmp) (c : CmpConfig) (a b : U32) (p : U16) (t : Byte) (s : State) :
    (setComparatorChecked k c a b p t s).2.now = s.now ∧
    (setComparatorChecked k c a b p t s).2.straps = s.straps ∧
    (setComparatorChecked k c a b p t s).2.dests = s.dests ∧
    (setComparatorChecked k c a b p t s).2.srcs = s.srcs ∧
    (setComparatorChecked k c a b p t s).2.pool = s.pool ∧
    (setComparatorChecked k c a b p t s).2.registry = s.registry ∧
    (setComparatorChecked k c a b p t s).2.store = s.store ∧
    (setComparatorChecked k c a b p t s).2.domains = s.domains ∧
    (setComparatorChecked k c a b p t s).2.bus = s.bus ∧
    (setComparatorChecked k c a b p t s).2.walls = s.walls ∧
    (setComparatorChecked k c a b p t s).2.ports = s.ports ∧
    (setComparatorChecked k c a b p t s).2.gpis = s.gpis ∧
    (setComparatorChecked k c a b p t s).2.link = s.link ∧
    (setComparatorChecked k c a b p t s).2.flags = s.flags ∧
    (setComparatorChecked k c a b p t s).2.wallRx = s.wallRx ∧
    (setComparatorChecked k c a b p t s).2.recorderRx = s.recorderRx ∧
    (setComparatorChecked k c a b p t s).2.handed = s.handed ∧
    (setComparatorChecked k c a b p t s).2.choices = s.choices ∧
    (setComparatorChecked k c a b p t s).2.pending = s.pending :=
  by
  simp only [setComparatorChecked]
  repeat' split
  all_goals simp

@[simp] theorem runSetComparator_frame (k d : Byte) (a b : U32) (p : U16) (x1 x2 x3 x4 x5 x6 x7 x8 x9 x10 : Byte) (s : State) :
    (runSetComparator k d a b p x1 x2 x3 x4 x5 x6 x7 x8 x9 x10 s).2.now = s.now ∧
    (runSetComparator k d a b p x1 x2 x3 x4 x5 x6 x7 x8 x9 x10 s).2.straps = s.straps ∧
    (runSetComparator k d a b p x1 x2 x3 x4 x5 x6 x7 x8 x9 x10 s).2.dests = s.dests ∧
    (runSetComparator k d a b p x1 x2 x3 x4 x5 x6 x7 x8 x9 x10 s).2.srcs = s.srcs ∧
    (runSetComparator k d a b p x1 x2 x3 x4 x5 x6 x7 x8 x9 x10 s).2.pool = s.pool ∧
    (runSetComparator k d a b p x1 x2 x3 x4 x5 x6 x7 x8 x9 x10 s).2.registry = s.registry ∧
    (runSetComparator k d a b p x1 x2 x3 x4 x5 x6 x7 x8 x9 x10 s).2.store = s.store ∧
    (runSetComparator k d a b p x1 x2 x3 x4 x5 x6 x7 x8 x9 x10 s).2.domains = s.domains ∧
    (runSetComparator k d a b p x1 x2 x3 x4 x5 x6 x7 x8 x9 x10 s).2.bus = s.bus ∧
    (runSetComparator k d a b p x1 x2 x3 x4 x5 x6 x7 x8 x9 x10 s).2.walls = s.walls ∧
    (runSetComparator k d a b p x1 x2 x3 x4 x5 x6 x7 x8 x9 x10 s).2.ports = s.ports ∧
    (runSetComparator k d a b p x1 x2 x3 x4 x5 x6 x7 x8 x9 x10 s).2.gpis = s.gpis ∧
    (runSetComparator k d a b p x1 x2 x3 x4 x5 x6 x7 x8 x9 x10 s).2.link = s.link ∧
    (runSetComparator k d a b p x1 x2 x3 x4 x5 x6 x7 x8 x9 x10 s).2.flags = s.flags ∧
    (runSetComparator k d a b p x1 x2 x3 x4 x5 x6 x7 x8 x9 x10 s).2.wallRx = s.wallRx ∧
    (runSetComparator k d a b p x1 x2 x3 x4 x5 x6 x7 x8 x9 x10 s).2.recorderRx = s.recorderRx ∧
    (runSetComparator k d a b p x1 x2 x3 x4 x5 x6 x7 x8 x9 x10 s).2.handed = s.handed ∧
    (runSetComparator k d a b p x1 x2 x3 x4 x5 x6 x7 x8 x9 x10 s).2.choices = s.choices ∧
    (runSetComparator k d a b p x1 x2 x3 x4 x5 x6 x7 x8 x9 x10 s).2.pending = s.pending :=
  by
  simp only [runSetComparator]
  repeat' split
  all_goals simp

@[simp] theorem runReadComparator_frame (k : Byte) (s : State) :
    (runReadComparator k s).2.now = s.now ∧ (runReadComparator k s).2.straps = s.straps ∧
    (runReadComparator k s).2.dests = s.dests ∧ (runReadComparator k s).2.srcs = s.srcs ∧
    (runReadComparator k s).2.pool = s.pool ∧ (runReadComparator k s).2.registry = s.registry ∧
    (runReadComparator k s).2.store = s.store ∧ (runReadComparator k s).2.domains = s.domains ∧
    (runReadComparator k s).2.bus = s.bus ∧ (runReadComparator k s).2.walls = s.walls ∧
    (runReadComparator k s).2.ports = s.ports ∧ (runReadComparator k s).2.router = s.router ∧
    (runReadComparator k s).2.gpis = s.gpis ∧ (runReadComparator k s).2.cmps = s.cmps ∧
    (runReadComparator k s).2.link = s.link ∧ (runReadComparator k s).2.flags = s.flags ∧
    (runReadComparator k s).2.wallRx = s.wallRx ∧ (runReadComparator k s).2.recorderRx = s.recorderRx ∧
    (runReadComparator k s).2.handed = s.handed ∧ (runReadComparator k s).2.choices = s.choices ∧
    (runReadComparator k s).2.pending = s.pending :=
  by
  simp only [runReadComparator]
  repeat' split
  all_goals simp

@[simp] theorem runIdentify_frame  (s : State) :
    (runIdentify  s).2.now = s.now ∧ (runIdentify  s).2.straps = s.straps ∧
    (runIdentify  s).2.dests = s.dests ∧ (runIdentify  s).2.srcs = s.srcs ∧ (runIdentify  s).2.pool = s.pool ∧
    (runIdentify  s).2.registry = s.registry ∧ (runIdentify  s).2.store = s.store ∧
    (runIdentify  s).2.domains = s.domains ∧ (runIdentify  s).2.bus = s.bus ∧
    (runIdentify  s).2.walls = s.walls ∧ (runIdentify  s).2.ports = s.ports ∧
    (runIdentify  s).2.router = s.router ∧ (runIdentify  s).2.gpis = s.gpis ∧
    (runIdentify  s).2.cmps = s.cmps ∧ (runIdentify  s).2.link = s.link ∧ (runIdentify  s).2.flags = s.flags ∧
    (runIdentify  s).2.wallRx = s.wallRx ∧ (runIdentify  s).2.recorderRx = s.recorderRx ∧
    (runIdentify  s).2.handed = s.handed ∧ (runIdentify  s).2.choices = s.choices ∧
    (runIdentify  s).2.pending = s.pending :=
  by
  simp only [runIdentify]
  all_goals simp

@[simp] theorem noRequest_frame  (s : State) :
    (noRequest  s).2.now = s.now ∧ (noRequest  s).2.straps = s.straps ∧ (noRequest  s).2.dests = s.dests ∧
    (noRequest  s).2.srcs = s.srcs ∧ (noRequest  s).2.pool = s.pool ∧ (noRequest  s).2.registry = s.registry ∧
    (noRequest  s).2.store = s.store ∧ (noRequest  s).2.domains = s.domains ∧ (noRequest  s).2.bus = s.bus ∧
    (noRequest  s).2.walls = s.walls ∧ (noRequest  s).2.ports = s.ports ∧ (noRequest  s).2.router = s.router ∧
    (noRequest  s).2.gpis = s.gpis ∧ (noRequest  s).2.cmps = s.cmps ∧ (noRequest  s).2.link = s.link ∧
    (noRequest  s).2.flags = s.flags ∧ (noRequest  s).2.wallRx = s.wallRx ∧
    (noRequest  s).2.recorderRx = s.recorderRx ∧ (noRequest  s).2.handed = s.handed ∧
    (noRequest  s).2.choices = s.choices ∧ (noRequest  s).2.pending = s.pending :=
  by
  simp only [noRequest]
  all_goals simp

end Sys2Proof.Machine
end

