-- ==== Sys2Proof/Laws/Fields.lean ====
section
/-! SUPPORT. Reading fields: a number within its range reads as itself, one beyond it is refused. -/

namespace Sys2Proof.Machine

theorem below_of_lt {n x : Nat} (h : x < n) : below n x = some ⟨x, h⟩ := by simp [below, h]

theorem below_of_ge {n x : Nat} (h : n ≤ x) : below n x = none := by simp [below, Nat.not_lt.2 h]

@[simp] theorem below_val {n : Nat} (i : Fin n) : below n i.val = some i := by simp [below]

theorem below_eq_some {n x : Nat} {i : Fin n} : below n x = some i ↔ x = i.val := by
  constructor
  · intro h
    unfold below at h
    split at h
    · injection h with h; rw [← h]
    · cases h
  · rintro rfl; simp

theorem num8_toNat {n : Nat} (i : Fin n) (h : n ≤ 256) : (num8 i).toNat = i.val := by
  have := i.isLt
  simp only [num8, BitVec.toNat_ofNat]
  omega

theorem num16_toNat {n : Nat} (i : Fin n) (h : n ≤ 65536) : (num16 i).toNat = i.val := by
  have := i.isLt
  simp only [num16, BitVec.toNat_ofNat]
  omega

/-- A number as a one-byte field carries it reads as itself. -/
theorem below_num8 {n : Nat} (i : Fin n) (h : n ≤ 256) : below n (num8 i).toNat = some i := by
  rw [num8_toNat i h, below_val]

/-- A number as a two-byte field carries it reads as itself. -/
theorem below_num16 {n : Nat} (i : Fin n) (h : n ≤ 65536) : below n (num16 i).toNat = some i := by
  rw [num16_toNat i h, below_val]

@[simp] theorem below_num8_4 (i : Fin 4) : below 4 (num8 i).toNat = some i := below_num8 i (by decide)
@[simp] theorem below_num8_8 (i : Fin 8) : below 8 (num8 i).toNat = some i := below_num8 i (by decide)
@[simp] theorem below_num8_16 (i : Fin 16) : below 16 (num8 i).toNat = some i := below_num8 i (by decide)
@[simp] theorem below_num8_32 (i : Fin 32) : below 32 (num8 i).toNat = some i := below_num8 i (by decide)
@[simp] theorem below_num8_64 (i : Fin 64) : below 64 (num8 i).toNat = some i := below_num8 i (by decide)
@[simp] theorem below_num8_128 (i : Fin 128) : below 128 (num8 i).toNat = some i := below_num8 i (by decide)
@[simp] theorem below_num16_256 (i : Fin 256) : below 256 (num16 i).toNat = some i := below_num16 i (by decide)
@[simp] theorem below_num16_512 (i : Fin 512) : below 512 (num16 i).toNat = some i := below_num16 i (by decide)

@[simp] theorem toFin_num8 (i : Fin 256) : (num8 i).toFin = i := by
  have := num8_toNat i (Nat.le_refl _)
  exact Fin.ext this

@[simp] theorem e1_num8 {n : Nat} (i : Fin n) : e1 i.val = [num8 i] := rfl

@[simp] theorem asFlag_code (b : Bool) : asFlag (if b then 1#8 else 0#8) = some b := by cases b <;> rfl

/-- An optional field whose value reads is read as present. -/
theorem asOpt_map {α β γ : Type} (read : α → Option β) (put : γ → α) (val : γ → β) (h : ∀ x, read (put x) = some (val x))
    (o : Option γ) : asOpt read (o.map (fun x => (1, put x))) = some (o.map val) := by
  cases o <;> simp [asOpt, h]

end Sys2Proof.Machine
end

