-- ==== Sys2Proof/Laws/Requests.lean ====
section
/-! SUPPORT. A request executed at once: its meaning is its effect and the reply's frame. -/

namespace Sys2Proof.Machine

open State

theorem requestArrives_free {c : Instr} {e : State → Reply × State} {s : State} {f : ReqFrame}
    (hf : encodeRequest c = some f) (hw : wellFormed c = true) (hl : s.linkFree = true) :
    requestArrives c e s = .next ((e s).2.send ((e s).1.frame f.kind f.tag)) := by
  simp [requestArrives, hf, hw, hl, answerRequest]

/-- A request whose effect answers this status and tail and the state `t` answers so. -/
theorem answers_of {c : Instr} {e : State → Reply × State} {s t : State} {f : ReqFrame} {status : Status}
    {tail : List Byte} (he : exec c s = requestArrives c e s) (hf : encodeRequest c = some f)
    (hw : wellFormed c = true) (hl : s.linkFree = true) (h : e s = (⟨status, tail⟩, t)) :
    Answers c s status tail t := by
  refine ⟨f, hf, ?_⟩
  rw [he, requestArrives_free hf hw hl, h]
  rfl

end Sys2Proof.Machine
end

