-- ==== Sys2Proof/Laws/Operations.lean ====
section
/-! SUPPORT. What the shared operations over the slot pool, the protects, the walls and the sources
answer, each said once: a proof cites these and unfolds none of the operations. -/

namespace Sys2Proof.Machine

open State

/-! The field readers of a request. -/

theorem asMarkMode_bad {m : Byte} (h : 1 < m.toNat) : asMarkMode m = none := by
  unfold asMarkMode; split <;> first | rfl | omega

theorem asMarkMode_ok {m : Byte} (h : m.toNat ≤ 1) : ∃ b, asMarkMode m = some b := by
  unfold asMarkMode
  rcases (by omega : m.toNat = 0 ∨ m.toNat = 1) with q | q <;> rw [q] <;> exact ⟨_, rfl⟩

theorem asPanelId_bad {p : Byte} (h : p = 0#8 ∨ 63 < p.toNat) : asPanelId p = none := by
  unfold asPanelId
  split
  · rfl
  · exact below_of_ge (by rcases h with h | h <;> [contradiction; exact h])

theorem asPanelId_ok {p : Panel} (hp : p ≠ 0) : asPanelId (num8 p) = some p := by
  unfold asPanelId
  rw [if_neg, below_num8_64]
  intro h0
  have := num8_toNat p (by decide)
  rw [h0] at this
  exact hp (Fin.ext this.symm)

/-! The take slot pool: what a search of it finds. -/

theorem SlotRec.holds_iff (r : SlotRec) (p : Take → Bool) :
    r.holds p = true ↔ ∃ t, r.take = some t ∧ p t = true := by
  unfold SlotRec.holds; cases r.take <;> simp

theorem findTake_eq (s : State) (p : Take → Bool) :
    s.findTake p = (List.finRange 128).find? (fun i => (s.slot i).holds p) := by
  rw [findTake, find_entries]; rfl

/-- A search of the pool answers the lowest slot whose take passes. -/
theorem findTake_eq_some (s : State) (p : Take → Bool) (i : Slot) :
    s.findTake p = some i ↔ (s.slot i).holds p = true ∧ ∀ j < i, (s.slot j).holds p = false := by
  rw [findTake_eq, find_finRange_eq_some]

theorem findTake_isSome (s : State) (p : Take → Bool) :
    (s.findTake p).isSome = true ↔ ∃ i, (s.slot i).holds p = true := by
  rw [findTake_eq, List.find?_isSome]; simp

theorem TakeState.waiting_iff (t : TakeState) : t.waiting = true ↔ t = .queued ∨ t = .held := by
  cases t <;> simp [TakeState.waiting]

theorem TakeState.outstanding_iff (t : TakeState) :
    t.outstanding = true ↔ t = .issued ∨ t = .retry := by
  cases t <;> simp [TakeState.outstanding]

theorem TakeState.active_iff (t : TakeState) :
    t.active = true ↔ t ∈ [TakeState.queued, .held, .issued, .retry] := by
  cases t <;> simp [TakeState.active, TakeState.waiting, TakeState.outstanding]

theorem portOf_eq (s : State) (d : Dest) :
    s.portOf d = (List.finRange 16).find? (fun p => decide ((s.port p).dest = some d)) := by
  rw [portOf, find_entries]; rfl

theorem freeSlots_eq (s : State) :
    s.freeSlots = ((List.finRange 128).filter (fun i => (s.slot i).take.isNone)).length := by
  have : s.pool.slots.toList = (List.finRange 128).map (fun i => look s.pool.slots i) := by
    apply List.ext_getElem
    · simp
    · intro k h1 h2; simp [look]
  rw [freeSlots, this, List.filter_map, List.length_map]; rfl

/-! The protects a panel holds, and their release. -/

theorem mem_heldBy (s : State) (p : Panel) (f : Protect → Bool) (d : Dest) :
    d ∈ s.heldBy p f ↔ ∃ q, s.protectOf d = some q ∧ q.holder = p ∧ f q = true := by
  simp only [heldBy, List.mem_map, List.mem_filter, mem_entries]
  constructor
  · rintro ⟨e, ⟨h1, h2⟩, rfl⟩
    cases h : e.2 with
    | none => simp [h] at h2
    | some q => rw [h] at h2 h1; exact ⟨q, h1.symm, by simpa using h2⟩
  · rintro ⟨q, h1, h2, h3⟩
    exact ⟨(d, some q), ⟨h1.symm, by simp [h2, h3]⟩, rfl⟩

theorem heldBy_nodup (s : State) (p : Panel) (f : Protect → Bool) : (s.heldBy p f).Nodup := by
  unfold heldBy
  rw [filter_entries]
  exact (List.nodup_finRange _).filter _

/-- Releasing a list of protects changes the protects and the released flags alone, and of those the
listed destinations' alone. -/
theorem foldl_releaseProtect (p : Panel) (why : ReleaseReason) (l : List Dest) (s : State) :
    let t := l.foldl (State.releaseProtect p why) s
    t = { s with registry := { s.registry with protects := t.registry.protects },
                 flags := { s.flags with released := t.flags.released } } ∧
    ∀ d, (d ∈ l → t.protectOf d = none ∧ look t.flags.released d = some (p, why)) ∧
      (d ∉ l → t.protectOf d = s.protectOf d ∧ look t.flags.released d = look s.flags.released d) := by
  induction l generalizing s with
  | nil => simp
  | cons a l ih =>
    obtain ⟨h1, h2⟩ := ih (s.releaseProtect p why a)
    simp only [List.foldl_cons] at *
    refine ⟨?_, fun d => ?_⟩
    · rw [h1]; simp [releaseProtect, setProtect, flagReleased]
    · obtain ⟨h3, h4⟩ := h2 d
      by_cases hd : d ∈ l
      · simp [hd, h3 hd]
      · simp only [List.mem_cons, hd, or_false]
        rw [(h4 hd).1, (h4 hd).2]
        constructor
        · rintro rfl; simp [releaseProtect, setProtect, flagReleased, protectOf]
        · intro h; simp [releaseProtect, setProtect, flagReleased, protectOf, look_put, h]

/-! The walls and the sources. -/

theorem wall_setWall (s : State) (w : Wall) (r : WallRec) : (s.setWall w r).wall w = r := by
  simp [State.wall, setWall]

theorem setWall_setWall (s : State) (w : Wall) (r r' : WallRec) :
    (s.setWall w r).setWall w r' = s.setWall w r' := by
  simp [setWall, put, Vector.set_set]

/-- No update leaves a wall whose link is not idle, or whose queue is empty. -/
theorem sendUpdate_quiet (s : State) (w : Wall)
    (h : (s.wall w).link ≠ .idle ∨ (s.wall w).queue = []) : s.sendUpdate w = s := by
  unfold sendUpdate; rw [if_neg]; tauto

theorem src_setSrc (s : State) (x y : Src) (r : SrcRec) :
    (s.setSrc x r).src y = if y = x then r else s.src y := by
  simp [src_def, setSrc, look_put]

end Sys2Proof.Machine
end

