-- ==== Sys2Proof/Tests/Slice0.lean ====
section
/-! SUPPORT. Small tests of the model, and for each statement with hypotheses a state that meets them: the ill-formed
terms exec refuses, the spec's worked values, and what each clause answers at a boundary of its range. -/

namespace Sys2Proof.Tests

set_option Elab.async false

open Sys2Proof Sys2Proof.Machine

/-! ## Helpers -/

/-- Reset with READY sent: the link is free. -/
def idle : State := { State.reset with link := ⟨.hunt, 0, [], []⟩ }

/-- The body of the last frame a command leaves in the transmit order. -/
def replyTo (s : State) (c : Instr) : List Byte :=
  match exec c s with
  | .next t => (t.link.transmit.getLast?.map TxFrame.body).getD []
  | _ => []

/-- Each command is answered with its body. -/
def answersAll (s : State) (l : List (Instr × List Byte)) : Bool := l.all (fun e => decide (replyTo s e.1 = e.2))

/-- What a function reads in the state a command leaves. -/
def sees {α : Type} (s : State) (c : Instr) (f : State → α) : Option α :=
  match exec c s with
  | .next t => some (f t)
  | _ => none

/-- The command is refused as ill-formed. -/
def refused (c : Instr) : Bool :=
  match exec c idle with
  | .refused .illFormed => true
  | _ => false

/-! ## Well-formedness and bytes -/

theorem test_ill_formed_commands_are_refused :
    refused (.badKind 0 0x01 []) = true ∧ refused (.badKind 0 0x7F (List.replicate 1021 0)) = true ∧
    refused (.setSourceLabel 0 0 (some (List.replicate 255 0x41))) = true ∧
    refused (.setDestConfig 0 0 (some (List.replicate 255 0x41)) 0 0 0) = true ∧
    refused (.take 0 0 0 0 (some (0, 0)) 0) = true ∧
    refused (.storeSalvo 0 0 (List.replicate 256 (0, 0))) = true ∧
    refused (.readWall 0 0 (some (0, 0))) = true ∧ refused (.bindRecorder 0 0 (some (0, 0)) 0 0 10 40) = true := by
  decide +kernel

theorem test_well_formed_boundaries :
    wellFormed (.badKind 0 0x7F (List.replicate 1020 0)) = true ∧
    wellFormed (.setSourceLabel 0 0 (some (List.replicate 254 0x41))) = true ∧
    wellFormed (.storeSalvo 0 0 (List.replicate 255 (0, 0))) = true := by decide +kernel

theorem test_no_word_spells_a_command : decodeTableWord 8 0 = none ∧ decodeTableWord 32 0xFFFFFFFF = none := by decide

/-- The check values of 11.1 and 11.7 for the characters 1 to 9. -/
theorem test_check_values :
    crc16 [0x31, 0x32, 0x33, 0x34, 0x35, 0x36, 0x37, 0x38, 0x39] = 0x29B1 ∧
    crc8 [0x31, 0x32, 0x33, 0x34, 0x35, 0x36, 0x37, 0x38, 0x39] = 0xF4 := by decide +kernel

theorem test_frames_decode_to_their_request :
    decodeRequest ⟨0x20, 9, [0x01, 0x2C, 0x00, 0x07, 5, 0, 1]⟩ = .request (.take 9 300 7 5 none 1) ∧
    decodeRequest ⟨0x10, 1, [0x00, 0x0A, 3, 0x43, 0x41, 0x4D]⟩ =
      .request (.setSourceLabel 1 10 (some [0x43, 0x41, 0x4D])) ∧
    decodeRequest ⟨0x10, 1, [0x00, 0x0A, 3, 0x43]⟩ = .badLength ∧ decodeRequest ⟨0x04, 1, []⟩ = .badKind ∧
    decodeRequest ⟨0x3B, 2, [3, 0, 1, 0x5F, 0x90]⟩ = .request (.setTimecode 2 3 90000) ∧
    decodeRequest ⟨0x51, 2, [15, 4]⟩ = .request (.recorderCommand 2 15 4) := by decide +kernel

/-! ## Steps -/

theorem test_step_takes_the_front_command :
    (match step { idle with pending := [.startWalk 1, .readback] } with
     | .next t => decide (t.pending = [.readback]) && decide (t.now = 0)
     | _ => false) = true := by decide +kernel

/-- With a LEARN walk at reset a READBACK is the one event due; once it is outstanding, time passes. -/
theorem test_idle_step_runs_the_due_event_or_ticks :
    idle.due = [.readback] ∧
    (match step idle with
     | .next t => decide (t.bus.readback = some ⟨0, .walk, 0, false⟩) && decide (t.due = [])
     | _ => false) = true ∧
    ({ idle with now := 10000, bus := { idle.bus with readback := some ⟨0, .walk, 0, false⟩, walk := .verify }
                 link := { idle.link with receiver := .length none } } : State).due = [.truncated, .answerTimeout] := by
  decide +kernel

theorem test_reset_values :
    State.reset.instances = 0 ∧ State.reset.attn = false ∧ (State.reset.dom 3).holdLimit = 2000 ∧
    State.reset.zoneMin 7 = 3 ∧ State.reset.bus.walk = .learn ∧ (State.reset.port 15).pollTimeout = 40 ∧
    (State.reset.link.transmit.map TxFrame.sort) = [.ready] := by decide +kernel

/-! ## The control link -/

/-- A free link, one that holds a reply, and one whose queue is full. -/
def replying : State := { idle with link := { idle.link with transmit := [⟨.reply, 0x80, 1, []⟩] } }
def full : State := { replying with link := { replying.link with queue := List.replicate 4 ⟨0x01, 2, []⟩ } }
/-- A full queue with 8 immediate frames waiting. -/
def crowded : State :=
  { full with link := { full.link with transmit := full.link.transmit ++ List.replicate 8 ⟨.reject, 0xF1, 0, [1]⟩ } }

theorem test_link_free : idle.linkFree = true ∧ replying.linkFree = false ∧ full.linkFree = false := by decide +kernel

theorem test_request_waits_or_is_answered_busy :
    sees replying (.startWalk 7) (fun t => (t.link.queue, t.bus.walk)) = some ([⟨0x41, 7, []⟩], .learn) ∧
    replyTo full (.startWalk 7) = [0x41, 1] ∧
    sees crowded (.startWalk 7) (fun t => (t.link.queue.length, t.link.transmit.length)) = some (4, 9) := by
  decide +kernel

theorem test_request_bytes_act_as_the_request :
    (match rxBytes (controlFrame 0x41 7 []) { idle with bus := { idle.bus with walk := .none } } with
     | .next t => decide (t.bus.walk = .verify) && decide (t.link.receiver = .hunt) &&
        decide (t.link.transmit.map TxFrame.body = [[0x41, 0]])
     | _ => false) = true ∧
    (encodeRequest (.startWalk 7)).isSome = true ∧ wellFormed (.startWalk 7) = true := by decide +kernel

def receiving (r : Receiver) : State := { idle with link := { idle.link with receiver := r } }

theorem test_receiver_rows :
    sees idle (.ctlRxByte 0xA5 false) (fun t => t.link.receiver) = some (.length none) ∧
    sees idle (.ctlRxByte 0xA4 false) (fun t => t.link.receiver) = some .hunt ∧
    sees (receiving (.length none)) (.ctlRxByte 3 false) (fun t => t.link.receiver) = some (.length (some 3)) ∧
    sees (receiving (.length (some 3))) (.ctlRxByte 0xFC false) (fun t => t.link.receiver) = some (.header 1020 none) ∧
    sees (receiving (.length (some 3))) (.ctlRxByte 0xFD false)
      (fun t => (t.link.receiver, t.link.transmit.map TxFrame.body)) = some (.hunt, [[2]]) ∧
    sees (receiving (.header 1 none)) (.ctlRxByte 0x31 false) (fun t => t.link.receiver) = some (.header 1 (some 0x31)) ∧
    sees (receiving (.header 0 (some 1))) (.ctlRxByte 9 false) (fun t => t.link.receiver) = some (.crc 0 1 9 [] none) ∧
    sees (receiving (.header 2 (some 1))) (.ctlRxByte 9 false) (fun t => t.link.receiver) = some (.body 2 1 9 []) ∧
    sees (receiving (.body 2 1 9 [])) (.ctlRxByte 4 false) (fun t => t.link.receiver) = some (.body 2 1 9 [4]) ∧
    sees (receiving (.body 2 1 9 [4])) (.ctlRxByte 5 false) (fun t => t.link.receiver) = some (.crc 2 1 9 [4, 5] none) ∧
    sees (receiving (.crc 0 1 9 [] none)) (.ctlRxByte 5 false) (fun t => t.link.receiver) =
      some (.crc 0 1 9 [] (some 5)) ∧
    sees (receiving (.crc 0 1 9 [] (some 0))) (.ctlRxByte 0 false)
      (fun t => (t.link.receiver, t.link.transmit.map TxFrame.body)) = some (.hunt, [[1]]) := by decide +kernel

theorem test_truncation :
    replyTo (receiving (.header 1 none)) (.ctlRxByte 0 true) = [3] ∧
    sees idle (.ctlRxByte 0xA5 true) (fun t => t.link.receiver) = some .hunt ∧
    replyTo { receiving (.length none) with now := 5000 } .truncated = [3] ∧
    sees { receiving (.length none) with now := 4999 } .truncated (fun t => t.link.receiver) = some (.length none) ∧
    sees { idle with now := 5000 } .truncated (fun t => t.link.transmit) = some [] := by decide +kernel

theorem test_frame_sent_executes_the_head_request :
    sees idle .transmitFrameSent (fun t => t.link.transmit) = some [] ∧
    sees replying .transmitFrameSent (fun t => t.link.transmit) = some [] ∧
    sees { full with link := { full.link with transmit := full.link.transmit ++ [⟨.reply, 0x80, 1, []⟩] } }
      .transmitFrameSent (fun t => (t.link.queue.length, t.link.transmit.length)) = some (4, 1) ∧
    sees { full with link := { full.link with queue := [⟨0x41, 7, []⟩] } } .transmitFrameSent
      (fun t => (t.link.queue, t.link.transmit)) = some ([], [⟨.reply, 0x80, 7, [0x41, 56]⟩]) := by decide +kernel

theorem test_cold_reset_bad_kind :
    sees { idle with gpis := put idle.gpis 2 ⟨9, false, none, true⟩ } (.coldReset true true false)
      (fun t => (t.gpi 2, t.straps, t.link.queue)) = some (⟨5, true, none, true⟩, ⟨true, true, false⟩, []) ∧
    replyTo idle (.badKind 3 0x04 (List.replicate 1020 0)) = [0x04, 2] ∧ (0x04 : Byte) ∉ requestKinds := by decide +kernel

/-- Bodies one byte short or long of their size, at each kind of count (R174). -/
theorem test_bad_length :
    let short : List (Byte × List Byte) := [(0x01, [0]), (0x10, [0, 10, 3, 65, 66]), (0x10, [0, 10, 255, 65]),
      (0x11, [5, 0, 0, 0]), (0x12, []), (0x20, [0, 5, 0, 7, 0, 1, 0]), (0x20, [0, 5, 0, 7, 0, 0, 0, 9, 1]),
      (0x30, [1, 1, 5, 0]), (0x30, [1]), (0x4A, [7, 1]), (0x4A, [7, 0, 0]), (0x50, [1, 1, 0, 0, 10, 40]),
      (0x59, List.replicate 21 0)]
    short.all (fun e => decide (decodeRequest ⟨e.1, 1, e.2⟩ = .badLength)) = true ∧
    (match rxBytes (controlFrame 0x12 9 []) idle with
     | .next t => decide (t.link.transmit = [⟨.reply, 0x80, 9, [0x12, 3]⟩]) && decide (t.link.receiver = .hunt)
     | _ => false) = true := by decide +kernel

/-! ## Attention and RESTART -/

def take0 : Take where
  state := .queued
  dest := 5
  source := 10
  origin := .direct
  panel := 0
  group := none
  condition := none
  report := true
  admittedAt := 0
  ageStart := 0
  issuedAt := none
  reissued := false
  outcome := none

/-- Every cause pending. -/
def noisy : State := { idle with
  flags := {
    destFault := put Flags.reset.destFault 255 (some ⟨1, 2⟩)
    lockBreach := put Flags.reset.lockBreach 5 (some (10, .notNeeded))
    domain := put Flags.reset.domain 3 (some (.locked, false))
    recorder := put Flags.reset.recorder 15 (some (true, .idle))
    wall := put Flags.reset.wall 7 (some .stalled)
    released := put Flags.reset.released 0 (some (63, .force))
    comparator := put Flags.reset.comparator 7 (some (true, .ok)) }
  bus := { idle.bus with discrepancies := [⟨5, 10, 11, 3, .report, .none⟩] }
  pool := { idle.pool with
    slots := put idle.pool.slots 4 ⟨3, some { take0 with state := .done, outcome := some .completed }, none⟩
    reports := [4] } }

/-- What READ ATTENTION answers `n` times over, each reply sent before the next request. -/
def attend : Nat → State → List (List Byte)
  | 0, _ => []
  | n + 1, s =>
    match exec (.readAttention 1) s with
    | .next t => (t.link.transmit.map TxFrame.body).flatten :: attend n { t with link := idle.link }
    | _ => []

theorem test_read_attention_order :
    attend 10 noisy =
      [[2, 0, 1, 0, 8, 255, 1, 2], [2, 0, 2, 0, 7, 5, 0, 10, 2, 0, 0, 0], [2, 0, 3, 0, 6, 3, 3, 0],
       [2, 0, 4, 0, 5, 15, 0, 1], [2, 0, 5, 0, 4, 7, 3], [2, 0, 6, 0, 3, 5, 0, 10, 0, 11, 0, 0, 0, 3, 0, 0, 0, 0],
       [2, 0, 7, 0, 2, 0, 63, 2], [2, 0, 8, 0, 1, 7, 1, 0], [2, 0, 9, 0, 0, 4, 3, 5, 0, 10, 1], [2, 5]] := by
  decide +kernel

def restartable : State :=
  ((((noisy.setDest 9 { DestRec.reset with output := .faulted }).setDom 1 { DomRec.reset with
    lock := .locked, closing := some .drain }).setProtect 5 (some ⟨1, .lock, 1, true⟩)).setPort 2 { PortRec.reset with
    queue := [.cue], markPending := true, exchange := .busy }).setWall 6 { WallRec.reset with
    link := .stalled, tiles := put WallRec.reset.tiles 3 (.source 7) }

theorem test_restart_clears :
    sees restartable (.restart 1) (fun t => ((t.dest 9).output, t.bus.priority, (t.slot 4).gen)) =
      some (.unknown, [9], 3) ∧
    sees restartable (.restart 1) (fun t => ((t.slot 4).take, t.protectOf 5, (t.port 2).queue, (t.port 2).exchange)) =
      some (none, none, [], .busy) := by decide +kernel

theorem test_restart_closes_and_refreshes :
    sees restartable (.restart 1) (fun t => ((t.dom 1).lock, (t.dom 1).closing, t.instances)) = some (.closed, none, 1) ∧
    sees (restartable.setDom 1 { DomRec.reset with lock := .holdover, closing := some .drain, timecode := 9, stopMoment := 3 })
      (.restart 1) (fun t => ((t.dom 1).timecode, (t.dom 1).stopMoment, t.pool.issued)) =
      some (9, restartable.now, []) ∧
    sees restartable (.restart 1) (fun t => (t.wall 6).link) = some .awaitAck ∧
    sees restartable (.restart 1) (fun t => (t.wall 6).sent) =
      some (some (1, [(3, .source [0x53, 0x52, 0x43, 0x20, 0x30, 0x30, 0x37] .off)])) := by decide +kernel

/-! ## A working state -/

/-- Domain 0 LOCKED; destination 5 of the PROGRAMME role READY with source 10; panel 1 enrolled at level 1. -/
def working : State := { ((idle.setDom 0 { DomRec.reset with lock := .locked, seen := .standard 2, lastStart := some 0 }).setDest 5
    { DestRec.reset with source := some 10, output := .ready, role := .programme }).setSrc 10
    { SrcRec.reset with programme := 1 } with
  registry := { idle.registry with panels := put idle.registry.panels 1 ⟨true, 1⟩ }
  bus := { idle.bus with walk := .none } }

/-- With a take of destination 5 in slot `i` in a state. -/
def withTake (s : State) (i : Slot) (k : Take) : State :=
  let s1 := s.setSlot i ⟨(s.slot i).gen + 1, some k, none⟩
  if k.state.waiting then s1.setQueue 0 (s1.queue 0 ++ [i])
  else { s1 with pool := { s1.pool with issued := s1.pool.issued ++ [i] } }

/-! ## Walls -/

/-- A wall in a link state, tile 0 bound to destination 5 and tile 63 to source 10. -/
def walled (l : WallState) (q : List Tile) : State := working.setWall 7 { WallRec.reset with
  tiles := put (put WallRec.reset.tiles 0 (.dest 5)) 63 (.source 10), queue := q, link := l
  number := 255, outstanding := if l = .awaitAck then some ⟨255, [0], 0⟩ else none }

theorem test_colours :
    let c (p v r : Nat) := SrcRec.colour ⟨none, p, v, r⟩
    c 1 1 1 = .red ∧ c 0 1 1 = .green ∧ c 0 0 1 = .amber ∧ c 0 0 0 = .off := by decide

theorem test_tile_content :
    working.compose .none = .blank ∧
    working.compose (.source 511) = .source [0x53, 0x52, 0x43, 0x20, 0x35, 0x31, 0x31] .off ∧
    working.compose (.dest 5) =
      .dest [0x44, 0x53, 0x54, 0x20, 0x30, 0x30, 0x35] [0x53, 0x52, 0x43, 0x20, 0x30, 0x31, 0x30] .red .none ∧
    (withTake working 0 take0).compose (.dest 5) =
      .dest [0x44, 0x53, 0x54, 0x20, 0x30, 0x30, 0x35] [0x53, 0x52, 0x43, 0x20, 0x30, 0x31, 0x30] .red .pending ∧
    (working.setDest 6 { DestRec.reset with output := .offline }).compose (.dest 6) =
      .dest [0x44, 0x53, 0x54, 0x20, 0x30, 0x30, 0x36] [0x2D, 0x2D, 0x2D, 0x2D] .off .fault := by decide +kernel

theorem test_handed_objects_mark_tiles :
    (((walled .idle []).hand (.source 10)).settleWalls.wall 7).outstanding = some ⟨0, [0, 63], 0⟩ ∧
    (((walled .awaitAck [63]).hand (.dest 5)).settleWalls.wall 7).queue = [63, 0] ∧
    (((walled .idle []).hand (.source 11)).settleWalls.wall 7).link = .idle ∧
    ((walled .idle []).hand (.source 10)).handed ≠ [] := by decide +kernel

theorem test_bind_tile :
    answersAll idle [(.bindTile 1 8 0 0 0, [0x48, 4, 1]), (.bindTile 1 7 64 0 0, [0x48, 4, 2]),
      (.bindTile 1 7 63 3 0, [0x48, 4, 3]), (.bindTile 1 7 63 1 256, [0x48, 4, 4]), (.bindTile 1 7 63 2 512, [0x48, 4, 4]),
      (.bindTile 1 7 63 1 255, [0x48, 0]), (.bindTile 1 7 63 2 511, [0x48, 0]), (.bindTile 1 7 63 0 0xFFFF, [0x48, 0])]
      = true ∧
    sees (walled .awaitAck [63]) (.bindTile 1 7 63 0 0) (fun t => ((t.wall 7).queue, (t.wall 7).link)) =
      some ([63], .awaitAck) ∧
    sees (walled .idle []) (.bindTile 1 7 0 0 0) (fun t => ((t.wall 7).sent, (t.wall 7).link)) =
      some (some (0, [(0, .blank)]), .awaitAck) := by decide +kernel

theorem test_ack :
    sees (walled .awaitAck []) (.ack 7 255) (fun t => ((t.wall 7).link, (t.wall 7).outstanding)) = some (.idle, none) ∧
    sees (walled .awaitAck [63]) (.ack 7 255) (fun t => (t.wall 7).outstanding) = some (some ⟨0, [63], 0⟩) ∧
    sees (walled .awaitAck [63]) (.ack 7 254) (fun t => (t.wall 7).outstanding) = some (some ⟨255, [0], 0⟩) ∧
    sees (walled .stalled [63]) (.ack 7 255) (fun t => (t.wall 7).link) = some .stalled := by decide +kernel

theorem test_ack_timeout_and_hello :
    sees { walled .awaitAck [] with now := 20000 } (.ackTimeout 7)
      (fun t => ((t.wall 7).link, (t.wall 7).outstanding, look t.flags.wall 7)) = some (.stalled, none, some .stalled) ∧
    sees { walled .awaitAck [] with now := 19999 } (.ackTimeout 7) (fun t => (t.wall 7).link) = some .awaitAck ∧
    sees { walled .idle [] with now := 20000 } (.ackTimeout 7) (fun t => (t.wall 7).link) = some .idle ∧
    sees (walled .awaitAck [63]) (.hello 7) (fun t => ((t.wall 7).outstanding, look t.flags.wall 7)) =
      some (some ⟨0, [63, 0], 0⟩, some .idle) ∧
    sees idle (.hello 0) (fun t => ((t.wall 0).link, (t.wall 0).outstanding)) = some (.idle, none) := by decide +kernel

theorem test_refresh_wall :
    replyTo idle (.refreshWall 1 8) = [0x49, 4, 1] ∧ replyTo idle (.refreshWall 1 7) = [0x49, 0, 0, 0] ∧
    replyTo (walled .awaitAck []) (.refreshWall 1 7) = [0x49, 0, 2, 2] ∧
    replyTo (walled .stalled []) (.refreshWall 1 7) = [0x49, 0, 2, 0] ∧
    replyTo (idle.setWall 7 { WallRec.reset with link := .stalled }) (.refreshWall 1 7) = [0x49, 0, 1, 0] := by
  decide +kernel

theorem test_read_wall :
    replyTo idle (.readWall 1 8 none) = [0x4A, 4, 1] ∧ replyTo idle (.readWall 1 7 (some (1, 64))) = [0x4A, 4, 2] ∧
    replyTo idle (.readWall 1 7 (some (2, 0))) = [0x4A, 4, 2] ∧
    (replyTo (walled .awaitAck [63]) (.readWall 1 7 (some (1, 0)))).take 13 =
      [0x4A, 0, 2, 255, 1, 255, 1, 0, 0, 0, 0, 0, 1] ∧
    ((replyTo idle (.readWall 1 7 none)).drop 198).length = 5 ∧ ((replyTo idle (.readWall 1 7 none)).drop 198).take 1 = [0] ∧
    ((replyTo idle (.readWall 1 7 (some (1, 0)))).drop 198).length = 6 ∧
    ((replyTo idle (.readWall 1 7 (some (1, 0)))).drop 198).take 2 = [1, 0] := by decide +kernel

/-! ## Crosspoint Table -/

def long : Text := List.replicate 17 0x41

theorem test_set_source_label :
    answersAll idle [(.setSourceLabel 1 512 none, [0x10, 4, 1]), (.setSourceLabel 1 511 (some long), [0x10, 4, 2]),
      (.setSourceLabel 1 511 (some [0x1F]), [0x10, 4, 2]), (.setSourceLabel 1 511 (some [0x7F]), [0x10, 4, 2]),
      (.setSourceLabel 1 511 (some (long.take 16)), [0x10, 0]), (.setSourceLabel 1 0 (some []), [0x10, 0])] = true ∧
    sees (walled .idle []) (.setSourceLabel 1 10 (some [0x41])) (fun t => (t.wall 7).sent.map (fun e => e.2.map Prod.fst)) =
      some (some [0, 63]) := by decide +kernel

theorem test_set_dest_config :
    answersAll (withTake working 0 take0) [(.setDestConfig 1 5 (some long) 4 8 3, [0x11, 4, 2]),
      (.setDestConfig 1 5 none 4 8 3, [0x11, 4, 3]), (.setDestConfig 1 5 none 3 8 3, [0x11, 4, 4]),
      (.setDestConfig 1 5 none 3 7 3, [0x11, 4, 5]), (.setDestConfig 1 5 none 3 7 2, [0x11, 49]),
      (.setDestConfig 1 5 none 0 7 2, [0x11, 0]), (.setDestConfig 1 6 none 3 7 0, [0x11, 0])] = true ∧
    sees working (.setDestConfig 1 5 none 3 7 1) (fun t => ((t.src 10).programme, (t.src 10).preview, (t.dest 5).domain)) =
      some (0, 1, 3) := by decide +kernel

theorem test_reports :
    ((working.applyReport 5 10 .foreign).dest 5).origin = .none ∧
    ((working.applyReport 5 511 .foreign).dest 5).origin = .foreign ∧
    ((working.applyReport 5 511 .foreign).src 10).programme = 0 ∧
    ((working.applyReport 5 511 .foreign).src 511).programme = 1 ∧
    (working.applyReport 5 511 .foreign).handed = [.dest 5, .source 10, .source 511] ∧
    ((working.setDest 5 { working.dest 5 with output := .offline }).applyReport 5 10 .own).handed = [.dest 5] ∧
    (((working.setDest 5 { working.dest 5 with output := .faulted }).applyReport 5 11 .own).dest 5).output = .faulted := by
  decide +kernel

/-! ## Take Pool -/

/-- Every slot allocated but the last `n`. -/
def poolWith (n : Nat) (s : State) : State := { s with pool := { s.pool with
  slots := mapTable (fun i r => if i.val + n < 128 then { r with take := some { take0 with dest := 77, state := .issued } }
    else r) s.pool.slots } }

theorem test_admission_checks_in_order :
    let c := fun (s : State) dest source panel cond => s.admissionChecks dest source panel cond
    let open5 := working.setDest 5 { working.dest 5 with zone := 7 }
    let strict : State := { open5 with registry := { open5.registry with zoneMin := put open5.registry.zoneMin 7 0 } }
    c working 256 512 64 none = .fail .badDest ∧ c working 255 512 64 none = .fail .badSource ∧
    c working 5 511 64 none = .fail .noPanel ∧ c working 5 511 2 none = .fail .noPanel ∧
    c working 6 511 1 none = .fail .notLearned ∧
    c (working.setDest 6 { DestRec.reset with output := .offline }) 6 0 0 none = .fail .noOutput ∧
    c (working.setDest 6 { DestRec.reset with output := .faulted }) 6 0 0 none = .fail .destFaulted ∧
    c (working.setDest 6 { DestRec.reset with output := .ready, domain := 3 }) 6 0 0 none = .fail .domainClosed ∧
    c strict 5 0 1 none = .fail .zoneDenied ∧ c strict 5 0 0 none = .pass 5 0 0 := by decide +kernel

theorem test_protects_at_admission :
    let c := fun (s : State) panel cond => s.admissionChecks 5 0 panel cond
    c (working.setProtect 5 (some ⟨2, .lock, 3, false⟩)) 1 none = .fail .locked ∧
    c (working.setProtect 5 (some ⟨2, .protect, 0, false⟩)) 1 none = .fail .guarded ∧
    c (working.setProtect 5 (some ⟨2, .protect, 1, false⟩)) 1 none = .pass 5 0 1 ∧
    c (working.setProtect 5 (some ⟨1, .lock, 1, false⟩)) 1 none = .pass 5 0 1 ∧
    c working 0 (some 11) = .fail .condFailed ∧ c working 0 (some 10) = .pass 5 0 0 := by decide +kernel

theorem test_slot_step :
    let q : AdmitFields := ⟨5, 11, .direct, 0, none, none, false⟩
    working.waitingOf 5 = none ∧ working.freeSlot = some 0 ∧
    ((working.admitTake q).map (fun e => (e.1, e.2.queue 0, e.2.handed))) = some (⟨⟨0, 1⟩, none⟩, [0], [.dest 5]) ∧
    (poolWith 0 working).admitTake q = none ∧ (poolWith 1 working).freeSlot = some 127 ∧
    (withTake working 0 take0).waitingOf 5 = some 0 ∧
    (((withTake working 0 take0).admitTake q).map (fun e => (e.1, e.2.queue 0, (e.2.slot 0).previous))) =
      some (⟨⟨0, 2⟩, some ⟨0, 1⟩⟩, [0], some ⟨⟨0, 1⟩, 5, 10, .superseded⟩) := by decide +kernel

theorem test_end_of_take :
    let s := withTake working 0 take0
    let t := withTake working 0 { take0 with report := false }
    ((s.endTake 0 .cancelled).slot 0).take.map (fun k => (k.state, k.outcome)) = some (.done, some .cancelled) ∧
    (s.endTake 0 .cancelled).pool.reports = [0] ∧ (s.endTake 0 .cancelled).handed = [.dest 5] ∧
    ((t.endTake 0 .expired).slot 0) = ⟨1, none, some ⟨⟨0, 1⟩, 5, 10, .expired⟩⟩ ∧ (t.endTake 0 .expired).queue 0 = [] ∧
    ((withTake t 1 { take0 with state := .issued }).endTake 0 .expired).handed = [] := by decide +kernel

theorem test_take :
    answersAll working [(.take 1 5 11 0 (some (2, 0)) 0, [0x20, 4, 4]), (.take 1 5 11 0 (some (1, 512)) 0, [0x20, 4, 4]),
      (.take 1 5 11 0 none 2, [0x20, 4, 5]), (.take 1 256 11 0 none 1, [0x20, 16, 1, 0]),
      (.take 1 5 511 1 (some (1, 10)) 1, [0x20, 0, 0, 1, 0]), (.take 1 5 11 0 (some (1, 511)) 1, [0x20, 24, 0, 5])] = true ∧
    replyTo (poolWith 0 working) (.take 1 5 11 0 none 0) = [0x20, 25, 0, 5] ∧
    replyTo (withTake working 0 take0) (.take 1 5 11 0 none 0) = [0x20, 0, 0, 2, 1, 0, 1] := by decide +kernel

theorem test_cancel_take :
    answersAll (withTake working 0 take0) [(.cancelTake 1 128 0, [0x21, 4, 1]), (.cancelTake 1 0 1, [0x21, 0]),
      (.cancelTake 1 0 0, [0x21, 26]), (.cancelTake 1 127 0, [0x21, 26])] = true ∧
    replyTo (withTake working 0 { take0 with state := .retry }) (.cancelTake 1 0 1) = [0x21, 27] ∧
    replyTo (working.setSlot 127 ⟨9, none, some ⟨⟨127, 9⟩, 5, 10, .completed⟩⟩) (.cancelTake 1 127 9) = [0x21, 27] ∧
    replyTo noisy (.cancelTake 1 4 3) = [0x21, 27] := by decide +kernel

theorem test_hold_limit :
    let s : State := withTake (working.setDom 0 { working.dom 0 with lock := .absent }) 0 take0
    sees { s with now := 2000000 } (.holdLimitExpiry 0) (fun t => (t.slot 0).take.bind Take.outcome) = some (some .expired) ∧
    sees { s with now := 1999999 } (.holdLimitExpiry 0) (fun t => t.queue 0) = some [0] ∧
    sees { withTake working 0 take0 with now := 2000000 } (.holdLimitExpiry 0) (fun t => t.queue 0) = some [0] := by
  decide +kernel

/-! ## Panel Registry -/

theorem test_enrol_panel_and_set_zone :
    answersAll working [(.enrolPanel 1 0 0, [0x28, 4, 1]), (.enrolPanel 1 64 0, [0x28, 4, 1]), (.enrolPanel 1 63 4, [0x28, 4, 2]),
      (.enrolPanel 1 1 3, [0x28, 40]), (.enrolPanel 1 63 3, [0x28, 0]), (.setZone 1 8 4, [0x2B, 4, 1]),
      (.setZone 1 7 4, [0x2B, 4, 2]), (.setZone 1 7 0, [0x2B, 0])] = true ∧
    sees working (.setZone 1 7 1) (fun t => (t.zoneMin 7, t.zoneMin 6)) = some (1, 3) ∧
    sees working (.enrolPanel 1 63 2) (fun t => t.panelRec 63) = some ⟨true, 2⟩ := by decide +kernel

def protecting : State := (working.setProtect 5 (some ⟨1, .protect, 1, false⟩)).setProtect 9 (some ⟨1, .lock, 3, true⟩)

theorem test_set_panel_level_and_withdraw :
    answersAll protecting [(.setPanelLevel 1 0 0, [0x29, 4, 1]), (.setPanelLevel 1 64 0, [0x29, 4, 1]),
      (.setPanelLevel 1 1 4, [0x29, 4, 2]), (.setPanelLevel 1 63 0, [0x29, 18]), (.setPanelLevel 1 1 2, [0x29, 0, 0, 1]),
      (.setPanelLevel 1 1 0, [0x29, 0, 0, 0]), (.withdrawPanel 1 0, [0x2A, 4, 1]), (.withdrawPanel 1 64, [0x2A, 4, 1]),
      (.withdrawPanel 1 63, [0x2A, 18]), (.withdrawPanel 1 1, [0x2A, 0, 0, 2])] = true ∧
    sees protecting (.setPanelLevel 1 1 2) (fun t => (t.protectOf 5, t.protectOf 9, look t.flags.released 5)) =
      some (none, some ⟨1, .lock, 3, true⟩, some (1, .demotion)) ∧
    sees protecting (.withdrawPanel 1 1) (fun t => (t.protectOf 9, look t.flags.released 9, (t.panelRec 1).enrolled)) =
      some (none, some (1, .withdrawal), false) := by decide +kernel

theorem test_protect_dest :
    answersAll protecting [(.protectDest 1 6 0 2 4 2, [0x2C, 4, 3]), (.protectDest 1 6 0 1 4 2, [0x2C, 4, 4]),
      (.protectDest 1 6 0 1 3 2, [0x2C, 4, 5]), (.protectDest 1 6 0 1 3 1, [0x2C, 4, 5]),
      (.protectDest 1 6 64 0 3 1, [0x2C, 18]), (.protectDest 1 6 63 0 3 1, [0x2C, 18]),
      (.protectDest 1 6 1 0 0 1, [0x2C, 41]), (.protectDest 1 9 0 0 3 1, [0x2C, 22]),
      (.protectDest 1 5 0 0 3 1, [0x2C, 23]), (.protectDest 1 5 1 0 1 1, [0x2C, 0]), (.protectDest 1 255 0 1 0 0, [0x2C, 0])]
      = true ∧
    replyTo { protecting with registry := { protecting.registry with zoneMin := put protecting.registry.zoneMin 0 0 } }
      (.protectDest 1 6 1 0 1 0) = [0x2C, 21] := by decide +kernel

theorem test_release_dest :
    answersAll protecting [(.releaseDest 1 5 64, [0x2D, 18]), (.releaseDest 1 5 63, [0x2D, 18]),
      (.releaseDest 1 6 1, [0x2D, 42]), (.releaseDest 1 5 1, [0x2D, 0]), (.releaseDest 1 5 0, [0x2D, 0])] = true ∧
    replyTo (protecting.setProtect 5 (some ⟨2, .lock, 1, false⟩)) (.releaseDest 1 5 1) = [0x2D, 42] ∧
    sees protecting (.releaseDest 1 5 0) (fun t => (t.protectOf 5, look t.flags.released 5)) =
      some (none, some (1, .force)) := by decide +kernel

/-- Destination 9 READY with source 20 under a restoring lock of panel 1. -/
def locked9 : State := protecting.setDest 9 { DestRec.reset with source := some 20, output := .ready }
def breachOf (s : State) (d : Dest) (x : Src) : Option (Option (Src × RestoreOutcome)) :=
  sees s (.confirmForeign d x) (fun t => look t.flags.lockBreach d)

theorem test_lock_breach :
    breachOf protecting 5 11 = some none ∧
    breachOf (locked9.setProtect 9 (some ⟨1, .lock, 3, false⟩)) 9 21 = some (some (21, .notRequested)) ∧
    breachOf locked9 9 20 = some (some (20, .notNeeded)) ∧
    breachOf protecting 9 20 = some (some (20, .refused .notLearned)) ∧
    breachOf locked9 9 21 = some (some (21, .admitted ⟨0, 1⟩ none)) ∧
    breachOf (poolWith 0 locked9) 9 21 = some (some (21, .refused .poolFull)) ∧
    breachOf (locked9.setDest 9 { locked9.dest 9 with output := .faulted }) 9 21 = some (some (21, .refused .destFaulted)) ∧
    breachOf (withTake locked9 2 { take0 with dest := 9, origin := .restore }) 9 21 =
      some (some (21, .alreadyPending ⟨2, 1⟩)) := by decide +kernel

/-! ## Salvo Store -/

/-- Salvo 31 of destinations 5 and 6, destination 6 READY with source 20. -/
def stored : State :=
  (working.setDest 6 { DestRec.reset with source := some 20, output := .ready }).setSalvo 31 [(5, 11), (6, 12)]

def busy : State := withTake stored 0 { take0 with group := some ⟨some 31, 1, .all⟩ }

theorem test_store_salvo :
    answersAll stored [(.storeSalvo 1 32 [], [0x30, 4, 1]), (.storeSalvo 1 31 [], [0x30, 4, 2]),
      (.storeSalvo 1 31 (List.replicate 65 (0, 0)), [0x30, 4, 2]), (.storeSalvo 1 31 [(5, 511), (6, 512)], [0x30, 4, 6]),
      (.storeSalvo 1 31 [(5, 1), (6, 2), (5, 3)], [0x30, 35, 5, 3]), (.storeSalvo 1 31 [(5, 511)], [0x30, 0])] = true ∧
    replyTo busy (.storeSalvo 1 31 [(5, 1)]) = [0x30, 32] ∧
    (let l := (List.finRange 64).map (fun i => ((⟨i.val, by omega⟩ : Dest), (0 : Src)))
     let s : State := { idle with store := { idle.store with
       salvos := mapTable (fun n e => if n.val < 16 then l else e) idle.store.salvos } }
     replyTo s (.storeSalvo 1 31 [(5, 1)]) = [0x30, 34, 0, 0] ∧ replyTo s (.storeSalvo 1 0 [(5, 1)]) = [0x30, 0]) := by
  decide +kernel

theorem test_erase_salvo :
    answersAll stored [(.eraseSalvo 1 32, [0x31, 4, 1]), (.eraseSalvo 1 0, [0x31, 33]), (.eraseSalvo 1 31, [0x31, 0])] = true ∧
    replyTo busy (.eraseSalvo 1 31) = [0x31, 32] ∧
    sees stored (.eraseSalvo 1 31) (fun t => (t.salvo 31, t.memoryUsed)) = some ([], 0) := by decide +kernel

theorem test_fires :
    let content := look stored.store.salvos 31
    let f (m : GroupMode) (p : Nat) : Firing := ⟨p, m, false, .direct, some 31⟩
    let absent6 := stored.setDest 6 DestRec.reset
    content ≠ [] ∧
    (stored.fireEntries (f .all 0) content).1 = .fired 1 2 0 none ∧
    ((stored.fireEntries (f .all 0) content).2.queue 0) = [0, 1] ∧
    (absent6.fireEntries (f .all 0) content).1 = .refused .notLearned (some 6) ∧
    (absent6.fireEntries (f .partialMode 0) content).1 = .fired 1 1 0 (some (.notLearned, 6)) ∧
    (stored.fireEntries (f .partialMode 63) content).1 = .refused .noPanel (some 5) ∧
    ((poolWith 1 stored).fireEntries (f .all 0) content).1 = .refused .poolFull (some 6) ∧
    ((withTake (poolWith 1 stored) 126 take0).fireEntries (f .all 0) content).1 = .fired 1 2 1 none ∧
    (content.map Prod.fst).Nodup := by decide +kernel

theorem test_fire_salvo :
    answersAll stored [(.fireSalvo 1 32 0 2 2, [0x32, 4, 1]), (.fireSalvo 1 31 0 2 2, [0x32, 4, 3]),
      (.fireSalvo 1 31 0 1 2, [0x32, 4, 4]), (.fireSalvo 1 0 0 1 1, [0x32, 33]), (.fireSalvo 1 31 63 1 1, [0x32, 18, 0, 5]),
      (.fireSalvo 1 31 1 0 1, [0x32, 0, 0, 1, 2, 0, 0])] = true ∧
    replyTo busy (.fireSalvo 1 31 0 0 0) = [0x32, 32] ∧
    sees stored (.fireSalvo 1 31 1 0 1) (fun t => t.store.undo) = some [⟨31, [(5, 10), (6, 20)]⟩] := by decide +kernel

theorem test_undo :
    let s : State := { stored with store := { stored.store with undo := [⟨31, [(5, 9)]⟩] } }
    replyTo idle (.undo 1 0) = [0x33, 36] ∧ replyTo s (.undo 1 64) = [0x33, 18, 0, 5] ∧
    replyTo s (.undo 1 1) = [0x33, 0, 31, 0, 1, 1, 0, 0] ∧
    sees s (.undo 1 1) (fun t => t.store.undo) = some [] ∧
    sees s (.undo 1 1) (fun t => (t.slot 0).take.map Take.origin) = some (some .undo) := by decide +kernel

/-! ## Domain Timers -/

def dom0 (f : DomRec → DomRec) (s : State) : State := s.setDom 0 (f (s.dom 0))

theorem test_lock_changes :
    let s := withTake (withTake { working with now := 7 } 0 take0) 1 { take0 with state := .issued }
    ((s.setLock 0 .absent).dom 0).stopMoment = 7 ∧
    (((s.setLock 0 .absent).slot 0).take.map Take.ageStart, ((s.setLock 0 .absent).slot 1).take.map Take.ageStart) =
      (some 7, some 0) ∧ (s.setLock 0 .absent).bus.absent = [(⟨1, 1⟩, 7)] ∧
    ((s.setLock 0 .holdover).dom 0).stopMoment = 0 ∧ look (s.setLock 0 .holdover).flags.domain 0 = some (.holdover, false) ∧
    ((({ idle with now := 3 } : State).setLock 3 .acquiring).dom 3).stopMoment = 3 := by decide +kernel

theorem test_closings :
    let closing := dom0 (fun r => { r with closing := some .drain }) working
    let held := withTake closing 0 { take0 with state := .held }
    (closing.settle.dom 0).lock = .closed ∧ ((withTake closing 0 take0).settle.dom 0).lock = .locked ∧
    (held.settle.dom 0).lock = .closed ∧ (held.settle.slot 0).take.bind Take.outcome = some .flushed ∧
    held.settle.handed = [] := by decide +kernel

theorem test_set_domain :
    answersAll working [(.setDomain 1 4 8 3 251 99, [0x38, 4, 1]), (.setDomain 1 3 8 3 251 99, [0x38, 4, 2]),
      (.setDomain 1 3 7 3 251 99, [0x38, 4, 3]), (.setDomain 1 3 7 65 251 99, [0x38, 4, 3]),
      (.setDomain 1 3 7 4 251 99, [0x38, 4, 4]), (.setDomain 1 3 7 64 250 99, [0x38, 4, 5]),
      (.setDomain 1 3 7 64 250 10001, [0x38, 4, 5]), (.setDomain 1 0 7 64 250 10000, [0x38, 48]),
      (.setDomain 1 3 7 64 250 10000, [0x38, 0]), (.setDomain 1 3 2 4 0 100, [0x38, 0])] = true ∧
    sees (idle.setDom 3 { DomRec.reset with standard := 7, timecode := 5183999 }) (.setDomain 1 3 0 4 0 100)
      (fun t => ((t.dom 3).timecode, (t.dom 3).standard)) = some (1036799, 0) := by decide +kernel

theorem test_open_and_close_domain :
    answersAll working [(.openDomain 1 4, [0x39, 4, 1]), (.openDomain 1 0, [0x39, 48]), (.openDomain 1 3, [0x39, 0]),
      (.closeDomain 1 4 2, [0x3A, 4, 1]), (.closeDomain 1 0 2, [0x3A, 4, 2]), (.closeDomain 1 3 0, [0x3A, 29]),
      (.closeDomain 1 0 0, [0x3A, 0, 0, 0])] = true ∧
    answersAll (withTake working 0 take0) [(.closeDomain 1 0 0, [0x3A, 0, 0, 3]), (.closeDomain 1 0 1, [0x3A, 0, 1, 0])]
      = true ∧
    sees (idle.setDom 3 { DomRec.reset with seen := .unrecognised }) (.openDomain 1 3)
      (fun t => ((t.dom 3).lock, (t.dom 3).openDetection)) = some (.acquiring, true) := by decide +kernel

theorem test_timecode_and_marks :
    answersAll idle [(.setTimecode 1 4 0, [0x3B, 4, 1]), (.setTimecode 1 3 2160000, [0x3B, 4, 2]),
      (.setTimecode 1 3 2159999, [0x3B, 0]), (.armMark 1 4 2 0 1, [0x3C, 4, 1]), (.armMark 1 3 2 0 1, [0x3C, 4, 2]),
      (.armMark 1 3 1 2160000 1, [0x3C, 4, 3]), (.armMark 1 3 1 0 0, [0x3C, 64]), (.armMark 1 3 1 2159999 95, [0x3C, 0]),
      (.disarmMark 1 4, [0x3D, 4, 1]), (.disarmMark 1 3, [0x3D, 0])] = true ∧
    replyTo (idle.setDom 3 { DomRec.reset with markStatus := .doneSingle }) (.armMark 1 3 0 0 1) = [0x3C, 50] ∧
    sees (idle.setDom 3 { DomRec.reset with markStatus := .doneSingle, pendingTimecode := some (9, .mark), markCounter := 7 })
      (.disarmMark 1 3) (fun t => ((t.dom 3).pendingTimecode, (t.dom 3).markStatus, (t.dom 3).markCounter)) =
      some (none, .idle, 0) := by decide +kernel

/-- The event catalogue at its edges. -/
theorem test_event_catalogue :
    ([1, 4, 8, 23, 32, 47, 64, 95].all isEvent) = true ∧ ([0, 5, 7, 24, 31, 48, 63, 96].any isEvent) = false := by
  decide +kernel

/-- A domain 0 with a monitor that judges `seen`, its last frame start at 0, in lock state `l`, at `now`. -/
def monitored (l : LockState) (seen : Seen) (now : Time) (f : DomRec → DomRec) : State :=
  { dom0 (fun r => f { r with lock := l, seen := seen, lastStart := some 0 }) idle with now := now }
def domAfter (s : State) (c : Instr) : Option (LockState × Seen × Nat) :=
  sees s c (fun t => ((t.dom 0).lock, (t.dom 0).seen, (t.dom 0).settleProgress))

theorem test_reference_judgement :
    sees { idle with now := 5 } (.referenceFrameStart 0) (fun t => (t.dom 0).lastStart) = some (some 5) ∧
    domAfter (monitored .acquiring .none 40008 id) (.referenceFrameStart 0) = some (.settling, .standard 2, 0) ∧
    domAfter (monitored .acquiring .none 40009 id) (.referenceFrameStart 0) = some (.acquiring, .unrecognised, 0) ∧
    domAfter (monitored .closed .none 40000 id) (.referenceFrameStart 0) = some (.closed, .standard 2, 0) ∧
    sees (monitored .absent .none 20000 id) (.referenceFrameStart 0)
      (fun t => ((t.dom 0).lock, look t.flags.domain 0)) = some (.absent, some (.absent, true)) ∧
    State.matching 16675 = [6, 7] := by decide +kernel

theorem test_reference_settles_and_locks :
    domAfter (monitored .settling (.standard 2) 40008 id) (.referenceFrameStart 0) = some (.settling, .standard 2, 1) ∧
    domAfter (monitored .settling (.standard 2) 40000 (fun r => { r with settleProgress := 15 })) (.referenceFrameStart 0) =
      some (.locked, .standard 2, 0) ∧
    sees (monitored .settling (.standard 2) 40000 (fun r => { r with settleProgress := 15 })) (.referenceFrameStart 0)
      (fun t => ((t.dom 0).number, (t.dom 0).timerAt)) = some (1, 40000) ∧
    domAfter (monitored .acquiring (.standard 2) 40000 (fun r => { r with openDetection := true })) (.referenceFrameStart 0) =
      some (.settling, .standard 2, 0) ∧
    domAfter (monitored .locked (.standard 2) 40000 id) (.referenceFrameStart 0) = some (.locked, .standard 2, 0) := by
  decide +kernel

theorem test_reference_returns_from_holdover :
    let back (timer : Time) (f : State → Nat) := sees (monitored .holdover .none 40000 (fun r => { r with timerAt := timer }))
      (.referenceFrameStart 0) (fun t => ((t.dom 0).lock, f t))
    back 39936 (fun t => (t.dom 0).number.toNat) = some (.locked, 0) ∧
    back 64 (fun t => (t.dom 0).number.toNat) = some (.locked, 1) ∧
    back 20000 (fun t => (t.dom 0).number.toNat) = some (.settling, 0) := by decide +kernel

theorem test_reference_loss :
    domAfter (monitored .locked (.standard 2) 40009 (fun r => { r with timerAt := 39945 })) (.referenceFrameStart 0) =
      some (.holdover, .none, 0) ∧
    domAfter (monitored .locked (.standard 2) 40009 (fun r => { r with timerAt := 39945, holdoverLimit := 0 }))
      (.referenceFrameStart 0) = some (.absent, .none, 0) ∧
    domAfter (monitored .settling (.standard 2) 30000 id) (.referenceFrameStart 0) = some (.acquiring, .none, 0) ∧
    domAfter (monitored .settling (.standard 2) 60000 id) (.referenceLossTimeout 0) = some (.acquiring, .none, 0) ∧
    domAfter (monitored .settling (.standard 2) 59999 id) (.referenceLossTimeout 0) = some (.settling, .standard 2, 0) ∧
    domAfter (monitored .settling .none 60000 id) (.referenceLossTimeout 0) = some (.settling, .none, 0) ∧
    domAfter (monitored .holdover .unrecognised 60 (fun r => { r with lastSpacing := 40 })) (.referenceLossTimeout 0) =
      some (.holdover, .none, 0) := by decide +kernel

/-- A reference frame start that departs 5,000 µs early in LOCKED leaves the domain LOCKED to its next timer frame start,
which is a switch point; the domain then enters HOLDOVER with count 0, or ABSENT with limit 0 (R79). -/
theorem test_departure_is_judged_at_the_timer_frame_start :
    let departed (limit : Nat) := monitored .locked (.standard 2) 35000 (fun r => { r with holdoverLimit := limit })
    let after (limit : Nat) : Option (LockState × Nat × U32 × Option Time) :=
      match exec (.referenceFrameStart 0) (departed limit) with
      | .next t => sees { t with now := 40000 } (.timerFrameStart 0 false)
          (fun u => ((u.dom 0).lock, (u.dom 0).holdoverCount, (u.dom 0).number, (u.dom 0).lastStart))
      | _ => none
    sees (departed 50) (.referenceFrameStart 0) (fun t => ((t.dom 0).lock, (t.dom 0).seen, (t.dom 0).lossPending)) =
      some (.locked, .none, true) ∧
    after 50 = some (.holdover, 0, 1, some 35000) ∧ after 0 = some (.absent, 0, 1, some 35000) := by decide +kernel

/-- With a loss pending: a frame start near the timer's leaves the monitor as it is; a standard seen since is lost again when
none is near; and a loss timeout leaves the domain LOCKED. -/
theorem test_a_pending_loss :
    let pending (seen : Seen) (now : Time) := monitored .locked seen now (fun r => { r with lossPending := true })
    domAfter (pending (.standard 5) 64) (.timerFrameStart 0 false) = some (.holdover, .standard 5, 0) ∧
    domAfter (pending (.standard 5) 65) (.timerFrameStart 0 false) = some (.holdover, .none, 0) ∧
    sees (pending (.standard 5) 65) (.timerFrameStart 0 false) (fun t => ((t.dom 0).lastStart, (t.dom 0).lossPending)) =
      some (none, false) ∧
    sees (pending (.standard 5) 30000) (.referenceLossTimeout 0)
      (fun t => ((t.dom 0).lock, (t.dom 0).seen, (t.dom 0).lossPending)) = some (.locked, .none, true) := by decide +kernel

def lockAfter (l : LockState) (now : Time) (f : DomRec → DomRec) (follows : Bool) : Option LockState :=
  sees (monitored l (.standard 2) now f) (.timerFrameStart 0 follows) (fun t => (t.dom 0).lock)

theorem test_timer_frame_starts :
    lockAfter .settling 9 id true = some .settling ∧ lockAfter .locked 64 id false = some .locked ∧
    lockAfter .locked 65 id true = some .locked ∧ lockAfter .locked 65 id false = some .holdover ∧
    lockAfter .locked 65 (fun r => { r with holdoverLimit := 0 }) false = some .absent ∧
    lockAfter .locked 65 (fun r => { r with closing := some .drain }) false = some .closed := by decide +kernel

theorem test_holdover_counts :
    let after (now : Time) (n : Nat) := sees (monitored .holdover .none now (fun r => { r with holdoverCount := n }))
      (.timerFrameStart 0 false) (fun t => ((t.dom 0).lock, (t.dom 0).holdoverCount, (t.dom 0).timerAt, (t.dom 0).number))
    after 39999 0 = some (.holdover, 0, 0, 0) ∧ after 40000 48 = some (.holdover, 49, 40000, 1) ∧
    after 40000 49 = some (.absent, 0, 40000, 0) := by decide +kernel

/-! ## Events, GPI, comparators -/

theorem test_switch_point_and_deliveries :
    let s := dom0 (fun r => { r with timecode := 2159999 }) working
    ((s.switchPoint 0).dom 0).timecode = 0 ∧ ((s.switchPoint 0).dom 0).number = 1 ∧
    (((dom0 (fun r => { r with pendingTimecode := some (9, .mark) }) working).switchPoint 0).dom 0).timecode = 9 ∧
    ((idle.deliver [.poll 15]).port 15).exchange = .busy ∧
    (((dom0 (fun r => { r with markStatus := .armedSingle, markPreset := 4 }) idle).deliver [.mark 0]).dom 0).markStatus =
      .doneSingle ∧
    (((dom0 (fun r => { r with markStatus := .continuous, markCounter := 7 }) idle).deliver [.mark 0]).dom 0).markCounter = 0 ∧
    ((idle.deliver [.mark 0]).dom 0).pendingTimecode = none ∧ idle.arrivals 1 = [] := by decide +kernel

/-- A trigger whose comparator forwards its action, delivered to the end. -/
theorem test_trigger_is_delivered :
    let s := stored.setCmp 7 { CmpRec.reset with state := .armed, mode := .every, onTrue := .attention }
    ((s.trigger 7).2 = [.action 7 true .attention]) ∧
    look (s.deliver [.trigger 7]).flags.comparator 7 = some (true, .ok) ∧
    look ((s.trigger 7).1.settle.deliver (s.trigger 7).2).flags.comparator 7 = some (true, .ok) := by decide +kernel

/-- R163's table. -/
theorem test_comparator_results :
    let r (margin period : Nat) (strict : Bool) : CmpRec :=
      { CmpRec.reset with origin := 90000, margin := margin, period := period, strict := strict }
    (r 3 0 false).evaluate 2 90002 = true ∧ (r 3 0 true).evaluate 2 90003 = false ∧ (r 3 0 false).evaluate 2 89999 = false ∧
    (r 0 250 false).evaluate 2 90251 = false ∧ (r 0 250 false).evaluate 2 90500 = true ∧ (r 3 0 false).evaluate 2 90003 = true
    := by decide +kernel

def comparing (st : CmpState) (m : CmpMode) (last : Option Bool) : State :=
  stored.setCmp 7 { CmpRec.reset with state := st, mode := m, lastResult := last, onTrue := .attention }
def cmpAfter (s : State) : CmpState × Option Bool × Bool × Nat :=
  let e := s.trigger 7
  ((e.1.cmp 7).state, (e.1.cmp 7).lastResult, (e.1.cmp 7).trueLatch.isSome, e.2.length)

theorem test_trigger_states :
    cmpAfter (comparing .off .once none) = (.off, none, false, 0) ∧
    cmpAfter (comparing .armed .once none) = (.off, some true, true, 1) ∧
    cmpAfter (dom0 (fun r => { r with timecode := 1 }) (comparing .armed .once none)) = (.armed, some false, false, 0) ∧
    cmpAfter (comparing .armed .every none) = (.armed, some true, true, 1) ∧
    cmpAfter (comparing .baseline .onChange none) = (.tracking, some true, false, 0) ∧
    cmpAfter (comparing .tracking .onChange (some true)) = (.tracking, some true, false, 0) ∧
    cmpAfter (comparing .tracking .onChange (some false)) = (.tracking, some true, true, 1) := by decide +kernel

theorem test_actions :
    let code (s : State) (a : Action) :=
      (((s.deliver [.action 7 true a]).cmp 7).lastAction.map LastAction.result,
        look (s.deliver [.action 7 true a]).flags.comparator 7)
    code idle .attention = (some .ok, some (true, .ok)) ∧ code idle (.recorder 15 .cue) = (some .ok, none) ∧
    code (idle.setPort 15 { PortRec.reset with online := false }) (.recorder 15 .cue) =
      (some .portOffline, some (true, .portOffline)) ∧
    code (idle.setPort 15 { PortRec.reset with exchange := .busy, queue := List.replicate 4 .cue }) (.recorder 15 .cue) =
      (some .queueFull, some (true, .queueFull)) ∧
    code stored (.fireSalvo 31) = (some .ok, none) ∧ code busy (.fireSalvo 31) = (some .salvoBusy, some (true, .salvoBusy)) ∧
    code idle (.fireSalvo 31) = (some .noSalvo, some (true, .noSalvo)) ∧
    code ((stored.setDest 5 DestRec.reset).setDest 6 DestRec.reset) (.fireSalvo 31) =
      (some .notLearned, some (true, .notLearned)) ∧
    (stored.deliver [.action 7 true (.fireSalvo 31)]).store.undo = [⟨31, [(5, 10), (6, 20)]⟩] := by decide +kernel

theorem test_gpi_pins :
    let r : GpiRec := GpiRec.reset false
    let after (v : GpiRec) (c : Instr) := sees ({ idle with now := 5000 }.setGpi 7 v) c (fun t => t.gpi 7)
    after r (.gpiPinChange 7 false) = some r ∧ after r (.gpiPinChange 7 true) = some ⟨5, false, some (true, 5000), true⟩ ∧
    after ⟨5, false, some (true, 0), true⟩ (.gpiPinChange 7 false) = some ⟨5, false, none, false⟩ ∧
    after ⟨0, false, none, false⟩ (.gpiPinChange 7 true) = some ⟨0, true, none, true⟩ ∧
    after ⟨5, false, some (true, 0), true⟩ (.debounceExpiry 7) = some ⟨5, true, none, true⟩ ∧
    after ⟨5, false, some (true, 1), true⟩ (.debounceExpiry 7) = some ⟨5, false, some (true, 1), true⟩ := by decide +kernel

theorem test_set_gpi :
    answersAll idle [(.setGpi 1 8 51, [0x58, 4, 1]), (.setGpi 1 7 51, [0x58, 4, 2]), (.setGpi 1 7 50, [0x58, 0, 0])] = true ∧
    replyTo ({ idle with now := 3000 }.setGpi 7 ⟨5, false, some (true, 0), true⟩) (.setGpi 1 7 3) = [0x58, 0, 1] ∧
    replyTo ({ idle with now := 2999 }.setGpi 7 ⟨5, false, some (true, 0), true⟩) (.setGpi 1 7 3) = [0x58, 0, 0] := by
  decide +kernel

theorem test_set_comparator :
    let c (k d : Byte) (o m : U32) (strict mode trigger panel tk t1 t2 fk f1 f2 : Byte) : Instr :=
      .setComparator 1 k d o m 0 strict mode trigger panel tk t1 t2 fk f1 f2
    answersAll idle [(c 8 4 0 0 2 4 0 64 4 0 0 4 0 0, [0x59, 4, 1]), (c 7 4 0 0 2 4 0 64 4 0 0 4 0 0, [0x59, 4, 2]),
      (c 7 3 0 0 2 4 0 64 4 0 0 4 0 0, [0x59, 4, 6]), (c 7 3 0 0 1 4 0 64 4 0 0 4 0 0, [0x59, 4, 7]),
      (c 7 3 0 0 1 3 0 64 4 0 0 4 0 0, [0x59, 4, 9]), (c 7 3 0 0 1 3 0 63 4 0 0 4 0 0, [0x59, 4, 10]),
      (c 7 3 0 0 1 3 0 63 1 32 0 4 0 0, [0x59, 4, 11]), (c 7 3 0 0 1 3 0 63 2 16 0 4 0 0, [0x59, 4, 11]),
      (c 7 3 0 0 1 3 0 63 2 15 0 4 0 0, [0x59, 4, 12]), (c 7 3 0 0 1 3 0 63 2 15 4 4 0 0, [0x59, 4, 13]),
      (c 7 3 0 0 1 3 0 63 3 0 0 1 32 0, [0x59, 4, 14]), (c 7 3 0 0 1 3 0 63 1 31 0 2 15 5, [0x59, 4, 15])] = true ∧
    answersAll idle [(c 7 3 2160000 2160000 0 0 32 0 0 9 9 0 9 9, [0x59, 4, 3]),
      (c 7 3 2159999 2160000 0 0 32 0 0 9 9 0 9 9, [0x59, 4, 4]), (c 7 3 2159999 2159999 0 0 32 0 0 9 9 0 9 9, [0x59, 64]),
      (c 7 3 0 0 0 0 47 0 0 0 0 0 0 0, [0x59, 64]), (c 7 3 0 0 0 0 5 0 0 0 0 0 0 0, [0x59, 64]),
      (c 7 3 0 0 0 2 31 0 0 0 0 0 0 0, [0x59, 64]), (c 7 3 0 0 0 2 0 0 0 0 0 0 0 0, [0x59, 0]),
      (c 7 3 0 0 1 1 95 63 1 31 0 2 15 4, [0x59, 0])] = true ∧
    sees idle (c 7 3 0 0 0 2 4 0 0 0 0 0 0 0) (fun t => ((t.cmp 7).state, (t.cmp 7).mode, look t.router.trigger 7)) =
      some (.baseline, .onChange, 4) := by decide +kernel

/-! ## The issue window -/

/-- A take of slot 0 issued at switch point 0, and its domain at switch point 2. -/
def overdue (again : Bool) : State :=
  withTake (dom0 (fun r => { r with number := 2 }) working) 0 { take0 with
    state := .issued, issuedAt := some 0, reissued := again }

theorem test_deadlines :
    (((overdue false).judgeDeadline 0 0).slot 0).take.map Take.state = some .retry ∧
    look ((overdue false).judgeDeadline 0 0).bus.retry 0 = [⟨0, 1⟩] ∧
    (((overdue true).judgeDeadline 0 0).dest 5).output = .faulted ∧
    look ((overdue true).judgeDeadline 0 0).flags.destFault 5 = some ⟨0, 1⟩ ∧
    (((withTake (overdue true) 1 take0).judgeDeadline 0 0).slot 1).take.bind Take.outcome = some .faulted ∧
    (((dom0 (fun r => { r with number := 1 }) (overdue false)).judgeDeadline 0 0).slot 0).take.map Take.state =
      some .issued := by decide +kernel

theorem test_retries_are_reissued :
    let s := ((overdue false).judgeDeadline 0 0)
    let g := State.grantRetries ⟨s, [], 32⟩ 0
    g.budget = 31 ∧ g.writes = [⟨5, 10⟩] ∧ look g.state.bus.retry 0 = [] ∧
    (g.state.slot 0).take.map (fun k => (k.state, k.reissued, k.issuedAt)) = some (.issued, true, some 2) ∧
    (State.grantRetries ⟨s, [], 0⟩ 0).writes = [] := by decide +kernel

theorem test_selection :
    let one (s : State) (b : Nat) := State.walkSingle 0 ⟨s, [], b⟩ 0
    let s := withTake working 0 take0
    let held := s.setPort 3 { PortRec.reset with dest := some 5, policy := .hold }
    let split := s.setPort 3 { PortRec.reset with dest := some 5, policy := .split, reported := .recording }
    ((one s 1).writes, (one s 1).budget, (one s 1).state.queue 0, (one s 1).state.pool.issued) = ([⟨5, 10⟩], 0, [], [0]) ∧
    ((one held 1).state.slot 0).take.map Take.state = some .held ∧
    (one (withTake s 1 { take0 with state := .issued }) 1).writes = [] ∧
    ((one (withTake working 0 { take0 with condition := some 11 }) 1).state.slot 0).take.bind Take.outcome =
      some .condFailed ∧
    ((one split 1).state.port 3).inFlight = some ⟨.command .mark, true, 0, 40⟩ := by decide +kernel

/-- `n` takes of one ALL group for destinations 100 and up. -/
def groupRun (n : Nat) (cond : Option Src) : State := { idle with pool := { idle.pool with
  slots := mapTable (fun i r => if i.val < n then { r with take := some { take0 with
    dest := ⟨100 + i.val, by omega⟩, group := some ⟨none, 1, .all⟩, condition := cond } } else r) idle.pool.slots
  queues := put idle.pool.queues 0 ((List.finRange 128).take n) } }

theorem test_group_runs :
    let run (n b : Nat) (cond : Option Src) :=
      let g := State.walkRun 0 ⟨groupRun n cond, [], b⟩ ((List.finRange 128).take n)
      (g.1.writes.length, g.1.budget, g.2)
    run 3 3 none = (3, 0, true) ∧ run 3 2 none = (0, 2, false) ∧ run 32 31 none = (0, 31, false) ∧
    run 33 32 none = (32, 0, false) ∧ run 3 3 (some 1) = (0, 3, true) := by decide +kernel

theorem test_scrub :
    let s := { working with bus := { working.bus with debt := put working.bus.debt 0 8 } }
    let g := s.forcedScrub 0
    (g.writes, g.budget, look g.state.bus.debt 0) = ([⟨5, 10⟩], 31, 0) ∧ (working.forcedScrub 0).writes = [] ∧
    (let o := State.ordinaryScrub ⟨working, [], 0⟩ 0 []
     (o.writes, look o.state.bus.debt 0) = ([], 1)) ∧
    (let o := State.ordinaryScrub ⟨working, [], 32⟩ 0 []
     (o.writes, look o.state.bus.cursor 0) = ([⟨5, 10⟩], 6)) ∧
    (let o := State.ordinaryScrub ⟨idle, [], 32⟩ 0 []
     (o.writes, look o.state.bus.debt 0) = ([], 0)) := by decide +kernel

/-- A window issues the entry admitted before its switch point, not the one after; an ALL group's run goes as one. -/
theorem test_window_walks_the_queue :
    let s := withTake (withTake working 0 take0) 1 { take0 with dest := 9 }
    (State.selectTakes ⟨s, [], 32⟩ 0 [⟨0, 1⟩]).writes = [⟨5, 10⟩] ∧
    (s.issueWindow 0 [⟨0, 1⟩]).bus.transfers = [[⟨5, 10⟩]] ∧ (s.issueWindow 0 [⟨0, 1⟩]).queue 0 = [1] ∧
    (State.walk 0 3 ⟨groupRun 3 none, [], 2⟩ [0, 1, 2]).writes = [] ∧
    (State.walk 0 3 ⟨groupRun 3 none, [], 3⟩ [0, 1, 2]).writes.length = 3 ∧
    (groupRun 3 none).runOf 0 [1, 2] = some [0, 1, 2] ∧
    (({ overdue false with bus := { working.bus with absent := [(⟨0, 1⟩, 0), (⟨1, 0⟩, 0)] } } : State).dropTimers 0).bus.absent =
      [(⟨1, 0⟩, 0)] := by
  decide +kernel

theorem test_debt :
    State.debtAfter 3 10 8 = 0 ∧ State.debtAfter 3 10 4 = 2 ∧ State.debtAfter 3 10 2 = 3 ∧ State.debtAfter 3 10 1 = 4 ∧
    State.debtAfter 3 1 1 = 3 ∧ State.debtAfter 3 0 0 = 3 := by decide

/-! ## The matrix bus -/

theorem test_own_confirm :
    let s := withTake working 0 { take0 with state := .issued, source := 11 }
    sees s (.confirmOwn 5 11) (fun t => ((t.dest 5).source, (t.dest 5).takeCount, (t.slot 0).take.bind Take.outcome)) =
      some (some 11, 1, some .completed) ∧
    sees s (.confirmOwn 5 12) (fun t => ((t.dest 5).source, (t.dest 5).takeCount, t.pool.issued)) =
      some (some 12, 0, [0]) := by decide +kernel

def reading (kind : ReadbackKind) (d : Dest) (compare : Bool) (p : VerifyPolicy) : State := { working with
  now := 10000
  bus := { working.bus with readback := some ⟨d, kind, 0, compare⟩, walk := .verify, walkCursor := d, policy := p } }

theorem test_readback_ends :
    let s := reading .walk 5 true .report
    sees s (.answer 6 none) (fun t => t.bus.readback.isSome) = some true ∧
    sees idle (.answer 6 none) (fun t => (t.dest 6).output) = some .unknown ∧
    sees { s with now := 9999 } .answerTimeout (fun t => t.bus.readback.isSome) = some true ∧
    sees s .answerTimeout (fun t => ((t.dest 5).output, t.bus.walkCursor, t.bus.readback)) = some (.offline, 6, none) ∧
    sees (reading .walk 255 false .report) (.answer 255 none) (fun t => (t.bus.walk, t.bus.intervalStart)) =
      some (.none, 10000) ∧
    sees (reading .priority 5 false .report) (.answer 5 (some 11)) (fun t => ((t.dest 5).source, t.bus.walkCursor)) =
      some (some 11, 5) := by decide +kernel

theorem test_discrepancies :
    sees (reading .walk 5 true .report) (.answer 5 (some 11)) (fun t => t.bus.discrepancies) =
      some [⟨5, 10, 11, 10000, .report, .none⟩] ∧
    sees (reading .walk 5 true .repair) (.answer 5 (some 11)) (fun t => t.bus.discrepancies) =
      some [⟨5, 10, 11, 10000, .repair, .admitted ⟨0, 1⟩⟩] ∧
    sees (poolWith 0 (reading .walk 5 true .repair)) (.answer 5 (some 11)) (fun t => t.bus.discrepancies) =
      some [⟨5, 10, 11, 10000, .repair, .refused .poolFull⟩] ∧
    sees (reading .walk 5 true .repair) (.answer 5 (some 10)) (fun t => t.bus.discrepancies) = some [] := by decide +kernel

theorem test_readback_order :
    let s := { withTake working 0 take0 with bus := { working.bus with priority := [5, 9], walk := .learn, walkCursor := 255 } }
    sees s .readback (fun t => (t.bus.readback, t.bus.priority)) = some (some ⟨9, .priority, 0, false⟩, [5]) ∧
    sees { s with bus := { s.bus with priority := [5] } } .readback (fun t => t.bus.readback) =
      some (some ⟨255, .walk, 0, false⟩) ∧
    sees { working with bus := { working.bus with walk := .verify, walkCursor := 5 } } .readback (fun t => t.bus.readback) =
      some (some ⟨5, .walk, 0, true⟩) ∧
    sees { working.setDest 255 { DestRec.reset with output := .faulted } with
      bus := { working.bus with walk := .learn, walkCursor := 255 } } .readback (fun t => (t.bus.walk, t.bus.walkCursor)) =
      some (.none, 0) ∧
    sees working .readback (fun t => t.bus.readback) = some none ∧
    sees { working with bus := { working.bus with
      walk := .verify, discrepancies := List.replicate 16 ⟨5, 10, 11, 0, .report, .none⟩ } } .readback
      (fun t => t.bus.readback) = some none ∧
    sees { idle with bus := { idle.bus with transfers := [[⟨5, 10⟩]] } } .readback (fun t => t.bus.readback) = some none := by
  decide +kernel

theorem test_walks_and_transfers :
    let s := { working with now := 3000000, bus := { working.bus with interval := 3, transfers := [[⟨5, 10⟩], [⟨6, 11⟩]] } }
    sees s .verifyInterval (fun t => t.bus.walk) = some .verify ∧
    sees { s with now := 2999999 } .verifyInterval (fun t => t.bus.walk) = some .none ∧
    sees s .transferEnd (fun t => t.bus.transfers) = some [[⟨6, 11⟩]] ∧
    replyTo s (.startWalk 1) = [0x41, 0] ∧ replyTo idle (.startWalk 1) = [0x41, 56] ∧
    answersAll s [(.setVerify 1 3601 2, [0x40, 4, 1]), (.setVerify 1 3600 2, [0x40, 4, 2]), (.setVerify 1 3600 1, [0x40, 0])]
      = true ∧
    sees s (.setVerify 1 3600 1) (fun t => (t.bus.intervalStart, t.bus.interval)) = some (3000000, 3600) := by decide +kernel

theorem test_clear_fault_and_absent_timers :
    let f := working.setDest 255 { DestRec.reset with output := .faulted }
    let s : State := { withTake working 0 { take0 with state := .issued } with
      now := 100000, bus := { working.bus with absent := [(⟨0, 1⟩, 0)] } }
    replyTo f (.clearFault 1 255) = [0x42, 0] ∧ replyTo f (.clearFault 1 5) = [0x42, 49] ∧
    sees f (.clearFault 1 255) (fun t => ((t.dest 255).output, t.bus.priority)) = some (.unknown, [255]) ∧
    sees s (.absentTimerExpiry 0) (fun t => ((t.dest 5).output, t.bus.priority, (t.slot 0).take.bind Take.outcome)) =
      some (.unknown, [5], some .unverified) ∧
    sees { s with now := 99999 } (.absentTimerExpiry 0) (fun t => (t.dest 5).output) = some .ready ∧
    sees (s.setDest 5 { s.dest 5 with output := .faulted }) (.absentTimerExpiry 0) (fun t => (t.dest 5).output) =
      some .faulted ∧
    sees s (.absentTimerExpiry 1) (fun t => (t.dest 5).output) = some .ready := by decide +kernel

/-- The bytes of bus transactions: the master ID after the strap is 1, the peer's 2. -/
theorem test_bus_bytes :
    let heard (bs : List Byte) := sees working (.discardedTransaction bs) (fun t => ((t.dest 5).source, (t.dest 5).origin))
    heard (busFrame 2 1 5 11) = some (some 11, .own) ∧ heard (busFrame 2 2 5 511) = some (some 511, .foreign) ∧
    heard (busFrame 2 3 5 11) = some (some 10, .none) ∧ heard (busFrame 3 1 5 11) = some (some 10, .none) ∧
    heard (busFrame 2 1 5 512) = some (some 10, .none) ∧ heard (busFrame 2 2 5 0xFFFF) = some (some 10, .none) ∧
    sees (reading .walk 5 false .report) (.discardedTransaction (busFrame 4 1 5 0xFFFE)) (fun t => t.bus.readback.isSome) =
      some true ∧
    heard ((busFrame 2 1 5 11).take 5 ++ [0]) = some (some 10, .none) ∧ heard [2, 1] = some (some 10, .none) ∧
    sees (reading .walk 5 false .report) (.discardedTransaction (busFrame 4 1 5 0xFFFF)) (fun t => (t.dest 5).output) =
      some .offline ∧
    sees (reading .walk 5 false .report) (.discardedTransaction (busFrame 4 1 5 11)) (fun t => (t.dest 5).source) =
      some (some 11) ∧
    sees (reading .walk 5 false .report) (.discardedTransaction (busFrame 4 2 5 11)) (fun t => (t.dest 5).source) =
      some (some 10) := by decide +kernel

theorem test_partner_bytes :
    let wall (bs : List Byte) := sees (walled .awaitAck []) (.wallFrameDiscarded 7 bs) (fun t => (t.wall 7).link)
    wall (partnerFrame 1 []) = some .awaitAck ∧ wall (partnerFrame 2 [255]) = some .idle ∧
    wall (partnerFrame 2 [254]) = some .awaitAck ∧ wall (partnerFrame 3 (List.replicate 30 0)) = some .awaitAck ∧
    wall ((partnerFrame 2 [255]).take 5 ++ [0, 0]) = some .awaitAck ∧
    sees { idle with now := 2001, wallRx := put idle.wallRx 7 ⟨[0x5A], 0⟩ } (.partnerByteGap (.wall 7))
      (fun t => (look t.wallRx 7).held) = some [] ∧
    sees { idle with now := 2000, recorderRx := put idle.recorderRx 15 ⟨[0x5A], 0⟩ } (.partnerByteGap (.recorder 15))
      (fun t => (look t.recorderRx 15).held) = some [0x5A] := by decide +kernel

/-! ## Recorder ports -/

/-- Port 15, bound to destination 5, with an exchange in flight. -/
def exchanging (k : ExchangeKind) (f : PortRec → PortRec) : State := working.setPort 15 (f { PortRec.reset with
  dest := some 5, policy := .hold, exchange := .busy, inFlight := some ⟨k, false, 0, 40⟩ })

theorem test_recorder_bytes :
    let heard (k : ExchangeKind) (bs : List Byte) := sees (exchanging k id) (.recorderReplyDiscarded 15 bs)
      (fun t => ((t.port 15).exchange, (t.port 15).reported))
    heard .poll (partnerFrame 0x81 [5]) = some (.guard, .fault) ∧ heard .poll (partnerFrame 0x81 [0]) = some (.busy, .unknown) ∧
    heard .poll (partnerFrame 0x81 [6]) = some (.busy, .unknown) ∧
    heard (.command .mark) (partnerFrame 0x82 [4, 1]) = some (.guard, .unknown) ∧
    heard (.command .mark) (partnerFrame 0x82 [4, 2]) = some (.busy, .unknown) ∧
    heard .poll (partnerFrame 0x83 []) = some (.busy, .unknown) := by decide +kernel

theorem test_exchange_order :
    let r := { PortRec.reset with markPending := true, queue := [.cue], pollPending := true }
    (r.start 9).inFlight = some ⟨.command .mark, true, 9, 40⟩ ∧
    ({ r with markPending := false }.start 9).inFlight = some ⟨.command .cue, false, 9, 40⟩ ∧
    ({ r with markPending := false, queue := [] }.start 9).inFlight = some ⟨.poll, false, 9, 40⟩ ∧
    ({ r with exchange := .guard }.start 9).inFlight = none ∧ (PortRec.reset.start 9).inFlight = none := by decide +kernel

theorem test_reported_state_is_handed_on :
    let s := exchanging .poll (fun r => { r with reported := .recording })
    ((s.reportedChanged 15 .idle).src 10).record = 1 ∧ (s.reportedChanged 15 .recording).handed = [] ∧
    (((withTake s 0 take0).reportedChanged 15 .idle).slot 0).take.map Take.state = some .held ∧
    ((s.setSrc 10 SrcRec.reset).reportedChanged 15 .idle).handed = [.source 10] ∧
    ((s.setPort 15 { s.port 15 with dest := none }).reportedChanged 15 .idle).handed = [] ∧
    ((s.setDest 5 DestRec.reset).reportedChanged 15 .idle).handed = [] := by decide +kernel

theorem test_bind_recorder :
    let s := (exchanging .poll (fun r => { r with reported := .recording })).setPort 3 { PortRec.reset with dest := some 9 }
    answersAll s [(.bindRecorder 1 16 (some (2, 0)) 3 5 0 4, [0x50, 4, 1]), (.bindRecorder 1 15 (some (2, 0)) 3 5 0 4, [0x50, 4, 2]),
      (.bindRecorder 1 15 none 3 5 0 4, [0x50, 4, 3]), (.bindRecorder 1 15 none 2 5 0 4, [0x50, 4, 5]),
      (.bindRecorder 1 15 none 2 5 101 4, [0x50, 4, 5]), (.bindRecorder 1 15 none 2 5 100 4, [0x50, 4, 6]),
      (.bindRecorder 1 15 none 2 5 1 201, [0x50, 4, 6]), (.bindRecorder 1 15 none 2 5 1 200, [0x50, 64]),
      (.bindRecorder 1 15 (some (1, 9)) 2 1 1 5, [0x50, 65]), (.bindRecorder 1 15 (some (1, 6)) 2 95 100 200, [0x50, 0])]
      = true ∧
    sees (s.setSrc 10 { s.src 10 with record := 1 }) (.bindRecorder 1 15 none 0 0 10 40)
      (fun t => ((t.src 10).record, (t.port 15).dest)) = some (0, none) ∧
    sees (withTake s 0 { take0 with state := .held }) (.bindRecorder 1 15 (some (1, 5)) 2 0 10 40)
      (fun t => (t.slot 0).take.map Take.state) = some (some .queued) := by decide +kernel

theorem test_recorder_command :
    answersAll idle [(.recorderCommand 1 16 0, [0x51, 4, 1]), (.recorderCommand 1 15 0, [0x51, 4, 2]),
      (.recorderCommand 1 15 5, [0x51, 4, 2]), (.recorderCommand 1 15 4, [0x51, 0, 0])] = true ∧
    replyTo (exchanging .poll id) (.recorderCommand 1 15 1) = [0x51, 0, 1] ∧
    replyTo (exchanging .poll (fun r => { r with queue := List.replicate 3 .cue })) (.recorderCommand 1 15 1) = [0x51, 0, 4] ∧
    replyTo (exchanging .poll (fun r => { r with queue := List.replicate 4 .cue })) (.recorderCommand 1 15 1) = [0x51, 66] ∧
    replyTo (exchanging .poll (fun r => { r with online := false })) (.recorderCommand 1 15 1) = [0x51, 67] := by
  decide +kernel

theorem test_status_and_ack :
    let s := { exchanging .poll (fun r => { r with online := false, silent := 3, recordStamp := some 1000 }) with now := 5999 }
    sees s (.status 15 .recording) (fun t => ((t.port 15).startDelay, (t.port 15).guardEnd, (t.src 10).record)) =
      some (some 4, some 15999, 1) ∧
    sees s (.status 15 .recording) (fun t => (look t.flags.recorder 15, (t.port 15).online)) =
      some (some (true, .recording), true) ∧
    sees s (.status 15 .unknown) (fun t => (t.port 15).exchange) = some .busy ∧
    sees s (.cmdAck 15 .record true) (fun t => (t.port 15).exchange) = some .busy ∧
    sees (exchanging (.command .record) id) (.cmdAck 15 .record true)
      (fun t => ((t.port 15).recordStamp, (t.port 15).lastCommand)) = some (some 0, some ⟨.record, .accepted, 0⟩) ∧
    sees (exchanging (.command .record) id) (.cmdAck 15 .cue true) (fun t => (t.port 15).exchange) = some .busy := by
  decide +kernel

theorem test_poll_timeout_and_guard_end :
    let s (n : Nat) : State := { exchanging (.command .cue) (fun r => { r with silent := n, reported := .recording }) with
      now := 40000 }
    sees (s 1) (.pollTimeout 15) (fun t => ((t.port 15).silent, (t.port 15).online, (t.port 15).guardEnd)) =
      some (2, true, some 50000) ∧
    sees (s 2) (.pollTimeout 15) (fun t => ((t.port 15).silent, (t.port 15).online, (t.port 15).reported)) =
      some (3, false, .unknown) ∧
    sees (s 2) (.pollTimeout 15) (fun t => look t.flags.recorder 15) = some (some (false, .unknown)) ∧
    sees { s 1 with now := 39999 } (.pollTimeout 15) (fun t => (t.port 15).exchange) = some .busy ∧
    sees ({ idle with now := 7 }.setPort 15 { PortRec.reset with exchange := .guard, guardEnd := some 7, pollPending := true })
      (.guardEnd 15) (fun t => (t.port 15).exchange) = some .busy ∧
    sees ({ idle with now := 6 }.setPort 15 { PortRec.reset with exchange := .guard, guardEnd := some 7 })
      (.guardEnd 15) (fun t => (t.port 15).exchange) = some .guard := by decide +kernel

/-! ## Snapshots -/

theorem test_read_dest_and_source :
    replyTo (withTake working 0 take0) (.readDest 1 5) =
      [0x12, 0, 255, 0, 0, 0, 0, 10, 1, 0, 0, 0, 0, 0, 0, 1, 1, 0, 1, 0, 0, 0] ∧
    replyTo working (.readSource 1 512) = [0x13, 4, 1] ∧
    replyTo working (.readSource 1 10) = [0x13, 0, 255, 0, 1, 0, 0, 0, 0, 1] := by decide +kernel

theorem test_read_take :
    replyTo (withTake working 0 take0) (.readTake 1 0 1) =
      [0x22, 0, 1, 1, 5, 0, 10, 0, 0, 0, 0, 0, 1, 0, 0, 0, 0, 0, 0, 0, 0, 0, 0, 0, 0, 1, 1] ∧
    replyTo (working.setSlot 127 ⟨9, none, some ⟨⟨127, 9⟩, 5, 10, .completed⟩⟩) (.readTake 1 127 9) =
      [0x22, 0, 6, 5, 0, 10, 1] ∧
    answersAll working [(.readTake 1 128 0, [0x22, 4, 1]), (.readTake 1 127 0, [0x22, 26])] = true := by decide +kernel

theorem test_read_salvo :
    answersAll stored [(.readSalvo 1 32, [0x34, 4, 1]), (.readSalvo 1 0, [0x34, 0, 0, 0, 3, 254, 0]),
      (.readSalvo 1 31, [0x34, 0, 1, 2, 5, 0, 11, 6, 0, 12, 0, 3, 254, 0])] = true ∧
    replyTo busy (.readSalvo 1 31) = [0x34, 0, 1, 2, 5, 0, 11, 6, 0, 12, 1, 0, 1, 1, 0, 0, 0, 3, 254, 0] := by
  decide +kernel

theorem test_read_domain_bus_recorder_comparator :
    answersAll idle [(.readDomain 1 4, [0x3E, 4, 1]), (.readRecorder 1 16, [0x52, 4, 1]), (.readComparator 1 8, [0x5A, 4, 1])]
      = true ∧
    (replyTo working (.readDomain 1 0)).take 10 = [0x3E, 0, 2, 16, 50, 7, 208, 3, 0, 2] ∧
    (replyTo working (.readBus 1)).take 16 = [0x43, 0, 1, 0, 0, 0, 0, 0, 0, 0, 0, 0, 0, 0, 0, 0] ∧
    (replyTo idle (.readRecorder 1 15)).take 9 = [0x52, 0, 0, 2, 0, 10, 40, 0, 0] ∧
    (replyTo idle (.readComparator 1 7)).length = 37 := by decide +kernel

/-! ## The laws are met -/

theorem look_same {α : Type} {n : Nat} (x : α) (i : Fin n) : look (Vector.replicate n x) i = x := by simp [look]

theorem test_link_law_is_met : LinkLaw crowded ∧ LinkLaw idle := by
  constructor <;> refine ⟨trivial, ?_, ?_, ?_, ?_, ?_⟩ <;> decide +kernel

theorem test_store_and_protect_laws_are_met : StoreLaw stored ∧ ProtectLaw idle :=
  ⟨by unfold StoreLaw; decide +kernel, fun d q h => by
    have : idle.protectOf d = none := look_same none d
    rw [this] at h; cases h⟩

theorem test_wall_and_port_laws_are_met : WallLaw idle ∧ PortLaw idle := by
  have hw : ∀ w, idle.wall w = WallRec.reset := fun w => look_same _ w
  have hp : ∀ p, idle.port p = PortRec.reset := fun p => look_same _ p
  refine ⟨⟨rfl, fun w => ?_⟩, fun p q d h => ?_, fun p => ?_⟩
  · rw [hw]; simp [WallRec.reset]
  · rw [hp] at h; cases h
  · rw [hp]; simp [PortRec.reset]

theorem test_domain_and_bus_laws_are_met : DomainLaw idle ∧ BusLaw idle := by
  have hd : ∀ d, idle.dom d = DomRec.reset := fun d => look_same _ d
  refine ⟨fun d => ?_, fun d => ?_, by decide, by decide, by decide, ?_, by decide, ?_⟩
  · rw [hd]; simp [DomRec.reset, Config.framesPerDay]
  · exact (look_same 0 d).le.trans (by decide)
  · intro ws h; cases h
  · intro r h; cases h

theorem test_pool_law_is_met : PoolLaw idle := by
  have hs : ∀ i, (idle.slot i).take = none := fun i => congrArg SlotRec.take (look_same SlotRec.reset i)
  have hq : ∀ d, idle.queue d = [] := fun d => look_same [] d
  have hr : ∀ d, look idle.bus.retry d = [] := fun d => look_same [] d
  refine ⟨fun d => ?_, ?_, fun d => ?_, ?_, ?_, ?_, ?_⟩ <;> simp_all [show idle.pool.issued = [] from rfl,
    show idle.pool.reports = [] from rfl, show idle.bus.absent = [] from rfl]

theorem test_tally_law_is_met : TallyLaw idle := by
  have hd : ∀ d, (idle.dest d).source = none := fun d => congrArg DestRec.source (look_same DestRec.reset d)
  have hx : ∀ x, idle.src x = SrcRec.reset := fun x => look_same _ x
  intro x; simp [hd, hx, SrcRec.reset]

end Sys2Proof.Tests
end

section
/-! PROOF. The requests of the Panel Registry: what the fields of each read as, what each does (chapter 3), and the
statements that say so. -/

namespace Sys2Proof.Machine

open State

/-! ## A request of the registry answers what its effect answers -/

section Answered

variable {s t : State} {tag : Byte} {status : Status} {tail : List Byte}

theorem enrolPanel_answers {panel level : Byte} (hl : s.linkFree = true)
    (h : runEnrolPanel panel level s = (⟨status, tail⟩, t)) : Answers (.enrolPanel tag panel level) s status tail t :=
  answers_of rfl rfl rfl hl h

theorem setZone_answers {zone level : Byte} (hl : s.linkFree = true)
    (h : runSetZone zone level s = (⟨status, tail⟩, t)) : Answers (.setZone tag zone level) s status tail t :=
  answers_of rfl rfl rfl hl h

theorem setPanelLevel_answers {panel level : Byte} (hl : s.linkFree = true)
    (h : runSetPanelLevel panel level s = (⟨status, tail⟩, t)) :
    Answers (.setPanelLevel tag panel level) s status tail t :=
  answers_of rfl rfl rfl hl h

theorem withdrawPanel_answers {panel : Byte} (hl : s.linkFree = true)
    (h : runWithdrawPanel panel s = (⟨status, tail⟩, t)) : Answers (.withdrawPanel tag panel) s status tail t :=
  answers_of rfl rfl rfl hl h

theorem protectDest_answers {dest panel kind level restore : Byte} (hl : s.linkFree = true)
    (h : runProtectDest dest panel kind level restore s = (⟨status, tail⟩, t)) :
    Answers (.protectDest tag dest panel kind level restore) s status tail t :=
  answers_of rfl rfl rfl hl h

theorem releaseDest_answers {dest panel : Byte} (hl : s.linkFree = true)
    (h : runReleaseDest dest panel s = (⟨status, tail⟩, t)) : Answers (.releaseDest tag dest panel) s status tail t :=
  answers_of rfl rfl rfl hl h

end Answered

/-! ## The fields read -/

theorem asProtectKind_bad {b : Byte} (h : 1 < b.toNat) : asProtectKind b = none := by
  unfold asProtectKind
  split
  · omega
  · omega
  · rfl

theorem asProtectKind_ok {b : Byte} (h : b.toNat ≤ 1) :
    asProtectKind b = some (if b = 1 then .protect else .lock) := by
  have hb : b = 0 ∨ b = 1 := by bv_omega
  rcases hb with rfl | rfl <;> rfl

theorem asFlag_bad {b : Byte} (h : 1 < b.toNat) : asFlag b = none := by
  have h0 : b ≠ 0 := by bv_omega
  have h1 : b ≠ 1 := by bv_omega
  unfold asFlag
  rw [if_neg h0, if_neg h1]

/-! R44: a panel field carries authority when it names panel 0, at level 0, or an enrolled panel, at its own level. -/

theorem fieldLevel_bad (s : State) {b : Byte} (h : 63 < b.toNat) : s.fieldLevel b.toNat = none := by
  simp [fieldLevel, below_of_ge h]

theorem fieldLevel_of_not_enrolled {s : State} {p : Panel} (hp : p ≠ 0)
    (h : (look s.registry.panels p).enrolled = false) : s.fieldLevel (num8 p).toNat = none := by
  simp [fieldLevel, panelLevel, hp, h]

theorem fieldLevel_of_authority {s : State} {p : Panel} (h : p = 0 ∨ (look s.registry.panels p).enrolled = true) :
    s.fieldLevel (num8 p).toNat = some (p, if p = 0 then 0 else (look s.registry.panels p).level) := by
  by_cases hp : p = 0
  · simp [fieldLevel, panelLevel, hp]
  · simp [fieldLevel, panelLevel, hp, h.resolve_left hp]

/-! ## ENROL PANEL and SET ZONE (R45, R48) -/

theorem runEnrolPanel_bad_panel {panel : Byte} (h : panel = 0 ∨ 63 < panel.toNat) (level : Byte) (s : State) :
    runEnrolPanel panel level s = (.badField 1, s) := by
  simp only [runEnrolPanel, asPanelId_bad h]

theorem runEnrolPanel_bad_level {p : Panel} (hp : p ≠ 0) {level : Byte} (h : 3 < level.toNat) (s : State) :
    runEnrolPanel (num8 p) level s = (.badField 2, s) := by
  simp only [runEnrolPanel, asPanelId_ok hp, below_of_ge h]

theorem runEnrolPanel_read {p : Panel} (hp : p ≠ 0) (l : Level) (s : State) :
    runEnrolPanel (num8 p) (num8 l) s =
      if (s.panelRec p).enrolled then (.refuse .panelExists, s) else (.ok [], s.setPanel p ⟨true, l⟩) := by
  simp only [runEnrolPanel, asPanelId_ok hp, below_num8_4]

theorem runSetZone_bad_zone {zone : Byte} (h : 7 < zone.toNat) (level : Byte) (s : State) :
    runSetZone zone level s = (.badField 1, s) := by
  simp only [runSetZone, below_of_ge h]

theorem runSetZone_bad_level (z : Zone) {level : Byte} (h : 3 < level.toNat) (s : State) :
    runSetZone (num8 z) level s = (.badField 2, s) := by
  simp only [runSetZone, below_num8_8, below_of_ge h]

theorem runSetZone_read (z : Zone) (l : Level) (s : State) :
    runSetZone (num8 z) (num8 l) s = (.ok [], s.setZoneMin z l) := by
  simp only [runSetZone, below_num8_8, below_num8_4]

/-! ## SET PANEL LEVEL and WITHDRAW PANEL (R52, R53) -/

/-- The destinations whose records a panel moved to level `l` leaves stronger than itself: none unless it is demoted. -/
def State.leftStronger (s : State) (p : Panel) (l : Level) : List Dest :=
  if (s.panelRec p).level < l then s.heldBy p (fun q => decide (q.level < l)) else []

theorem mem_leftStronger (s : State) (p : Panel) (l : Level) (d : Dest) :
    d ∈ s.leftStronger p l ↔
      (look s.registry.panels p).level < l ∧ ∃ q, s.protectOf d = some q ∧ q.holder = p ∧ q.level < l := by
  unfold leftStronger panelRec
  split
  · next hlt => simp [mem_heldBy, hlt]
  · next hge => simp [hge]

theorem leftStronger_nodup (s : State) (p : Panel) (l : Level) : (s.leftStronger p l).Nodup := by
  unfold leftStronger
  split
  · exact heldBy_nodup _ _ _
  · exact List.nodup_nil

theorem runSetPanelLevel_bad_panel {panel : Byte} (h : panel = 0 ∨ 63 < panel.toNat) (level : Byte) (s : State) :
    runSetPanelLevel panel level s = (.badField 1, s) := by
  simp only [runSetPanelLevel, asPanelId_bad h]

theorem runSetPanelLevel_bad_level {p : Panel} (hp : p ≠ 0) {level : Byte} (h : 3 < level.toNat) (s : State) :
    runSetPanelLevel (num8 p) level s = (.badField 2, s) := by
  simp only [runSetPanelLevel, asPanelId_ok hp, below_of_ge h]

theorem runSetPanelLevel_of_not_enrolled {s : State} {p : Panel} (hp : p ≠ 0)
    (h : (look s.registry.panels p).enrolled = false) (l : Level) :
    runSetPanelLevel (num8 p) (num8 l) s = (.refuse .noPanel, s) := by
  simp [runSetPanelLevel, asPanelId_ok hp, panelRec, h]

theorem runSetPanelLevel_of_enrolled {s : State} {p : Panel} (hp : p ≠ 0)
    (h : (look s.registry.panels p).enrolled = true) (l : Level) :
    runSetPanelLevel (num8 p) (num8 l) s =
      (.ok (e2 (s.leftStronger p l).length),
        ((s.leftStronger p l).foldl (State.releaseProtect p .demotion) s).setPanel p ⟨true, l⟩) := by
  simp only [runSetPanelLevel, asPanelId_ok hp, below_num8_4, leftStronger, panelRec, h, if_true]

theorem runWithdrawPanel_bad_panel {panel : Byte} (h : panel = 0 ∨ 63 < panel.toNat) (s : State) :
    runWithdrawPanel panel s = (.badField 1, s) := by
  simp only [runWithdrawPanel, asPanelId_bad h]

theorem runWithdrawPanel_of_not_enrolled {s : State} {p : Panel} (hp : p ≠ 0)
    (h : (look s.registry.panels p).enrolled = false) : runWithdrawPanel (num8 p) s = (.refuse .noPanel, s) := by
  simp [runWithdrawPanel, asPanelId_ok hp, panelRec, h]

theorem runWithdrawPanel_of_enrolled {s : State} {p : Panel} (hp : p ≠ 0)
    (h : (look s.registry.panels p).enrolled = true) :
    runWithdrawPanel (num8 p) s =
      (.ok (e2 (s.heldBy p (fun _ => true)).length),
        ((s.heldBy p (fun _ => true)).foldl (State.releaseProtect p .withdrawal) s).setPanel p
          ⟨false, (look s.registry.panels p).level⟩) := by
  simp only [runWithdrawPanel, asPanelId_ok hp, panelRec, h, if_true]

/-- The request is answered OK with the count of the `lost` destinations, whose records it deletes, each with its PROTECT
RELEASED flag (R54), and leaves panel `p` with `record`; nothing else changes. -/
def ReleasesLost (s : State) (p : Panel) (lost : Dest → Prop) (why : ReleaseReason) (record : PanelRec)
    (request : Instr) : Prop :=
  ∃ (t : State) (ds : List Dest), ds.Nodup ∧ (∀ d, d ∈ ds ↔ lost d) ∧ Answers request s .ok (e2 ds.length) t ∧
    t = { s with
      registry := { s.registry with panels := put s.registry.panels p record, protects := t.registry.protects }
      flags := { s.flags with released := t.flags.released } } ∧
    ∀ d, (lost d → t.protectOf d = none ∧ look t.flags.released d = some (p, why)) ∧
      (¬ lost d → t.protectOf d = s.protectOf d ∧ look t.flags.released d = look s.flags.released d)

/-- A request that releases a list of protects of a panel and then writes its record releases exactly that list. -/
theorem releasesLost_of_answers {s : State} {p : Panel} {lost : Dest → Prop} {why : ReleaseReason} {record : PanelRec}
    {request : Instr} {ds : List Dest} (hnodup : ds.Nodup) (hmem : ∀ d, d ∈ ds ↔ lost d)
    (hans : Answers request s .ok (e2 ds.length) ((ds.foldl (State.releaseProtect p why) s).setPanel p record)) :
    ReleasesLost s p lost why record request := by
  obtain ⟨hframe, hdest⟩ := foldl_releaseProtect p why ds s
  refine ⟨_, ds, hnodup, hmem, hans, ?_, fun d => ?_⟩
  · rw [hframe]; rfl
  · rw [← hmem d]
    exact hdest d

/-- Settles O25: each request's fields are checked in their order, and an accepted request answers its effect; the two
that release protects share `releasesLost_of_answers`. -/
theorem panelAndZoneRequests : Obligations.PanelAndZoneRequests := by
  unfold Obligations.PanelAndZoneRequests
  refine ⟨fun s tag hfree => ⟨?_, fun p hp => ⟨?_, fun l => ⟨?_, ?_⟩⟩, ?_, ?_, ?_⟩,
    fun s tag hfree => ⟨?_, fun p hp => ⟨?_, ?_, ?_⟩⟩⟩
  · intro panel level hbad
    exact enrolPanel_answers hfree (runEnrolPanel_bad_panel hbad level s)
  · intro level hbad
    exact enrolPanel_answers hfree (runEnrolPanel_bad_level hp hbad s)
  · intro henrolled
    exact enrolPanel_answers hfree ((runEnrolPanel_read hp l s).trans (if_pos henrolled))
  · intro hnew
    exact enrolPanel_answers hfree ((runEnrolPanel_read hp l s).trans (if_neg (Bool.eq_false_iff.1 hnew)))
  · intro zone level hbad
    exact setZone_answers hfree (runSetZone_bad_zone hbad level s)
  · intro z level hbad
    exact setZone_answers hfree (runSetZone_bad_level z hbad s)
  · intro z l
    exact setZone_answers hfree (runSetZone_read z l s)
  · intro panel level hbad
    exact ⟨setPanelLevel_answers hfree (runSetPanelLevel_bad_panel hbad level s),
      withdrawPanel_answers hfree (runWithdrawPanel_bad_panel hbad s)⟩
  · intro level hbad
    exact setPanelLevel_answers hfree (runSetPanelLevel_bad_level hp hbad s)
  · intro hnone
    exact ⟨fun l => setPanelLevel_answers hfree (runSetPanelLevel_of_not_enrolled hp hnone l),
      withdrawPanel_answers hfree (runWithdrawPanel_of_not_enrolled hp hnone)⟩
  · intro henrolled
    exact ⟨fun l => releasesLost_of_answers (leftStronger_nodup s p l) (mem_leftStronger s p l)
        (setPanelLevel_answers hfree (runSetPanelLevel_of_enrolled hp henrolled l)),
      releasesLost_of_answers (heldBy_nodup s p _) (by simp [mem_heldBy])
        (withdrawPanel_answers hfree (runWithdrawPanel_of_enrolled hp henrolled))⟩

/-! ## PROTECT DEST (R50) -/

theorem zoneCheck_denied {s : State} {d : Dest} {p : Panel} {own : Level} (hp : p ≠ 0)
    (hz : s.zoneMin (s.dest d).zone < own) : s.zoneCheck d p own = some .zoneDenied :=
  if_pos ⟨hp, hz⟩

theorem zoneCheck_passed {s : State} {d : Dest} {p : Panel} {own : Level}
    (h : p = 0 ∨ own ≤ s.zoneMin (s.dest d).zone) : s.zoneCheck d p own = none :=
  if_neg fun ⟨hp, hz⟩ => h.elim hp (fun hle => absurd hz (not_lt.2 hle))

section ProtectRecord

variable {s : State} {d : Dest} {panel : Byte} {p : Panel} {own l : Level} {k : ProtectKind} {restore : Bool}

theorem protectRequest_noPanel (h : s.fieldLevel panel.toNat = none) :
    protectRequest d panel k l restore s = (.refuse .noPanel, s) := by
  simp only [protectRequest, h]

theorem protectRequest_levelDenied (h : s.fieldLevel panel.toNat = some (p, own)) (hlt : l < own) :
    protectRequest d panel k l restore s = (.refuse .levelDenied, s) := by
  simp only [protectRequest, h, if_pos hlt]

theorem protectRequest_zoneDenied (h : s.fieldLevel panel.toNat = some (p, own)) (hle : own ≤ l) (hp : p ≠ 0)
    (hz : s.zoneMin (s.dest d).zone < own) : protectRequest d panel k l restore s = (.refuse .zoneDenied, s) := by
  simp only [protectRequest, h, if_neg (not_lt.2 hle), zoneCheck_denied hp hz]

/-- The record of another holder refuses the request, by its own kind. -/
theorem protectRequest_of_other_holder (h : s.fieldLevel panel.toNat = some (p, own)) (hle : own ≤ l)
    (hz : p = 0 ∨ own ≤ s.zoneMin (s.dest d).zone) {q : Protect} (hq : s.protectOf d = some q) (hne : q.holder ≠ p) :
    protectRequest d panel k l restore s = (.refuse (if q.kind = .lock then .locked else .guarded), s) := by
  simp only [protectRequest, h, if_neg (not_lt.2 hle), zoneCheck_passed hz, hq, if_neg hne]

/-- With no record of another holder the record of the panel is made, or replaces the one it has. -/
theorem protectRequest_of_own (h : s.fieldLevel panel.toNat = some (p, own)) (hle : own ≤ l)
    (hz : p = 0 ∨ own ≤ s.zoneMin (s.dest d).zone) (hown : ∀ q, s.protectOf d = some q → q.holder = p) :
    protectRequest d panel k l restore s = (.ok [], s.setProtect d (some ⟨p, k, l, restore⟩)) := by
  simp only [protectRequest, h, if_neg (not_lt.2 hle), zoneCheck_passed hz]
  cases hq : s.protectOf d with
  | none => rfl
  | some q => exact if_pos (hown q hq)

end ProtectRecord

section ProtectFields

variable (dest panel : Byte) {kind level restore : Byte} (s : State)

theorem runProtectDest_bad_kind (hkind : 1 < kind.toNat) (level restore : Byte) :
    runProtectDest dest panel kind level restore s = (.badField 3, s) := by
  simp only [runProtectDest, asProtectKind_bad hkind]

theorem runProtectDest_bad_level (hkind : kind.toNat ≤ 1) (hlevel : 3 < level.toNat) (restore : Byte) :
    runProtectDest dest panel kind level restore s = (.badField 4, s) := by
  simp only [runProtectDest, asProtectKind_ok hkind, below_of_ge hlevel]

/-- The restore flag is no flag, or asks a PROTECT to restore. -/
theorem runProtectDest_bad_restore (hkind : kind.toNat ≤ 1) (l : Level)
    (hrestore : 1 < restore.toNat ∨ (kind = 1 ∧ restore = 1)) :
    runProtectDest dest panel kind (num8 l) restore s = (.badField 5, s) := by
  rcases hrestore with hbad | ⟨rfl, rfl⟩
  · simp only [runProtectDest, asProtectKind_ok hkind, below_num8_4, asFlag_bad hbad]
  · simp only [runProtectDest, asProtectKind_ok hkind, below_num8_4]; rfl

theorem runProtectDest_read (d : Dest) {code : Byte} {k : ProtectKind} (l : Level) {restore : Bool}
    (h : (code = 0 ∧ k = .lock) ∨ (code = 1 ∧ k = .protect ∧ restore = false)) :
    runProtectDest (num8 d) panel code (num8 l) (if restore then 1 else 0) s = protectRequest d panel k l restore s := by
  rcases h with ⟨rfl, rfl⟩ | ⟨rfl, rfl, rfl⟩
  · simp [runProtectDest, asProtectKind]
  · simp [runProtectDest, asProtectKind, asFlag]

end ProtectFields

/-! ## RELEASE DEST (R51) -/

section Release

variable {s : State} {d : Dest} {panel : Byte} {p : Panel} {own : Level} {q : Protect}

theorem runReleaseDest_noPanel (h : s.fieldLevel panel.toNat = none) :
    runReleaseDest (num8 d) panel s = (.refuse .noPanel, s) := by
  simp only [runReleaseDest, h]

theorem runReleaseDest_of_no_record (h : s.fieldLevel panel.toNat = some (p, own)) (hq : s.protectOf d = none) :
    runReleaseDest (num8 d) panel s = (.refuse .notHolder, s) := by
  simp only [runReleaseDest, h, toFin_num8, hq]

theorem runReleaseDest_of_record (h : s.fieldLevel panel.toNat = some (p, own)) (hq : s.protectOf d = some q) :
    runReleaseDest (num8 d) panel s =
      if q.holder = p then (.ok [], s.setProtect d none)
      else if p = 0 then (.ok [], s.releaseProtect q.holder .force d)
      else (.refuse .notHolder, s) := by
  simp only [runReleaseDest, h, toFin_num8, hq]

end Release

/-- Settles O26: both requests read the panel's level first (`fieldLevel`), and each clause is one branch of
`protectRequest` or of `runReleaseDest`. -/
theorem protectAndReleaseRequests : Obligations.ProtectAndReleaseRequests := by
  unfold Obligations.ProtectAndReleaseRequests
  refine ⟨fun s tag d hfree => ⟨?_, ?_, ?_, fun code k l restore hcode => ?_⟩, fun s tag d hfree => ?_⟩
  · intro panel kind level restore hkind
    exact protectDest_answers hfree (runProtectDest_bad_kind _ panel s hkind level restore)
  · intro panel kind level restore hkind hlevel
    exact protectDest_answers hfree (runProtectDest_bad_level _ panel s hkind hlevel restore)
  · intro panel kind l restore hkind hrestore
    exact protectDest_answers hfree (runProtectDest_bad_restore _ panel s hkind l hrestore)
  · have hread (panel : Byte) := runProtectDest_read panel s d l hcode
    refine ⟨fun panel hbad => ?_, fun p => ⟨fun hp hnone => ?_, fun hauth => ?_⟩⟩
    · exact protectDest_answers hfree ((hread _).trans (protectRequest_noPanel (fieldLevel_bad s hbad)))
    · exact protectDest_answers hfree ((hread _).trans (protectRequest_noPanel (fieldLevel_of_not_enrolled hp hnone)))
    · have hown := fieldLevel_of_authority hauth
      refine ⟨fun hlt => ?_, fun hle hp hzone => ?_, fun hle hzone => ⟨fun q hq hne => ?_, fun hmine => ?_⟩⟩
      · exact protectDest_answers hfree ((hread _).trans (protectRequest_levelDenied hown hlt))
      · exact protectDest_answers hfree ((hread _).trans (protectRequest_zoneDenied hown hle hp hzone))
      · exact protectDest_answers hfree ((hread _).trans (protectRequest_of_other_holder hown hle hzone hq hne))
      · exact protectDest_answers hfree ((hread _).trans (protectRequest_of_own hown hle hzone hmine))
  · refine ⟨fun panel hbad => ?_, fun p => ⟨fun hp hnone => ?_, fun hauth => ?_⟩⟩
    · exact releaseDest_answers hfree (runReleaseDest_noPanel (fieldLevel_bad s hbad))
    · exact releaseDest_answers hfree (runReleaseDest_noPanel (fieldLevel_of_not_enrolled hp hnone))
    · have hown := fieldLevel_of_authority hauth
      refine ⟨fun hq => releaseDest_answers hfree (runReleaseDest_of_no_record hown hq), fun q hq => ?_⟩
      have hrun := runReleaseDest_of_record hown hq
      refine ⟨fun hmine => ?_, fun hne hp => ?_, fun hne hp => ?_⟩
      · exact releaseDest_answers hfree (hrun.trans (if_pos hmine))
      · exact releaseDest_answers hfree (hrun.trans ((if_neg hne).trans (if_neg hp)))
      · exact releaseDest_answers hfree (hrun.trans ((if_neg hne).trans (if_pos hp)))

end Sys2Proof.Machine
end

section
/-! PROOF. SET TIMECODE, ARM MARK and DISARM MARK (chapter 5): what their fields read as, what each does, and the
statement that says so. -/

namespace Sys2Proof.Machine

open State

/-! ## A request of the timecode or of a mark answers what its effect answers -/

section Answered

variable {s t : State} {tag domain : Byte} {status : Status} {tail : List Byte}

theorem setTimecode_answers {value : U32} (hl : s.linkFree = true)
    (h : runSetTimecode domain value s = (⟨status, tail⟩, t)) :
    Answers (.setTimecode tag domain value) s status tail t :=
  answers_of rfl rfl rfl hl h

theorem armMark_answers {mode event : Byte} {preset : U32} (hl : s.linkFree = true)
    (h : runArmMark domain mode preset event s = (⟨status, tail⟩, t)) :
    Answers (.armMark tag domain mode preset event) s status tail t :=
  answers_of rfl rfl rfl hl h

theorem disarmMark_answers (hl : s.linkFree = true) (h : runDisarmMark domain s = (⟨status, tail⟩, t)) :
    Answers (.disarmMark tag domain) s status tail t :=
  answers_of rfl rfl rfl hl h

end Answered

/-! ## The fields read -/

theorem timecodeFits_of_lt {s : State} {d : Dom} {v : Nat} (h : v < Config.framesPerDay (s.dom d).standard) :
    s.timecodeFits d v = true :=
  decide_eq_true h

theorem timecodeFits_of_ge {s : State} {d : Dom} {v : Nat} (h : Config.framesPerDay (s.dom d).standard ≤ v) :
    s.timecodeFits d v = false :=
  decide_eq_false (Nat.not_lt.2 h)

theorem asMarkMode_code (continuous : Bool) : asMarkMode (if continuous then 1 else 0) = some continuous := by
  cases continuous <;> rfl

/-- The four ranges of the event catalogue (R157). -/
theorem isEvent_iff (event : Byte) : isEvent event = true ↔
    (1 ≤ event.toNat ∧ event.toNat ≤ 4) ∨ (8 ≤ event.toNat ∧ event.toNat ≤ 23) ∨
    (32 ≤ event.toNat ∧ event.toNat ≤ 47) ∨ (64 ≤ event.toNat ∧ event.toNat ≤ 95) := by
  simp only [isEvent, Bool.or_eq_true, Bool.and_eq_true, decide_eq_true_eq, or_assoc]

/-! ## SET TIMECODE (R83) -/

section Timecode

variable {s : State} {d : Dom} {value : U32}

theorem runSetTimecode_bad_domain {domain : Byte} (h : 3 < domain.toNat) (value : U32) (s : State) :
    runSetTimecode domain value s = (.badField 1, s) := by
  simp only [runSetTimecode, below_of_ge h]

theorem runSetTimecode_bad_value (h : Config.framesPerDay (s.dom d).standard ≤ value.toNat) :
    runSetTimecode (num8 d) value s = (.badField 2, s) := by
  simp [runSetTimecode, timecodeFits_of_ge h]

theorem runSetTimecode_of_fits (h : value.toNat < Config.framesPerDay (s.dom d).standard) :
    runSetTimecode (num8 d) value s =
      (.ok [], s.setDom d { s.dom d with pendingTimecode := some (value.toNat, .request) }) := by
  simp only [runSetTimecode, below_num8_4, timecodeFits_of_lt h, if_true]

end Timecode

/-! ## ARM MARK (R84) -/

section Arm

variable {s : State} {d : Dom} {mode event : Byte} {preset : U32} {continuous : Bool}

theorem runArmMark_bad_domain {domain : Byte} (h : 3 < domain.toNat) (mode : Byte) (preset : U32) (event : Byte)
    (s : State) : runArmMark domain mode preset event s = (.badField 1, s) := by
  simp only [runArmMark, below_of_ge h]

theorem runArmMark_bad_mode (hmode : 1 < mode.toNat) (d : Dom) (preset : U32) (event : Byte) (s : State) :
    runArmMark (num8 d) mode preset event s = (.badField 2, s) := by
  simp only [runArmMark, below_num8_4, asMarkMode_bad hmode]

theorem runArmMark_bad_preset (hmode : mode.toNat ≤ 1) (h : Config.framesPerDay (s.dom d).standard ≤ preset.toNat) :
    runArmMark (num8 d) mode preset event s = (.badField 3, s) := by
  obtain ⟨continuous, hread⟩ := asMarkMode_ok hmode
  simp only [runArmMark, below_num8_4, hread, timecodeFits_of_ge h, if_true]

theorem runArmMark_bad_event (hmode : mode.toNat ≤ 1) (h : preset.toNat < Config.framesPerDay (s.dom d).standard)
    (hevent : isEvent event = false) : runArmMark (num8 d) mode preset event s = (.refuse .badBinding, s) := by
  obtain ⟨continuous, hread⟩ := asMarkMode_ok hmode
  simp [runArmMark, hread, timecodeFits_of_lt h, hevent]

/-- With its fields accepted the request turns on the mark's status alone. -/
theorem runArmMark_read (hmode : asMarkMode mode = some continuous)
    (h : preset.toNat < Config.framesPerDay (s.dom d).standard) (hevent : isEvent event = true) :
    runArmMark (num8 d) mode preset event s =
      if (s.dom d).markStatus = .doneSingle then (.refuse .markNotCleared, s)
      else (.ok [], (s.setDom d { s.dom d with
        markPreset := preset.toNat
        markStatus := if continuous then .continuous else .armedSingle }).bindMark d event) := by
  simp [runArmMark, hmode, timecodeFits_of_lt h, hevent]

end Arm

/-! ## DISARM MARK (R86) -/

theorem runDisarmMark_bad_domain {domain : Byte} (h : 3 < domain.toNat) (s : State) :
    runDisarmMark domain s = (.badField 1, s) := by
  simp only [runDisarmMark, below_of_ge h]

/-- Dropping a pending timecode of source MARK keeps exactly one of source REQUEST. -/
theorem filter_not_mark (pending : Option (Nat × TimecodeSource)) :
    pending.filter (fun e => decide (e.2 ≠ .mark)) =
      match pending with
      | some (v, .request) => some (v, .request)
      | _ => none := by
  obtain _ | ⟨v, source⟩ := pending
  · rfl
  · cases source <;> rfl

theorem runDisarmMark_read (d : Dom) (s : State) :
    runDisarmMark (num8 d) s = (.ok [], (s.setDom d { s.dom d with
      markStatus := .idle
      markCounter := 0
      pendingTimecode := match (s.dom d).pendingTimecode with
        | some (v, .request) => some (v, .request)
        | _ => none }).bindMark d 0) := by
  simp only [runDisarmMark, below_num8_4, filter_not_mark]

/-- Settles O34: each request's fields are checked in their order, and an accepted request answers its effect; DISARM
MARK keeps a pending timecode by its source (`filter_not_mark`). -/
theorem timecodeAndMarkRequests : Obligations.TimecodeAndMarkRequests := by
  unfold Obligations.TimecodeAndMarkRequests
  refine fun s tag hfree => ⟨?_, ?_, ?_, fun d => ⟨?_, ?_, ?_, ?_, ?_, ?_, ?_⟩, isEvent_iff⟩
  · intro domain value hbad
    exact setTimecode_answers hfree (runSetTimecode_bad_domain hbad value s)
  · intro domain mode preset event hbad
    exact armMark_answers hfree (runArmMark_bad_domain hbad mode preset event s)
  · intro domain hbad
    exact disarmMark_answers hfree (runDisarmMark_bad_domain hbad s)
  · intro value hvalue
    exact setTimecode_answers hfree (runSetTimecode_bad_value hvalue)
  · intro value hvalue
    exact setTimecode_answers hfree (runSetTimecode_of_fits hvalue)
  · intro mode preset event hmode
    exact armMark_answers hfree (runArmMark_bad_mode hmode d preset event s)
  · intro mode preset event hmode hpreset
    exact armMark_answers hfree (runArmMark_bad_preset hmode hpreset)
  · intro mode preset event hmode hpreset hevent
    exact armMark_answers hfree (runArmMark_bad_event hmode hpreset hevent)
  · intro continuous preset event hpreset hevent
    have hread := runArmMark_read (asMarkMode_code continuous) hpreset hevent
    refine ⟨fun hdone => ?_, fun hclear => ?_⟩
    · exact armMark_answers hfree (hread.trans (if_pos hdone))
    · exact armMark_answers hfree (hread.trans (if_neg hclear))
  · exact disarmMark_answers hfree (runDisarmMark_read d s)

end Sys2Proof.Machine
end

section
/-! PROOF. BIND TILE (chapter 7, R134): what its fields read as, what an update queue and an IDLE link make of the
new binding, and the statement that says so. -/

namespace Sys2Proof.Machine

open State

/-! ## The update of a wall whose record has just been written (R125, R127) -/

theorem enqueueTiles_singleton (q : List Tile) (x : Tile) : enqueueTiles q [x] = if x ∈ q then q else q ++ [x] := by
  by_cases hx : x ∈ q <;> simp [enqueueTiles, hx]

/-- A queue a tile has joined holds at least that tile. -/
theorem enqueueTiles_singleton_ne_nil (q : List Tile) (x : Tile) : enqueueTiles q [x] ≠ [] := by
  rw [enqueueTiles_singleton]
  split
  · next hx => exact List.ne_nil_of_mem hx
  · exact List.append_ne_nil_of_right_ne_nil q (List.cons_ne_nil x [])

/-- The content of a tile does not depend on the wall records. -/
theorem compose_setWall (s : State) (w : Wall) (r : WallRec) (b : Binding) :
    (s.setWall w r).compose b = s.compose b := by
  cases b <;> rfl

/-- R127: a link found IDLE with queued entries has sent; what it has sent is composed from the state before. -/
theorem sendUpdate_setWall_of_idle {s : State} {w : Wall} {r : WallRec} (hidle : r.link = .idle) (hq : r.queue ≠ []) :
    (s.setWall w r).sendUpdate w = s.setWall w (afterUpdate s r r.queue) := by
  unfold sendUpdate
  simp only [wall_setWall, setWall_setWall, compose_setWall]
  exact if_pos ⟨hidle, hq⟩

/-- R127: a link in any other state sends nothing. -/
theorem sendUpdate_setWall_of_not_idle {s : State} {w : Wall} {r : WallRec} (h : r.link ≠ .idle) :
    (s.setWall w r).sendUpdate w = s.setWall w r :=
  sendUpdate_quiet _ _ (Or.inl (by rwa [wall_setWall]))

/-! ## The binding a request's kind and value read as -/

theorem asBinding_bad_kind {kind : Byte} (h : 2 < kind.toNat) (value : U16) : asBinding kind value = .error 3 := by
  unfold asBinding
  split
  · omega
  · omega
  · omega
  · rfl

theorem asBinding_bad_dest {value : U16} (h : 255 < value.toNat) : asBinding 1 value = .error 4 := by
  simp [asBinding, below_of_ge h]

theorem asBinding_bad_source {value : U16} (h : 511 < value.toNat) : asBinding 2 value = .error 4 := by
  simp [asBinding, below_of_ge h]

theorem asBinding_none (value : U16) : asBinding 0 value = .ok .none := rfl

theorem asBinding_dest (d : Dest) : asBinding 1 (num16 d) = .ok (.dest d) := by
  simp [asBinding]

theorem asBinding_source (y : Src) : asBinding 2 (num16 y) = .ok (.source y) := by
  simp [asBinding]

/-! ## BIND TILE (R134) -/

theorem bindTile_answers {s t : State} {tag wall tile kind : Byte} {value : U16} {status : Status} {tail : List Byte}
    (hl : s.linkFree = true) (h : runBindTile wall tile kind value s = (⟨status, tail⟩, t)) :
    Answers (.bindTile tag wall tile kind value) s status tail t :=
  answers_of rfl rfl rfl hl h

theorem runBindTile_bad_wall {wall : Byte} (h : 7 < wall.toNat) (tile kind : Byte) (value : U16) (s : State) :
    runBindTile wall tile kind value s = (.badField 1, s) := by
  simp only [runBindTile, below_of_ge h]

theorem runBindTile_bad_tile (w : Wall) {tile : Byte} (h : 63 < tile.toNat) (kind : Byte) (value : U16) (s : State) :
    runBindTile (num8 w) tile kind value s = (.badField 2, s) := by
  simp only [runBindTile, below_num8_8, below_of_ge h]

/-- With a wall and a tile read the request turns on its binding alone: the index of the field that fails is named. -/
theorem runBindTile_bad_binding {kind : Byte} {value : U16} {index : Nat} (h : asBinding kind value = .error index)
    (w : Wall) (x : Tile) (s : State) : runBindTile (num8 w) (num8 x) kind value s = (.badField index, s) := by
  simp only [runBindTile, below_num8_8, below_num8_64, h]

theorem runBindTile_read {kind : Byte} {value : U16} {b : Binding} (h : asBinding kind value = .ok b)
    (w : Wall) (x : Tile) (s : State) : runBindTile (num8 w) (num8 x) kind value s = (.ok [], s.bindTile w x b) := by
  simp only [runBindTile, below_num8_8, below_num8_64, h]

/-- The wall's record takes the binding and the mark; an IDLE link then sends, the queue holding the tile at least. -/
theorem bindTile_eq (s : State) (w : Wall) (x : Tile) (b : Binding) :
    let q := if x ∈ (s.wall w).queue then (s.wall w).queue else (s.wall w).queue ++ [x]
    let bound : WallRec := { s.wall w with tiles := put (s.wall w).tiles x b, queue := q }
    s.bindTile w x b = s.setWall w (if bound.link = .idle then afterUpdate s bound q else bound) := by
  rw [← enqueueTiles_singleton]
  intro q bound
  have hq : bound.queue ≠ [] := enqueueTiles_singleton_ne_nil _ _
  by_cases hidle : bound.link = .idle
  · rw [if_pos hidle]
    exact sendUpdate_setWall_of_idle hidle hq
  · rw [if_neg hidle]
    exact sendUpdate_setWall_of_not_idle hidle

/-- Settles O14: the fields are checked in their order (`asBinding` judges the last two together), and an accepted request
rewrites its wall's record alone, as `bindTile_eq` says. -/
theorem bindTileRebindsAndMarks : Obligations.BindTileRebindsAndMarks := by
  unfold Obligations.BindTileRebindsAndMarks
  refine fun s tag hfree => ⟨?_, ?_, ?_, ?_, ?_, ?_⟩
  · intro wall tile kind value hwall
    exact bindTile_answers hfree (runBindTile_bad_wall hwall tile kind value s)
  · intro w tile kind value htile
    exact bindTile_answers hfree (runBindTile_bad_tile w htile kind value s)
  · intro w x kind value hkind
    exact bindTile_answers hfree (runBindTile_bad_binding (asBinding_bad_kind hkind value) w x s)
  · intro w x value hdest
    exact bindTile_answers hfree (runBindTile_bad_binding (asBinding_bad_dest hdest) w x s)
  · intro w x value hsource
    exact bindTile_answers hfree (runBindTile_bad_binding (asBinding_bad_source hsource) w x s)
  · intro w x kind value b hfields q bound after
    have hread : asBinding kind value = .ok b := by
      obtain ⟨rfl, rfl⟩ | ⟨rfl, d, rfl, rfl⟩ | ⟨rfl, y, rfl, rfl⟩ := hfields
      · exact asBinding_none value
      · exact asBinding_dest d
      · exact asBinding_source y
    have hrun : runBindTile (num8 w) (num8 x) kind value s = (.ok [], s.setWall w after) := by
      rw [runBindTile_read hread, bindTile_eq]
    exact bindTile_answers hfree hrun

end Sys2Proof.Machine
end

section
/-! PROOF. BIND RECORDER and RECORDER COMMAND (chapter 8, R154, R155): what their fields read as, what a binding makes
of the record counts and of the waiting takes, what a command makes of its port, and the statement that says so. -/

namespace Sys2Proof.Machine

open State

/-! ## Both requests answer what their effect answers -/

section Answered

variable {s t : State} {tag : Byte} {status : Status} {tail : List Byte}

/-- The request's frame has a byte more where a destination is carried. -/
theorem bindRecorder_answers {port policy event guardTime pollTimeout : Byte} {dest : OptField Byte}
    (hfits : optFits dest = true) (hl : s.linkFree = true)
    (h : runBindRecorder port dest policy event guardTime pollTimeout s = (⟨status, tail⟩, t)) :
    Answers (.bindRecorder tag port dest policy event guardTime pollTimeout) s status tail t := by
  cases dest with
  | none => exact answers_of rfl rfl hfits hl h
  | some field => exact answers_of rfl rfl hfits hl h

theorem recorderCommand_answers {port command : Byte} (hl : s.linkFree = true)
    (h : runRecorderCommand port command s = (⟨status, tail⟩, t)) :
    Answers (.recorderCommand tag port command) s status tail t :=
  answers_of rfl rfl rfl hl h

end Answered

/-! ## The fields read -/

theorem asGuardPolicy_bad {b : Byte} (h : 2 < b.toNat) : asGuardPolicy b = none := by
  unfold asGuardPolicy
  split
  · omega
  · omega
  · omega
  · rfl

theorem asGuardPolicy_code (g : GuardPolicy) : asGuardPolicy (BitVec.ofNat 8 (guardPolicyCode g)) = some g := by
  cases g <;> rfl

theorem asGuardPolicy_ok {b : Byte} (h : b.toNat ≤ 2) : ∃ g, asGuardPolicy b = some g := by
  have hb : b = 0 ∨ b = 1 ∨ b = 2 := by bv_omega
  rcases hb with rfl | rfl | rfl
  · exact ⟨.hold, rfl⟩
  · exact ⟨.split, rfl⟩
  · exact ⟨.free, rfl⟩

theorem asCommand_bad {b : Byte} (h : b = 0 ∨ 4 < b.toNat) : asCommand b = none := by
  have hb : b.toNat = 0 ∨ 4 < b.toNat := h.imp_left (congrArg BitVec.toNat)
  unfold asCommand
  split
  · omega
  · omega
  · omega
  · omega
  · rfl

theorem asCommand_code (c : RecorderCommand) : asCommand (BitVec.ofNat 8 (commandCode c)) = some c := by
  cases c <;> rfl

/-- An optional destination as a request carries it. -/
def destField (d : Option Dest) : OptField Byte := d.map (fun x => (1, num8 x))

theorem optFits_destField (d : Option Dest) : optFits (destField d) = true := by
  cases d <;> rfl

theorem asOpt_destField (d : Option Dest) : asOpt (fun b : Byte => some b.toFin) (destField d) = some d := by
  cases d with
  | none => rfl
  | some x => simp [destField, asOpt]

theorem asOpt_bad_presence {α β : Type} (read : α → Option β) {flag : Byte} (h : flag ≠ 1) (v : α) :
    asOpt read (some (flag, v)) = none :=
  if_neg h

/-! ## The fields of BIND RECORDER, in their order (R154 step 1) -/

section BindFields

variable {port policy event guardTime pollTimeout : Byte} {dest : OptField Byte} {p : Port} {d : Option Dest}
  {g : GuardPolicy} {s : State}

theorem runBindRecorder_bad_port (h : 15 < port.toNat) :
    runBindRecorder port dest policy event guardTime pollTimeout s = (.badField 1, s) := by
  simp only [runBindRecorder, below_of_ge h]

theorem runBindRecorder_bad_presence {flag value : Byte} (h : flag ≠ 1) :
    runBindRecorder (num8 p) (some (flag, value)) policy event guardTime pollTimeout s = (.badField 2, s) := by
  simp only [runBindRecorder, below_num8_16, asOpt_bad_presence _ h]

theorem runBindRecorder_bad_policy (h : 2 < policy.toNat) :
    runBindRecorder (num8 p) (destField d) policy event guardTime pollTimeout s = (.badField 3, s) := by
  simp only [runBindRecorder, below_num8_16, asOpt_destField, asGuardPolicy_bad h]

theorem runBindRecorder_bad_guardTime (hpolicy : asGuardPolicy policy = some g)
    (h : guardTime = 0 ∨ 100 < guardTime.toNat) :
    runBindRecorder (num8 p) (destField d) policy event guardTime pollTimeout s = (.badField 5, s) := by
  have hguard : guardTime.toNat < 1 ∨ 100 < guardTime.toNat := h.imp_left (by rintro rfl; decide)
  simp only [runBindRecorder, below_num8_16, asOpt_destField, hpolicy, if_pos hguard]

theorem runBindRecorder_bad_pollTimeout (hpolicy : asGuardPolicy policy = some g) (hlow : 1 ≤ guardTime.toNat)
    (hhigh : guardTime.toNat ≤ 100) (h : pollTimeout.toNat < 5 ∨ 200 < pollTimeout.toNat) :
    runBindRecorder (num8 p) (destField d) policy event guardTime pollTimeout s = (.badField 6, s) := by
  have hguard : ¬ (guardTime.toNat < 1 ∨ 100 < guardTime.toNat) := by omega
  simp only [runBindRecorder, below_num8_16, asOpt_destField, hpolicy, if_neg hguard, if_pos h]

theorem runBindRecorder_read (hpolicy : asGuardPolicy policy = some g) (hlow : 1 ≤ guardTime.toNat)
    (hhigh : guardTime.toNat ≤ 100) (hshort : 5 ≤ pollTimeout.toNat) (hlong : pollTimeout.toNat ≤ 200) :
    runBindRecorder (num8 p) (destField d) policy event guardTime pollTimeout s =
      bindRequest p ⟨d, g, event, guardTime.toNat, pollTimeout.toNat⟩ s := by
  have hguard : ¬ (guardTime.toNat < 1 ∨ 100 < guardTime.toNat) := by omega
  have hpoll : ¬ (pollTimeout.toNat < 5 ∨ 200 < pollTimeout.toNat) := by omega
  simp only [runBindRecorder, below_num8_16, asOpt_destField, hpolicy, if_neg hguard, if_neg hpoll]

end BindFields

/-! ## The event and the destination of BIND RECORDER (R154 from step 2 on) -/

section BindChecks

variable {s : State} {p : Port} {c : PortConfig}

theorem boundElsewhere_iff (s : State) (p : Port) (d : Option Dest) :
    boundElsewhere s p d = true ↔ ∃ x q, d = some x ∧ q ≠ p ∧ (s.port q).dest = some x := by
  cases d with
  | none => simp [boundElsewhere]
  | some x => simp [boundElsewhere, mem_entries, port_def]

theorem bindRequest_badBinding (hset : c.event ≠ 0) (hevent : isEvent c.event = false) :
    bindRequest p c s = (.refuse .badBinding, s) :=
  if_pos ⟨hset, hevent⟩

/-- With its event accepted the request turns on whether another port holds the destination. -/
theorem bindRequest_of_event (h : c.event = 0 ∨ isEvent c.event = true) :
    bindRequest p c s =
      if boundElsewhere s p c.dest then (.refuse .destBound, s) else (.ok [], (bindRecorder s p c).settle) := by
  have hevent : ¬ (c.event ≠ 0 ∧ isEvent c.event = false) := by
    rintro ⟨hset, hnone⟩
    exact h.elim hset (fun hsome => by simp [hsome] at hnone)
  exact if_neg hevent

end BindChecks

/-! ## A share that moves from source to source, and the sources handed over for it (R11, R14) -/

theorem src_moveShare (s : State) (a b : Option Src) (share : Nat × Nat × Nat) (x : Src) :
    (s.moveShare a b share).src x =
      let left := if a = some x then (s.src x).leave share else s.src x
      if b = some x then left.enter share else left := by
  have hentered (t : State) :
      (t.moveShare none b share).src x = if b = some x then (t.src x).enter share else t.src x := by
    cases b with
    | none => rfl
    | some y => by_cases hy : y = x <;> simp [moveShare, src_setSrc, hy, eq_comm (a := x)]
  cases a with
  | none => exact hentered s
  | some y =>
    refine (hentered (s.setSrc y ((s.src y).leave share))).trans ?_
    by_cases hy : y = x <;> simp [src_setSrc, hy, eq_comm (a := x)]

/-- A share of the record count alone. -/
theorem src_moveShare_record (s : State) (a b : Option Src) (x : Src) :
    (s.moveShare a b (0, 0, 1)).src x = { s.src x with record :=
      (s.src x).record - (if a = some x then 1 else 0) + (if b = some x then 1 else 0) } := by
  rw [src_moveShare]
  by_cases ha : a = some x <;> by_cases hb : b = some x <;> simp [ha, hb, SrcRec.leave, SrcRec.enter]

theorem source_mem_handed_handRecoloured (s before : State) (x y : Src) :
    .source x ∈ (s.handRecoloured before y).handed ↔
      .source x ∈ s.handed ∨ (y = x ∧ (s.src x).colour ≠ (before.src x).colour) := by
  unfold handRecoloured
  split
  · next hsame =>
    have hnone : ¬ (y = x ∧ (s.src x).colour ≠ (before.src x).colour) := by
      rintro ⟨rfl, hchanged⟩
      exact hchanged hsame
    rw [or_iff_left hnone]
  · next hchanged =>
    rw [and_iff_left_of_imp (by rintro rfl; exact hchanged)]
    simp [hand, eq_comm (a := x)]

theorem src_handRecoloured (s before : State) (x y : Src) : (s.handRecoloured before y).src x = s.src x := by
  simp [src_def]

/-- The two sources named are handed over where their colour has changed, one named twice once only. -/
theorem source_mem_handed_recolour (s before : State) (a b : Option Src) (x : Src) :
    .source x ∈ (s.recolour before a b).handed ↔
      .source x ∈ s.handed ∨ ((a = some x ∨ b = some x) ∧ (s.src x).colour ≠ (before.src x).colour) := by
  unfold recolour
  cases a with
  | none =>
    cases b with
    | none => simp
    | some z => simp [source_mem_handed_handRecoloured]
  | some y =>
    cases b with
    | none => simp [source_mem_handed_handRecoloured]
    | some z =>
      by_cases hzy : z = y
      · simp [hzy, source_mem_handed_handRecoloured]
      · simp [hzy, source_mem_handed_handRecoloured, src_handRecoloured, or_and_right, or_assoc]

/-! ## The hold test applied again (R30) -/

/-- The take after the hold test: a waiting one is HELD or QUEUED as the test says. -/
def Take.retest (hold : Dest → Bool) (k : Take) : Take :=
  if k.state.waiting then { k with state := if hold k.dest then .held else .queued } else k

theorem waiting_of_test (held : Bool) : (if held then TakeState.held else .queued).waiting = true := by
  cases held <;> rfl

@[simp] theorem Take.retest_dest (hold : Dest → Bool) (k : Take) : (k.retest hold).dest = k.dest := by
  unfold Take.retest
  split <;> rfl

@[simp] theorem Take.retest_waiting (hold : Dest → Bool) (k : Take) :
    (k.retest hold).state.waiting = k.state.waiting := by
  by_cases hk : k.state.waiting = true
  · rw [Take.retest, if_pos hk, hk]
    exact waiting_of_test _
  · simp [Take.retest, hk]

@[simp] theorem Take.retest_retest (hold : Dest → Bool) (k : Take) :
    (k.retest hold).retest hold = k.retest hold := by
  by_cases hk : k.state.waiting = true
  · rw [Take.retest, if_pos ((k.retest_waiting hold).trans hk)]
    simp [Take.retest, hk]
  · simp [Take.retest, hk]

/-- The slot with its take after the hold test. -/
def SlotRec.retest (hold : Dest → Bool) (r : SlotRec) : SlotRec := { r with take := r.take.map (Take.retest hold) }

@[simp] theorem SlotRec.retest_retest (hold : Dest → Bool) (r : SlotRec) :
    (r.retest hold).retest hold = r.retest hold := by
  cases hk : r.take <;> simp [SlotRec.retest, hk]

/-- The slot holds a waiting take of the destination. -/
def SlotRec.waitsFor (r : SlotRec) (d : Dest) : Bool := r.holds (fun k => decide (k.dest = d) && k.state.waiting)

@[simp] theorem SlotRec.retest_waitsFor (hold : Dest → Bool) (r : SlotRec) (d : Dest) :
    (r.retest hold).waitsFor d = r.waitsFor d := by
  cases hk : r.take <;> simp [SlotRec.waitsFor, SlotRec.holds, SlotRec.retest, hk]

theorem waitsFor_iff (r : SlotRec) (d : Dest) :
    r.waitsFor d = true ↔ ∃ k, r.take = some k ∧ k.dest = d ∧ k.state.waiting = true := by
  simp [SlotRec.waitsFor, SlotRec.holds_iff]

/-- A search for a waiting take depends on what each slot waits for alone. -/
theorem waitingOf_congr {s t : State} {d : Dest} (h : ∀ i, (t.slot i).waitsFor d = (s.slot i).waitsFor d) :
    t.waitingOf d = s.waitingOf d := by
  simp only [waitingOf, findTake_eq]
  exact congrArg (fun p => (List.finRange 128).find? p) (funext h)

theorem take_of_waitingOf {s : State} {d : Dest} {i : Slot} (h : s.waitingOf d = some i) :
    ∃ k, (s.slot i).take = some k ∧ k.dest = d ∧ k.state.waiting = true :=
  (waitsFor_iff _ _).1 ((findTake_eq_some _ _ _).1 h).1

theorem slot_setSlot (s : State) (i j : Slot) (r : SlotRec) :
    (s.setSlot j r).slot i = if i = j then r else s.slot i := by
  simp [slot_def, look_put]

theorem retestHold_of_waiting {s : State} {d : Dest} {i : Slot} (h : s.waitingOf d = some i) :
    s.retestHold d = s.setSlot i ((s.slot i).retest s.holdTest) := by
  obtain ⟨k, hk, hdest, hwait⟩ := take_of_waitingOf h
  simp only [retestHold, h, hk, setTake, SlotRec.retest, Option.map_some, Take.retest, hwait, if_true, hdest]

theorem retestHold_of_none {s : State} {d : Dest} (h : s.waitingOf d = none) : s.retestHold d = s := by
  simp only [retestHold, h]

theorem slot_retestHold (s : State) (d : Dest) (i : Slot) :
    (s.retestHold d).slot i = if s.waitingOf d = some i then (s.slot i).retest s.holdTest else s.slot i := by
  cases hw : s.waitingOf d with
  | none => simp [retestHold_of_none hw]
  | some j =>
    rw [retestHold_of_waiting hw, slot_setSlot]
    by_cases hij : j = i <;> simp [hij, eq_comm (a := i)]

/-- A retested take keeps waiting. -/
theorem waitingOf_retestHold (s : State) (d e : Dest) : (s.retestHold d).waitingOf e = s.waitingOf e := by
  refine waitingOf_congr fun i => ?_
  rw [slot_retestHold]
  split
  · exact SlotRec.retest_waitsFor _ _ _
  · rfl

/-- Of the pool the hold test changes slots alone. -/
theorem retestHold_pool (s : State) (d : Dest) :
    (s.retestHold d).pool = { s.pool with slots := (s.retestHold d).pool.slots } := by
  cases hw : s.waitingOf d with
  | none => rw [retestHold_of_none hw]
  | some i => rw [retestHold_of_waiting hw]; rfl

/-- The hold test reads the ports alone. -/
theorem holdTest_congr {s t : State} (h : t.ports = s.ports) : t.holdTest = s.holdTest := by
  have hport (p : Port) : t.port p = s.port p := by rw [port_def, port_def, h]
  have hbound (d : Dest) : t.portOf d = s.portOf d := by simp only [portOf_eq, hport]
  funext d
  simp only [holdTest, hbound, hport]

/-! The hold test on an optional destination. -/

theorem slot_retestOpt (s : State) (d : Option Dest) (i : Slot) :
    (s.retestOpt d).slot i =
      if d.bind s.waitingOf = some i then (s.slot i).retest s.holdTest else s.slot i := by
  cases d with
  | none => rfl
  | some x => exact slot_retestHold s x i

theorem waitingOf_retestOpt (s : State) (d : Option Dest) : (s.retestOpt d).waitingOf = s.waitingOf := by
  cases d with
  | none => rfl
  | some x => exact funext (waitingOf_retestHold s x)

theorem retestOpt_pool (s : State) (d : Option Dest) :
    (s.retestOpt d).pool = { s.pool with slots := (s.retestOpt d).pool.slots } := by
  cases d with
  | none => rfl
  | some x => exact retestHold_pool s x

/-- Two tests one after the other retest what either finds, a take both find as one of them would. -/
theorem slot_retestOpt_retestOpt (s : State) (a b : Option Dest) (i : Slot) :
    ((s.retestOpt a).retestOpt b).slot i =
      if a.bind s.waitingOf = some i ∨ b.bind s.waitingOf = some i then (s.slot i).retest s.holdTest
      else s.slot i := by
  have hports : (s.retestOpt a).holdTest = s.holdTest := holdTest_congr (by simp)
  rw [slot_retestOpt, waitingOf_retestOpt, slot_retestOpt, hports]
  by_cases ha : a.bind s.waitingOf = some i <;> by_cases hb : b.bind s.waitingOf = some i <;> simp [ha, hb]

/-! ## A binding (R154) -/

section Binding

variable (s : State) (p : Port) (c : PortConfig)

/-- The port's configuration and its poll replaced. -/
def State.configured : State :=
  (s.setPort p { s.port p with
    dest := c.dest, policy := c.policy, guardTime := c.guardTime, pollTimeout := c.pollTimeout }).bindPoll p c.event

/-- The record count moved from the source of the old destination to that of the new one. -/
def State.recounted : State :=
  (s.configured p c).moveShare (s.sourceOf (s.port p).dest) (s.sourceOf c.dest) (0, 0, 1)

/-- A binding before its hold tests: the configuration replaced and, of a recording port, the record count moved. -/
def State.rebound : State :=
  if (s.port p).dest ≠ c.dest ∧ (s.port p).reported = .recording then
    (s.recounted p c).recolour s (s.sourceOf (s.port p).dest) (s.sourceOf c.dest)
  else s.configured p c

/-- Where the binding or the guard policy changes the waiting takes are tested again (R30). -/
theorem bindRecorder_eq :
    bindRecorder s p c =
      if (s.port p).dest ≠ c.dest ∨ (s.port p).policy ≠ c.policy then
        ((s.rebound p c).retestOpt (s.port p).dest).retestOpt c.dest
      else s.rebound p c := rfl

theorem rebound_pool : (s.rebound p c).pool = s.pool := by
  unfold State.rebound State.recounted State.configured
  split <;> simp

theorem rebound_ports : (s.rebound p c).ports = put s.ports p { s.port p with
    dest := c.dest, policy := c.policy, guardTime := c.guardTime, pollTimeout := c.pollTimeout } := by
  unfold State.rebound State.recounted State.configured
  split <;> simp

theorem rebound_router :
    (s.rebound p c).router = { s.router with poll := put s.router.poll p c.event } := by
  unfold State.rebound State.recounted State.configured
  split <;> simp

/-- Of the ports, the router, the sources and the hand-overs the hold tests change nothing. -/
theorem bindRecorder_tested :
    (bindRecorder s p c).ports = (s.rebound p c).ports ∧ (bindRecorder s p c).router = (s.rebound p c).router ∧
    (bindRecorder s p c).srcs = (s.rebound p c).srcs ∧ (bindRecorder s p c).handed = (s.rebound p c).handed := by
  rw [bindRecorder_eq]
  split <;> simp

theorem bindRecorder_pool :
    (bindRecorder s p c).pool = { s.pool with slots := (bindRecorder s p c).pool.slots } := by
  rw [bindRecorder_eq]
  split
  · rw [retestOpt_pool, retestOpt_pool, rebound_pool]
  · rw [rebound_pool]

/-- The whole next state, but for what `bindRecorder_counts` and `bindRecorder_slots` say. -/
theorem bindRecorder_frame_eq :
    bindRecorder s p c = { s with
      ports := put s.ports p { s.port p with
        dest := c.dest, policy := c.policy, guardTime := c.guardTime, pollTimeout := c.pollTimeout }
      router := { s.router with poll := put s.router.poll p c.event }
      srcs := (bindRecorder s p c).srcs
      pool := { s.pool with slots := (bindRecorder s p c).pool.slots }
      handed := (bindRecorder s p c).handed } := by
  obtain ⟨hports, hrouter, -, -⟩ := bindRecorder_tested s p c
  apply State.ext <;> simp [← bindRecorder_pool, hports, hrouter, rebound_ports, rebound_router]

end Binding

section BindingEffect

variable {s : State} {p : Port} {c : PortConfig}

theorem sourceOf_eq_some {d : Option Dest} {x : Src} :
    s.sourceOf d = some x ↔ ∃ y, d = some y ∧ (s.dest y).source = some x :=
  Option.bind_eq_some_iff

theorem bindRecorder_srcs_handed_of_still
    (h : ¬ ((s.port p).dest ≠ c.dest ∧ (s.port p).reported = .recording)) :
    (bindRecorder s p c).srcs = s.srcs ∧ (bindRecorder s p c).handed = s.handed := by
  obtain ⟨-, -, hsrcs, hhanded⟩ := bindRecorder_tested s p c
  rw [hsrcs, hhanded, State.rebound, if_neg h]
  exact ⟨rfl, rfl⟩

section Moved

variable (h : (s.port p).dest ≠ c.dest ∧ (s.port p).reported = .recording)
include h

theorem bindRecorder_src_recounted (x : Src) : (bindRecorder s p c).src x = (s.recounted p c).src x := by
  obtain ⟨-, -, hsrcs, -⟩ := bindRecorder_tested s p c
  rw [src_def, hsrcs, State.rebound, if_pos h]
  simp [src_def]

theorem bindRecorder_src_of_moved (x : Src) :
    (bindRecorder s p c).src x = { s.src x with record := (s.src x).record -
      (if s.sourceOf (s.port p).dest = some x then 1 else 0) + (if s.sourceOf c.dest = some x then 1 else 0) } := by
  rw [bindRecorder_src_recounted h]
  exact src_moveShare_record _ _ _ x

/-- The sources handed over are those whose colour changes: only one that loses or gains the count can be. -/
theorem source_mem_handed_bindRecorder (x : Src) :
    .source x ∈ (bindRecorder s p c).handed ↔
      .source x ∈ s.handed ∨ ((bindRecorder s p c).src x).colour ≠ (s.src x).colour := by
  have hnamed : ((bindRecorder s p c).src x).colour ≠ (s.src x).colour →
      s.sourceOf (s.port p).dest = some x ∨ s.sourceOf c.dest = some x := by
    contrapose!
    rintro ⟨hold, hnew⟩
    rw [bindRecorder_src_of_moved h, if_neg hold, if_neg hnew]
    rfl
  have hhanded : (s.recounted p c).handed = s.handed := by simp [State.recounted, State.configured]
  obtain ⟨-, -, -, htested⟩ := bindRecorder_tested s p c
  rw [htested, State.rebound, if_pos h, source_mem_handed_recolour, hhanded, ← bindRecorder_src_recounted h,
    and_iff_right_of_imp hnamed]

end Moved

/-- The waiting takes of the old and the new destination are tested again where the binding or the policy changes. -/
theorem slot_bindRecorder (i : Slot) :
    (bindRecorder s p c).slot i =
      if ((s.port p).dest ≠ c.dest ∨ (s.port p).policy ≠ c.policy) ∧
        ((s.port p).dest.bind s.waitingOf = some i ∨ c.dest.bind s.waitingOf = some i)
      then (s.slot i).retest (bindRecorder s p c).holdTest else s.slot i := by
  have hslot (j : Slot) : (s.rebound p c).slot j = s.slot j := by rw [slot_def, rebound_pool]; rfl
  have hwaiting : (s.rebound p c).waitingOf = s.waitingOf := funext fun _ => waitingOf_congr fun j => by rw [hslot]
  have htest : (bindRecorder s p c).holdTest = (s.rebound p c).holdTest :=
    holdTest_congr (bindRecorder_tested s p c).1
  rw [htest, bindRecorder_eq]
  split
  · next hchanged => simp only [slot_retestOpt_retestOpt, hslot, hwaiting, hchanged, true_and]
  · next hsame => simp only [hslot, hsame, false_and, if_false]

/-- Either of two optional destinations has its waiting take in the slot. -/
theorem exists_waitingOf_iff {a b : Option Dest} {i : Slot} :
    (∃ x, (a = some x ∨ b = some x) ∧ s.waitingOf x = some i) ↔
      a.bind s.waitingOf = some i ∨ b.bind s.waitingOf = some i := by
  simp only [Option.bind_eq_some_iff, or_and_right, exists_or]

/-- A take that is tested again is a waiting one, so the test decides its state. -/
theorem retest_of_waitingOf {hold : Dest → Bool} {d : Dest} {i : Slot} {k : Take} (hw : s.waitingOf d = some i)
    (hk : (s.slot i).take = some k) :
    (s.slot i).retest hold =
      { s.slot i with take := some { k with state := if hold k.dest then .held else .queued } } := by
  obtain ⟨l, hl, -, hwait⟩ := take_of_waitingOf hw
  obtain rfl : l = k := Option.some.inj (hl.symm.trans hk)
  simp [SlotRec.retest, hk, Take.retest, hwait]

/-- The record counts and the hand-overs of a binding, each destination's share carried by its current source. -/
theorem bindRecorder_counts (s : State) (p : Port) (c : PortConfig) :
    let t := bindRecorder s p c
    let carries (e : Option Dest) (x : Src) : Bool := decide (∃ y, e = some y ∧ (s.dest y).source = some x)
    let moves : Prop := (s.port p).dest ≠ c.dest ∧ (s.port p).reported = .recording
    (¬ moves → t.srcs = s.srcs ∧ t.handed = s.handed) ∧
    (moves → ∀ x,
      t.src x = { s.src x with record := (s.src x).record -
        (if carries (s.port p).dest x then 1 else 0) + (if carries c.dest x then 1 else 0) } ∧
      (.source x ∈ t.handed ↔ .source x ∈ s.handed ∨ (t.src x).colour ≠ (s.src x).colour)) := by
  refine ⟨bindRecorder_srcs_handed_of_still, fun hmoves x => ⟨?_, source_mem_handed_bindRecorder hmoves x⟩⟩
  simpa only [decide_eq_true_eq, ← sourceOf_eq_some] using bindRecorder_src_of_moved hmoves x

/-- The slots of a binding: the take that waits for a destination it bears on is tested again, every other slot stands. -/
theorem bindRecorder_slots (s : State) (p : Port) (c : PortConfig) (i : Slot) :
    let t := bindRecorder s p c
    let retests : Prop := ((s.port p).dest ≠ c.dest ∨ (s.port p).policy ≠ c.policy) ∧
      ∃ x, ((s.port p).dest = some x ∨ c.dest = some x) ∧ s.waitingOf x = some i
    (¬ retests → t.slot i = s.slot i) ∧
    (retests → ∀ k, (s.slot i).take = some k → t.slot i =
      { s.slot i with take := some { k with state := if t.holdTest k.dest then .held else .queued } }) := by
  intro t retests
  have hslot := slot_bindRecorder (s := s) (p := p) (c := c) i
  simp only [← exists_waitingOf_iff] at hslot
  refine ⟨fun hquiet => hslot.trans (if_neg hquiet), fun hretests k hk => ?_⟩
  obtain ⟨-, x, -, hw⟩ := id hretests
  exact (hslot.trans (if_pos hretests)).trans (retest_of_waitingOf hw hk)

end BindingEffect

/-! ## RECORDER COMMAND (R155) -/

section Command

variable {s : State} {p : Port} {port command : Byte} {c : RecorderCommand}

theorem runRecorderCommand_bad_port (h : 15 < port.toNat) :
    runRecorderCommand port command s = (.badField 1, s) := by
  simp only [runRecorderCommand, below_of_ge h]

theorem runRecorderCommand_bad_command (h : command = 0 ∨ 4 < command.toNat) :
    runRecorderCommand (num8 p) command s = (.badField 2, s) := by
  simp only [runRecorderCommand, below_num8_16, asCommand_bad h]

theorem queueCommand_offline (h : (s.port p).online = false) : s.queueCommand p c = (.portOffline, 0, s) :=
  if_pos h

theorem queueCommand_full (hon : (s.port p).online = true) (hfull : 4 ≤ (s.port p).queue.length) :
    s.queueCommand p c = (.queueFull, 0, s) := by
  simp [queueCommand, hon, Config.commandLimit, hfull]

theorem queueCommand_accepted (hon : (s.port p).online = true) (hroom : (s.port p).queue.length < 4) :
    s.queueCommand p c = (.ok, if (s.port p).exchange = .ready then 0 else (s.port p).queue.length + 1,
      s.setPort p ((s.port p).enqueue s.now c)) := by
  have hlimit : ¬ Config.commandLimit ≤ (s.port p).queue.length := Nat.not_le.2 hroom
  simp [queueCommand, hon, hlimit]

theorem runRecorderCommand_read (p : Port) (c : RecorderCommand) (s : State) :
    runRecorderCommand (num8 p) (BitVec.ofNat 8 (commandCode c)) s =
      if (s.queueCommand p c).1 = .ok then (.ok (e1 (s.queueCommand p c).2.1), (s.queueCommand p c).2.2)
      else (.refuse (s.queueCommand p c).1, s) := by
  simp only [runRecorderCommand, below_num8_16, asCommand_code]
  split <;> simp_all

/-- A port that is not READY starts nothing (R141). -/
theorem enqueue_of_not_ready {r : PortRec} (h : r.exchange ≠ .ready) (now : Time) :
    r.enqueue now c = { r with queue := r.queue ++ [c] } :=
  if_neg h

end Command

/-- Settles O51: each request's fields are checked in their order. An accepted BIND RECORDER is `bindRecorder`, with the
record counts of `bindRecorder_counts` and the slots of `bindRecorder_slots`; an accepted RECORDER COMMAND is the port's
own `enqueue`. -/
theorem recorderRequests : Obligations.RecorderRequests := by
  unfold Obligations.RecorderRequests
  refine ⟨fun s tag hfree => ⟨?_, ?_, ?_, ?_, ?_, ?_⟩,
    fun s tag hfree => ⟨?_, ?_, fun p c => ⟨?_, ?_, ?_⟩⟩⟩
  · intro port dest policy event guardTime pollTimeout hfits hport
    exact bindRecorder_answers hfits hfree (runBindRecorder_bad_port hport)
  · intro p flag dest policy event guardTime pollTimeout hzero hone
    exact bindRecorder_answers (bne_iff_ne.2 hzero) hfree (runBindRecorder_bad_presence hone)
  · intro p d policy event guardTime pollTimeout hpolicy
    exact bindRecorder_answers (optFits_destField d) hfree (runBindRecorder_bad_policy hpolicy)
  · intro p d policy event guardTime pollTimeout hpolicy hguard
    obtain ⟨g, hg⟩ := asGuardPolicy_ok hpolicy
    exact bindRecorder_answers (optFits_destField d) hfree (runBindRecorder_bad_guardTime hg hguard)
  · intro p d policy event guardTime pollTimeout hpolicy hlow hhigh hpoll
    obtain ⟨g, hg⟩ := asGuardPolicy_ok hpolicy
    exact bindRecorder_answers (optFits_destField d) hfree (runBindRecorder_bad_pollTimeout hg hlow hhigh hpoll)
  · intro p d code policy event guardTime pollTimeout hcode hlow hhigh hshort hlong r c elsewhere
    obtain rfl := hcode
    have hread := runBindRecorder_read (p := p) (d := d) (event := event) (s := s) (asGuardPolicy_code policy)
      hlow hhigh hshort hlong
    have hans {t : State} {status : Status}
        (h : bindRequest p ⟨d, policy, event, guardTime.toNat, pollTimeout.toNat⟩ s = (⟨status, []⟩, t)) :
        Answers c s status [] t :=
      bindRecorder_answers (optFits_destField d) hfree (hread.trans h)
    refine ⟨fun hset hnone => ?_, fun hevent helse => ?_, fun hevent helse => ?_⟩
    · exact hans (bindRequest_badBinding hset hnone)
    · exact hans ((bindRequest_of_event hevent).trans (if_pos ((boundElsewhere_iff s p d).2 helse)))
    · exact ⟨_, hans ((bindRequest_of_event hevent).trans (if_neg (mt (boundElsewhere_iff s p d).1 helse))),
        bindRecorder_frame_eq s p _, bindRecorder_counts s p ⟨d, policy, event, _, _⟩,
        bindRecorder_slots s p ⟨d, policy, event, _, _⟩⟩
  · intro port command hport
    exact recorderCommand_answers hfree (runRecorderCommand_bad_port hport)
  · intro p command hcommand
    exact recorderCommand_answers hfree (runRecorderCommand_bad_command hcommand)
  · intro hoff
    exact recorderCommand_answers hfree (by rw [runRecorderCommand_read, queueCommand_offline hoff]; rfl)
  · intro hon hfull
    exact recorderCommand_answers hfree (by rw [runRecorderCommand_read, queueCommand_full hon hfull]; rfl)
  · intro hon hroom queued
    have hread := runRecorderCommand_read p c s
    rw [queueCommand_accepted hon hroom] at hread
    refine ⟨fun hbusy => recorderCommand_answers hfree ?_, fun hready => recorderCommand_answers hfree ?_⟩
    · rw [hread, if_neg hbusy, enqueue_of_not_ready hbusy]; rfl
    · rw [hread, if_pos hready]; rfl

end Sys2Proof.Machine
end

section
/-! PROOF. Steps: what a step with a waiting command and an idle step do, and the one induction every law of the reachable
states goes through: a law that bookkeeping, time, the requests' effects and the other commands' effects keep is kept by
every step. -/

namespace Sys2Proof.Machine

open State

/-- Settles O1: `step` on a state with a command at the front of its queue is, by definition, `exec` of it. -/
theorem stepRunsFrontCommand : Obligations.StepRunsFrontCommand := fun _ _ _ => rfl

/-! ## Free choices -/

theorem choose_one (s : State) : s.choose 1 = (0, s) := rfl

theorem choose_many (s : State) (n : Nat) :
    s.choose (n + 2) = (Config.freeChoice s.choices % (n + 2), { s with choices := s.choices + 1 }) := by
  simp [choose]

theorem choose_lt (s : State) (n : Nat) : (s.choose (n + 1)).1 < n + 1 := by
  cases n with
  | zero => simp [choose_one]
  | succ n => rw [choose_many]; exact Nat.mod_lt _ (Nat.succ_pos _)

theorem choose_state (s : State) (n : Nat) :
    (s.choose n).2 = { s with pending := s.pending, choices := (s.choose n).2.choices } := by
  unfold choose
  split <;> rfl

theorem getD_mem {α : Type} {l : List α} {i : Nat} {a : α} (h : i < l.length) : l.getD i a ∈ l := by
  rw [List.getD_eq_getElem?_getD, List.getElem?_eq_getElem h]
  exact List.getElem_mem h

/-! ## Idle steps -/

theorem step_idle {s : State} (hp : s.pending = []) (hd : s.due = []) : step s = .next s.tick := by
  simp only [step, hp, nextDue, hd]

theorem step_due {s : State} {c : Instr} {rest : List Instr} (hp : s.pending = []) (hd : s.due = c :: rest) :
    step s = exec ((c :: rest).getD (s.choose (rest.length + 1)).1 c) (s.choose (rest.length + 1)).2 := by
  simp only [step, hp, nextDue, hd]

/-- Settles O2: with nothing due the time base moves on, one due event runs, and of several a freely chosen one. -/
theorem idleStepRunsDueTimerOrTicks : Obligations.IdleStepRunsDueTimerOrTicks := by
  unfold Obligations.IdleStepRunsDueTimerOrTicks
  refine fun s hp => ⟨?_, ?_, ?_⟩
  · intro hd
    rw [step_idle hp hd]
    rfl
  · intro c hd
    rw [step_due hp hd, List.length_nil, choose_one]
    rfl
  · intro c c' rest hd
    refine ⟨(c :: c' :: rest).getD (s.choose (rest.length + 2)).1 c, ?_, ?_⟩
    · rw [hd]
      exact getD_mem (choose_lt s _)
    · rw [step_due hp hd, List.length_cons, choose_many]

/-! ## A law that every command keeps, every step keeps -/

/-- A step that answers a next state ran a command on a state with the same records, or let a microsecond pass. -/
theorem step_cases {s t : State} (h : step s = .next t) :
    (∃ c p n, exec c { s with pending := p, choices := n } = .next t) ∨ t = s.tick := by
  cases hp : s.pending with
  | cons c rest => exact .inl ⟨c, rest, s.choices, by rw [← h]; simp only [step, hp]⟩
  | nil =>
    cases hd : s.due with
    | nil =>
      rw [step_idle hp hd] at h
      cases h
      exact .inr rfl
    | cons c rest =>
      rw [step_due hp hd, choose_state] at h
      exact .inl ⟨_, _, _, h⟩

theorem step_keeps {P : State → Prop} (hbook : ∀ s p n, P s → P { s with pending := p, choices := n })
    (htick : ∀ s, P s → P s.tick) (hexec : ∀ c s, P s → Keeps P (exec c s)) (s : State) (h : P s) :
    Keeps P (step s) := by
  intro t ht
  obtain ⟨c, p, n, he⟩ | rfl := step_cases ht
  · exact hexec c _ (hbook s p n h) t he
  · exact htick s h

/-! ## The effects of the commands -/

/-- What a command that is neither a request nor one of the control link's own does to the state. -/
def eventEffect : Instr → State → State
  | .coldReset m a b, s =>
    State.coldReset ⟨m, a, b⟩ (mapTable (fun _ r => GpiRec.reset r.pin) s.gpis) s.choices s.pending
  | .confirmOwn d x, s => s.confirmOwn d x
  | .confirmForeign d x, s => s.confirmForeign d x
  | .answer d x, s => s.answer d x
  | .answerTimeout, s => s.answerTimeout
  | .discardedTransaction bytes, s => hearTransaction bytes s
  | .readback, s => s.readbackNext
  | .transferEnd, s => s.transferEnd
  | .absentTimerExpiry i, s => s.expireAbsent i
  | .verifyInterval, s => if s.verifyDue then s.beginVerify else s
  | .referenceFrameStart d, s => s.referenceStart d
  | .referenceLossTimeout d, s => loseByTimeout d s
  | .timerFrameStart d follows, s => timerFrame d follows s
  | .holdLimitExpiry i, s => expireHold i s
  | .gpiPinChange i high, s => s.gpiPin i high
  | .debounceExpiry i, s => s.judgeCandidate i
  | .status p x, s => s.recorderStatus p x
  | .cmdAck p c accepted, s => s.recorderAck p c accepted
  | .pollTimeout p, s => s.recorderTimeout p
  | .guardEnd p, s => s.endGuard p
  | .recorderReplyDiscarded p bytes, s => bytes.foldl (State.recorderByte p) s
  | .hello w, s => s.wallHello w
  | .ack w n, s => s.wallAck w n
  | .ackTimeout w, s => s.ackTimeout w
  | .wallFrameDiscarded w bytes, s => bytes.foldl (State.wallByte w) s
  | .partnerByteGap l, s => s.partnerGap l
  | _, s => s

/-- Every command is a request, one of the control link's own three, or acts as `eventEffect` says. -/
theorem exec_cases (c : Instr) (s : State) :
    exec c s = requestArrives c (requestEffect c) s ∨ (∃ b e, c = .ctlRxByte b e ∧ exec c s = .next (s.rxByte b e)) ∨
    (c = .truncated ∧ exec c s = .next (if s.truncationDue then s.truncate else s)) ∨
    (c = .transmitFrameSent ∧ exec c s = .next s.frameSent) ∨ exec c s = .next (eventEffect c s) := by
  cases c with
  | ctlRxByte b e => exact .inr (.inl ⟨b, e, rfl, rfl⟩)
  | truncated => exact .inr (.inr (.inl ⟨rfl, rfl⟩))
  | transmitFrameSent => exact .inr (.inr (.inr (.inl ⟨rfl, rfl⟩)))
  | _ => first | exact .inl rfl | exact .inr (.inr (.inr (.inr rfl)))

/-- Keeping a law through every command, from keeping it through the four ways the control link acts and through every
event's effect. -/
theorem exec_keeps {P : State → Prop}
    (hrequest : ∀ c f s, encodeRequest c = some f → P s →
      P (if s.linkFree then s.answerRequest f (requestEffect c) else s.joinQueue f))
    (hbyte : ∀ b e s, P s → P (s.rxByte b e)) (htruncate : ∀ s, P s → P s.truncate)
    (hsent : ∀ s, P s → P s.frameSent) (hevent : ∀ c s, P s → P (eventEffect c s)) (c : Instr) (s : State) (h : P s) :
    Keeps P (exec c s) := by
  intro t ht
  obtain he | ⟨b, e, -, he⟩ | ⟨-, he⟩ | ⟨-, he⟩ | he := exec_cases c s <;> rw [he] at ht
  · unfold requestArrives at ht
    split at ht
    · cases ht
    · next f hf =>
      split at ht
      · cases ht; exact hrequest c f s hf h
      · cases ht
  · cases ht; exact hbyte b e s h
  · cases ht
    split
    · exact htruncate s h
    · exact h
  · cases ht; exact hsent s h
  · cases ht; exact hevent c s h

/-- The state with the receiver moved on by a byte (R171). -/
def State.fed (s : State) (b : Byte) : State :=
  s.setLink { s.link with receiver := (s.link.receiver.feed b).1, lastByteAt := s.now }

/-- A byte moves the receiver on, and may complete a frame or have one rejected. -/
theorem receive_cases (s : State) (b : Byte) :
    ((s.link.receiver.feed b).2 = .none ∧ s.receive b = s.fed b) ∨
    (∃ f, (s.link.receiver.feed b).2 = .frame f ∧ s.receive b = (s.fed b).frameComplete f) ∨
    (∃ reason, (s.link.receiver.feed b).2 = .rejected reason ∧ s.receive b = (s.fed b).reject reason) := by
  unfold receive fed
  rcases s.link.receiver.feed b with ⟨r, what⟩
  cases what with
  | none => exact .inl ⟨rfl, rfl⟩
  | frame f => exact .inr (.inl ⟨f, rfl, rfl⟩)
  | rejected reason => exact .inr (.inr ⟨reason, rfl, rfl⟩)

section LinkBlind

variable {P : State → Prop} (hlink : ∀ s l, P s → P (s.setLink l))
  (hrequest : ∀ c s, P s → P (requestEffect c s).2)

include hlink

theorem sendImmediate_keeps (s : State) (f : TxFrame) (h : P s) : P (s.sendImmediate f) := by
  unfold sendImmediate
  split
  · exact hlink s _ h
  · exact h

theorem joinQueue_keeps (s : State) (f : ReqFrame) (h : P s) : P (s.joinQueue f) := by
  unfold joinQueue
  split
  · exact hlink s _ h
  · exact sendImmediate_keeps hlink s _ h

theorem truncate_keeps (s : State) (h : P s) : P s.truncate := sendImmediate_keeps hlink _ _ (hlink s _ h)

include hrequest

omit hlink in
theorem frameEffect_keeps (f : ReqFrame) (s : State) (h : P s) : P (frameEffect f s).2 := by
  unfold frameEffect
  split
  · exact h
  · exact h
  · exact hrequest _ s h

theorem frameComplete_keeps (s : State) (f : ReqFrame) (h : P s) : P (s.frameComplete f) := by
  unfold frameComplete
  split
  · exact hlink _ _ (frameEffect_keeps hrequest f s h)
  · exact joinQueue_keeps hlink s f h

theorem receive_keeps (s : State) (b : Byte) (h : P s) : P (s.receive b) := by
  have hfed : P (s.fed b) := hlink s _ h
  obtain ⟨-, e⟩ | ⟨f, -, e⟩ | ⟨reason, -, e⟩ := receive_cases s b <;> rw [e]
  · exact hfed
  · exact frameComplete_keeps hlink hrequest _ f hfed
  · exact sendImmediate_keeps hlink _ _ hfed

theorem rxByte_keeps (b : Byte) (e : Bool) (s : State) (h : P s) : P (s.rxByte b e) := by
  unfold rxByte
  split
  · split
    · exact h
    · exact truncate_keeps hlink s h
  · exact receive_keeps hlink hrequest s b h

theorem frameSent_keeps (s : State) (h : P s) : P s.frameSent := by
  unfold frameSent
  split
  · exact h
  · unfold executeHead
    split
    · exact hlink s _ h
    · split
      · exact hlink s _ h
      · exact hlink _ _ (frameEffect_keeps hrequest _ _ (hlink _ _ (hlink s _ h)))

/-- A law that does not look at the control link is kept by every command if the effects keep it. -/
theorem exec_keeps_of_effects (hevent : ∀ c s, P s → P (eventEffect c s)) (c : Instr) (s : State) (h : P s) :
    Keeps P (exec c s) := by
  refine exec_keeps (fun c f s _ h => ?_) (rxByte_keeps hlink hrequest) (truncate_keeps hlink)
    (frameSent_keeps hlink hrequest) hevent c s h
  split
  · exact hlink _ _ (hrequest c s h)
  · exact joinQueue_keeps hlink s f h

end LinkBlind

/-! ## The effects that no frame lemma of its own describes -/

/-- What READ ATTENTION delivers leaves everything but the flags, the discrepancy list and the report's slot. -/
theorem nextDelivery_rest {s : State} {d : Delivery} (h : s.nextDelivery = some d) :
    (∃ f, d.rest = s.setFlags f) ∨
    (∃ r l, s.bus.discrepancies = r :: l ∧ d.rest = s.setBus { s.bus with discrepancies := l }) ∨
    (∃ i l e, s.pool.reports = i :: l ∧ s.endedOf i = some e ∧
      d.rest = { s with pool := { s.pool with
        slots := put s.pool.slots i ⟨(s.slot i).gen, none, some e⟩, reports := l } }) := by
  simp only [nextDelivery, Option.or_eq_some_iff] at h
  have flag {α : Type} {o : Option α} {g : α → Delivery} (hg : ∀ e, ∃ f, (g e).rest = s.setFlags f)
      (h : o.map g = some d) : ∃ f, d.rest = s.setFlags f := by
    obtain ⟨e, -, rfl⟩ := Option.map_eq_some_iff.1 h
    exact hg e
  obtain h | ⟨-, h | ⟨-, h | ⟨-, h | ⟨-, h | ⟨-, h | ⟨-, h | ⟨-, h | ⟨-, h⟩⟩⟩⟩⟩⟩⟩⟩ := h
  · exact .inl (flag (fun _ => ⟨_, rfl⟩) h)
  · exact .inl (flag (fun _ => ⟨_, rfl⟩) h)
  · exact .inl (flag (fun _ => ⟨_, rfl⟩) h)
  · exact .inl (flag (fun _ => ⟨_, rfl⟩) h)
  · exact .inl (flag (fun _ => ⟨_, rfl⟩) h)
  · obtain ⟨r, hr, rfl⟩ := Option.map_eq_some_iff.1 h
    cases hl : s.bus.discrepancies with
    | nil => simp [hl] at hr
    | cons r' l => exact .inr (.inl ⟨r', l, rfl, by simp only [List.tail_cons]⟩)
  · exact .inl (flag (fun _ => ⟨_, rfl⟩) h)
  · exact .inl (flag (fun _ => ⟨_, rfl⟩) h)
  · obtain ⟨i, hi, h⟩ := Option.bind_eq_some_iff.1 h
    obtain ⟨e, he, rfl⟩ := Option.map_eq_some_iff.1 h
    cases hl : s.pool.reports with
    | nil => simp [hl] at hi
    | cons i' l =>
      obtain rfl : i' = i := by simpa [hl] using hi
      exact .inr (.inr ⟨i', l, e, rfl, he, by simp [setSlot, hl]⟩)

theorem runReadAttention_cases (s : State) :
    (runReadAttention s).2 = s ∨ (∃ f, (runReadAttention s).2 = s.setFlags f) ∨
    (∃ r l, s.bus.discrepancies = r :: l ∧ (runReadAttention s).2 = s.setBus { s.bus with discrepancies := l }) ∨
    (∃ i l e, s.pool.reports = i :: l ∧ s.endedOf i = some e ∧
      (runReadAttention s).2 = { s with pool := { s.pool with
        slots := put s.pool.slots i ⟨(s.slot i).gen, none, some e⟩, reports := l } }) := by
  unfold runReadAttention
  split
  · next d hd => exact .inr (nextDelivery_rest hd)
  · exact .inl rfl

/-- A gap on a partner link touches that link's receiver alone. -/
theorem partnerGap_eq (s : State) (l : PartnerLink) :
    s.partnerGap l = { s with wallRx := (s.partnerGap l).wallRx, recorderRx := (s.partnerGap l).recorderRx } := by
  cases l <;> simp only [partnerGap] <;> split <;> rfl

/-- The state RESTART leaves before the closing domains and the walls are served. -/
def State.restarted (s : State) : State :=
  { s with
    dests := mapTable (fun _ r => r.restart) s.dests
    pool := s.pool.restart
    registry := { s.registry with protects := Vector.replicate 256 none }
    store := { s.store with undo := [] }
    bus := s.bus.restart s.faulted
    ports := mapTable (fun _ r => r.restart) s.ports
    cmps := mapTable (fun _ r => r.restart) s.cmps
    link := { s.link with queue := [] }
    flags := Flags.reset }

/-- The walls are refreshed one after another, and each IDLE link sends (R132). -/
def State.refreshWalls (s : State) : State :=
  (List.finRange 8).foldl (fun t w => (t.refreshWall w).sendUpdate w) s

theorem restartAll_eq (s : State) : s.restartAll = s.restarted.serveClosings.refreshWalls := rfl

theorem requestEffect_restart (tag : Byte) (s : State) :
    (requestEffect (.restart tag) s).2 = s.restarted.serveClosings.refreshWalls := by
  have h : requestEffect (.restart tag) s = runRestart s := rfl
  rw [h, runRestart, restartAll_eq]

@[simp] theorem refreshWalls_frame (s : State) :
    s.refreshWalls.now = s.now ∧ s.refreshWalls.straps = s.straps ∧ s.refreshWalls.dests = s.dests ∧
    s.refreshWalls.srcs = s.srcs ∧ s.refreshWalls.pool = s.pool ∧ s.refreshWalls.registry = s.registry ∧
    s.refreshWalls.store = s.store ∧ s.refreshWalls.domains = s.domains ∧ s.refreshWalls.bus = s.bus ∧
    s.refreshWalls.ports = s.ports ∧ s.refreshWalls.router = s.router ∧ s.refreshWalls.gpis = s.gpis ∧
    s.refreshWalls.cmps = s.cmps ∧ s.refreshWalls.link = s.link ∧ s.refreshWalls.flags = s.flags ∧
    s.refreshWalls.wallRx = s.wallRx ∧ s.refreshWalls.recorderRx = s.recorderRx ∧
    s.refreshWalls.handed = s.handed ∧ s.refreshWalls.choices = s.choices ∧ s.refreshWalls.pending = s.pending := by
  unfold refreshWalls
  refine ⟨?_, ?_, ?_, ?_, ?_, ?_, ?_, ?_, ?_, ?_, ?_, ?_, ?_, ?_, ?_, ?_, ?_, ?_, ?_, ?_⟩ <;>
    exact foldl_keep _ _ (fun t w => by simp) _ _

end Sys2Proof.Machine
end

section
/-! PROOF. The control link keeps its bounds: what each of its moves makes of the receiver, the request queue and the
transmit order (chapter 10). -/

namespace Sys2Proof.Machine

open State

/-! ## The bounds of the receiver and of the transmit order -/

/-- A receiver within its bounds stays so, whatever byte comes (R171). -/
theorem feed_receiverLaw {r : Receiver} (h : ReceiverLaw r) (b : Byte) : ReceiverLaw (r.feed b).1 := by
  cases r with
  | hunt =>
    show ReceiverLaw (if b = 0xA5 then .length none else .hunt)
    split <;> trivial
  | length first =>
    cases first with
    | none => trivial
    | some a =>
      by_cases hlt : 1020 < (u16 a b).toNat
      · simp [Receiver.feed, Config.bodyLimit, hlt, ReceiverLaw]
      · simp [Receiver.feed, Config.bodyLimit, hlt, ReceiverLaw, Nat.not_lt.1 hlt]
  | header len kind =>
    have hlen : len.toNat ≤ 1020 := h
    cases kind with
    | none => exact h
    | some k =>
      show ReceiverLaw (if len = 0 then .crc len k b [] none else .body len k b [])
      split
      · next hz => subst hz; exact ⟨rfl, hlen⟩
      · next hz =>
        have : len.toNat ≠ 0 := fun h0 => hz (BitVec.eq_of_toNat_eq h0)
        exact ⟨Nat.pos_of_ne_zero this, hlen⟩
  | body len kind tag held =>
    obtain ⟨hheld, hlen⟩ : held.length < len.toNat ∧ len.toNat ≤ 1020 := h
    have hone : (held ++ [b]).length = held.length + 1 := by simp
    show ReceiverLaw (if (held ++ [b]).length = len.toNat then .crc len kind tag (held ++ [b]) none
      else .body len kind tag (held ++ [b]))
    split
    · next he => exact ⟨he, hlen⟩
    · next he => exact ⟨by omega, hlen⟩
  | crc len kind tag body first =>
    cases first with
    | none => exact h
    | some a => trivial

/-- How many frames of a sort the transmit order holds. -/
def State.framesOf (s : State) (x : FrameSort) : Nat := (s.link.transmit.filter (fun f => decide (f.sort = x))).length

/-- The bounds of LinkLaw, but for the rule that a request waits only while a reply is held. -/
structure LinkBounds (s : State) : Prop where
  receiver : ReceiverLaw s.link.receiver
  queue : s.link.queue.length ≤ 4
  immediates : s.immediates ≤ 8
  reply : s.framesOf .reply ≤ 1
  ready : s.framesOf .ready ≤ 1

theorem linkLaw_iff (s : State) : LinkLaw s ↔ LinkBounds s ∧ (s.link.queue ≠ [] → s.replyHeld = true) :=
  ⟨fun ⟨h1, h2, h3, h4, h5, h6⟩ => ⟨⟨h1, h2, h4, h5, h6⟩, h3⟩,
    fun ⟨⟨h1, h2, h4, h5, h6⟩, h3⟩ => ⟨h1, h2, h3, h4, h5, h6⟩⟩

theorem LinkLaw.bounds {s : State} (h : LinkLaw s) : LinkBounds s := ((linkLaw_iff s).1 h).1

theorem LinkLaw.held {s : State} (h : LinkLaw s) : s.link.queue ≠ [] → s.replyHeld = true := ((linkLaw_iff s).1 h).2

theorem linkLaw_congr {s t : State} (e : t.link = s.link) (h : LinkLaw s) : LinkLaw t := by
  unfold LinkLaw replyHeld immediates at *
  rwa [e]

theorem linkBounds_congr {s t : State} (e : t.link = s.link) (h : LinkBounds s) : LinkBounds t :=
  ⟨e ▸ h.receiver, e ▸ h.queue, by simpa [State.immediates, e] using h.immediates,
    by simpa [framesOf, e] using h.reply, by simpa [framesOf, e] using h.ready⟩

/-- No reply is held exactly when the transmit order holds none. -/
theorem framesOf_reply_eq_zero (s : State) : s.framesOf .reply = 0 ↔ s.replyHeld = false := by
  simp [framesOf, replyHeld, List.filter_eq_nil_iff]

/-! ## A frame joins the transmit order -/

theorem framesOf_send (s : State) (f : TxFrame) (x : FrameSort) :
    (s.send f).framesOf x = s.framesOf x + if f.sort = x then 1 else 0 := by
  by_cases h : f.sort = x <;> simp [framesOf, send, h]

theorem immediates_send (s : State) (f : TxFrame) :
    (s.send f).immediates = s.immediates + if f.sort.immediate then 1 else 0 := by
  by_cases h : f.sort.immediate = true <;> simp [State.immediates, send, h]

theorem replyHeld_send (s : State) (f : TxFrame) : (s.send f).replyHeld = (s.replyHeld || decide (f.sort = .reply)) := by
  simp [replyHeld, send]

/-- An immediate frame keeps the law: it is made only below the eighth (R175). -/
theorem linkLaw_sendImmediate {s : State} {f : TxFrame} (hf : f.sort = .busyReply ∨ f.sort = .reject) (h : LinkLaw s) :
    LinkLaw (s.sendImmediate f) := by
  obtain ⟨hnr, hnd, him⟩ : f.sort ≠ .reply ∧ f.sort ≠ .ready ∧ f.sort.immediate = true := by
    obtain hf | hf := hf <;> simp [hf, FrameSort.immediate]
  unfold sendImmediate
  split
  · next hlt =>
    have hlt' : s.immediates < 8 := hlt
    refine (linkLaw_iff _).2 ⟨⟨h.bounds.receiver, h.bounds.queue, ?_, ?_, ?_⟩, fun hq => ?_⟩
    · rw [immediates_send, if_pos him]; omega
    · rw [framesOf_send, if_neg hnr]; exact h.bounds.reply
    · rw [framesOf_send, if_neg hnd]; exact h.bounds.ready
    · rw [replyHeld_send, h.held hq]; rfl
  · exact h

theorem linkLaw_reject {s : State} (reason : Nat) (h : LinkLaw s) : LinkLaw (s.reject reason) :=
  linkLaw_sendImmediate (.inr rfl) h

/-- A frame that completes while the link is not free keeps the law: a reply is held then (R173, R174). -/
theorem linkLaw_joinQueue {s : State} (f : ReqFrame) (hl : s.linkFree = false) (h : LinkLaw s) :
    LinkLaw (s.joinQueue f) := by
  have hheld : s.replyHeld = true := by
    by_cases hq : s.link.queue = []
    · simpa [linkFree, hq] using hl
    · exact h.held hq
  unfold joinQueue
  split
  · next hlt =>
    have hlt' : s.link.queue.length < 4 := hlt
    refine (linkLaw_iff _).2 ⟨⟨h.bounds.receiver, ?_, h.bounds.immediates, h.bounds.reply, h.bounds.ready⟩, fun _ => hheld⟩
    simp only [List.length_append, List.length_singleton]
    omega
  · exact linkLaw_sendImmediate (.inl rfl) h

/-! ## A request is executed -/

/-- An effect leaves the link as it is, or empties the request queue (RESTART). -/
theorem requestEffect_link (c : Instr) (s : State) :
    (requestEffect c s).2.link = s.link ∨ (requestEffect c s).2.link = { s.link with queue := [] } := by
  cases c with
  | restart tag =>
    right
    rw [requestEffect_restart]
    simp [restarted]
  | readAttention tag =>
    left
    show (runReadAttention s).2.link = _
    obtain h | ⟨f, h⟩ | ⟨r, l, -, h⟩ | ⟨i, l, e, -, -, h⟩ := runReadAttention_cases s <;> rw [h]
    · simp
    · simp
  | _ => left; simp [requestEffect]

theorem frameEffect_link (f : ReqFrame) (s : State) :
    (frameEffect f s).2.link = s.link ∨ (frameEffect f s).2.link = { s.link with queue := [] } := by
  unfold frameEffect
  split
  · exact .inl rfl
  · exact .inl rfl
  · exact requestEffect_link _ s

/-- Executing a request with no reply held keeps the bounds, and the reply it makes is held (R174). -/
theorem linkLaw_answerRequest {s : State} {f : ReqFrame} {e : State → Reply × State}
    (he : (e s).2.link = s.link ∨ (e s).2.link = { s.link with queue := [] }) (hl : s.replyHeld = false)
    (h : LinkBounds s) : LinkLaw (s.answerRequest f e) := by
  have hzero := (framesOf_reply_eq_zero s).2 hl
  have heffect : LinkBounds (e s).2 ∧ (e s).2.framesOf .reply = 0 := by
    have htransmit : (e s).2.link.transmit = s.link.transmit ∧ (e s).2.link.receiver = s.link.receiver ∧
        (e s).2.link.queue.length ≤ 4 := by
      obtain he | he := he <;> rw [he]
      · exact ⟨rfl, rfl, h.queue⟩
      · exact ⟨rfl, rfl, Nat.zero_le _⟩
    obtain ⟨ht, hr, hq⟩ := htransmit
    have hframes (x : FrameSort) : (e s).2.framesOf x = s.framesOf x := by simp only [framesOf, ht]
    refine ⟨⟨hr ▸ h.receiver, hq, ?_, ?_, ?_⟩, ?_⟩
    · simp only [State.immediates, ht]; exact h.immediates
    · rw [hframes]; exact h.reply
    · rw [hframes]; exact h.ready
    · rw [hframes]; exact hzero
  obtain ⟨hb, hz⟩ := heffect
  refine (linkLaw_iff _).2 ⟨⟨hb.receiver, hb.queue, ?_, ?_, ?_⟩, fun _ => ?_⟩
  · unfold answerRequest
    rw [immediates_send]
    exact hb.immediates
  · unfold answerRequest
    rw [framesOf_send, hz]
    exact (by decide : 0 + (if FrameSort.reply = .reply then 1 else 0) ≤ 1)
  · unfold answerRequest
    rw [framesOf_send]
    exact hb.ready
  · unfold answerRequest
    rw [replyHeld_send]
    simp [Reply.frame]

theorem linkFree_iff (s : State) : s.linkFree = true ↔ s.link.queue = [] ∧ s.replyHeld = false := by
  simp [linkFree]

/-- A completed frame is executed or joins the queue; both keep the law (R173, R174). -/
theorem linkLaw_completed {s : State} (f : ReqFrame) {e : State → Reply × State}
    (he : (e s).2.link = s.link ∨ (e s).2.link = { s.link with queue := [] }) (h : LinkLaw s) :
    LinkLaw (if s.linkFree then s.answerRequest f e else s.joinQueue f) := by
  split
  · next hl => exact linkLaw_answerRequest he ((linkFree_iff s).1 hl).2 h.bounds
  · next hl => exact linkLaw_joinQueue f (by simpa using hl) h

/-! ## The link's own commands -/

theorem linkLaw_setReceiver {s : State} {r : Receiver} (t : Time) (hr : ReceiverLaw r) (h : LinkLaw s) :
    LinkLaw (s.setLink { s.link with receiver := r, lastByteAt := t }) :=
  (linkLaw_iff _).2 ⟨⟨hr, h.bounds.queue, h.bounds.immediates, h.bounds.reply, h.bounds.ready⟩, h.held⟩

theorem linkLaw_truncate (s : State) (h : LinkLaw s) : LinkLaw s.truncate :=
  linkLaw_reject 3 (linkLaw_setReceiver s.link.lastByteAt (r := .hunt) trivial h)

theorem linkLaw_rxByte (b : Byte) (e : Bool) (s : State) (h : LinkLaw s) : LinkLaw (s.rxByte b e) := by
  unfold rxByte
  split
  · split
    · exact h
    · exact linkLaw_truncate s h
  · have hfed : LinkLaw (s.fed b) := linkLaw_setReceiver s.now (feed_receiverLaw h.bounds.receiver b) h
    obtain ⟨-, e⟩ | ⟨f, -, e⟩ | ⟨reason, -, e⟩ := receive_cases s b <;> rw [e]
    · exact hfed
    · exact linkLaw_completed f (frameEffect_link f _) hfed
    · exact linkLaw_reject reason hfed

/-- A frame leaves the head of the transmit order: every bound stands. -/
theorem linkBounds_of_sent {s : State} {f : TxFrame} {rest : List TxFrame} (ht : s.link.transmit = f :: rest)
    (h : LinkBounds s) : LinkBounds (s.setLink { s.link with transmit := rest }) := by
  have hshorter (p : TxFrame → Bool) : (rest.filter p).length ≤ (s.link.transmit.filter p).length := by
    rw [ht]
    exact ((List.sublist_cons_self f rest).filter p).length_le
  exact ⟨h.receiver, h.queue, (hshorter _).trans h.immediates, (hshorter _).trans h.reply, (hshorter _).trans h.ready⟩

/-- The end of a transmission keeps the law: with the reply gone, the head request is executed and makes the next (R174). -/
theorem linkLaw_frameSent (s : State) (h : LinkLaw s) : LinkLaw s.frameSent := by
  unfold frameSent
  split
  · exact h
  · next f rest ht =>
    have hb := linkBounds_of_sent ht h.bounds
    unfold executeHead
    split
    · next hq => exact (linkLaw_iff _).2 ⟨hb, fun hne => absurd hq hne⟩
    · next g q hq =>
      split
      · next hheld => exact (linkLaw_iff _).2 ⟨hb, fun _ => hheld⟩
      · next hfree =>
        have hqueue : q.length ≤ 4 := by
          have hle : s.link.queue.length ≤ 4 := h.bounds.queue
          have hq' : s.link.queue = g :: q := hq
          rw [hq', List.length_cons] at hle
          omega
        exact linkLaw_answerRequest (frameEffect_link g _) (Bool.eq_false_iff.2 hfree)
          ⟨hb.receiver, hqueue, hb.immediates, hb.reply, hb.ready⟩

/-! ## Every other command leaves the link alone, or resets it -/

theorem linkLaw_coldReset (x : Straps) (g : Vector GpiRec 8) (n : Nat) (l : List Instr) :
    LinkLaw (State.coldReset x g n l) :=
  ⟨trivial, Nat.zero_le 4, fun h => absurd rfl h, Nat.zero_le 8, Nat.zero_le 1, Nat.le_refl 1⟩

theorem linkLaw_eventEffect (c : Instr) (s : State) (h : LinkLaw s) : LinkLaw (eventEffect c s) := by
  cases c with
  | coldReset m a b => exact linkLaw_coldReset _ _ _ _
  | verifyInterval =>
    refine linkLaw_congr ?_ h
    show (if s.verifyDue then s.beginVerify else s).link = s.link
    split <;> simp
  | partnerByteGap l => exact linkLaw_congr (by show (s.partnerGap l).link = _; rw [partnerGap_eq]) h
  | _ => exact linkLaw_congr (by unfold eventEffect; simp) h

/-- Settles O55: completed frames, the receiver's moves and the end of a transmission keep the bounds; every other command
leaves the link as it is, but for a cold reset. -/
theorem stepKeepsLinkLaw : Obligations.StepKeepsLinkLaw := by
  unfold Obligations.StepKeepsLinkLaw
  refine step_keeps (fun s p n h => linkLaw_congr rfl h) (fun s h => linkLaw_congr rfl h) ?_
  exact exec_keeps (fun c f s _ h => linkLaw_completed f (requestEffect_link c s) h) linkLaw_rxByte linkLaw_truncate
    linkLaw_frameSent linkLaw_eventEffect

end Sys2Proof.Machine
end

section
/-! PROOF. Delivery and the lock-state machine keep a law that their moves keep: one induction over the arrivals, and one
pass over the machine's transitions (chapters 5 and 9). -/

namespace Sys2Proof.Machine

open State

/-- The moves that a delivery, a switch point and the lock-state machine are made of, each of which keeps the law. An
arrival is taken with the settling that closes it. -/
structure KeptByDelivery (P : State → Prop) : Prop where
  setDom : ∀ s d r, P s → P (s.setDom d r)
  setLock : ∀ s d l, P s → P (s.setLock d l)
  flagDomain : ∀ s d l m, P s → P (s.flagDomain d l m)
  setGpi : ∀ s i r, P s → P (s.setGpi i r)
  choose : ∀ s n, P s → P (s.choose n).2
  event : ∀ s a, P s → P (s.arrive a).1.settle

/-- One arrival after another: what each of them keeps with its settling, their run keeps. -/
theorem runArrivals_keeps {P : State → Prop} (hchoose : ∀ s n, P s → P (s.choose n).2)
    (hevent : ∀ s a, P s → P (s.arrive a).1.settle) (fuel : Nat) (as : List Arrival) (s : State) (h : P s) :
    P (runArrivals fuel as s) := by
  induction fuel generalizing as s with
  | zero => exact h
  | succ fuel ih =>
    cases as with
    | nil => exact h
    | cons a rest => exact ih _ _ (hevent _ _ (hchoose s _ h))

namespace KeptByDelivery

variable {P : State → Prop} (k : KeptByDelivery P)

include k

theorem deliver (s : State) (as : List Arrival) (h : P s) : P (s.deliver as) :=
  runArrivals_keeps k.choose k.event _ _ _ h

theorem raise (s : State) (id : Byte) (h : P s) : P (s.raise id) := k.deliver s _ h

theorem switchPoint (s : State) (d : Dom) (h : P s) : P (s.switchPoint d) := k.deliver _ _ (k.setDom s d _ h)

theorem takeLevel (s : State) (i : Gpi) (high : Bool) (h : P s) : P (s.takeLevel i high) :=
  k.raise _ _ (k.setGpi s i _ h)

theorem judgeCandidate (s : State) (i : Gpi) (h : P s) : P (s.judgeCandidate i) := by
  unfold State.judgeCandidate
  split
  · exact k.takeLevel s i _ h
  · exact h

theorem gpiPin (s : State) (i : Gpi) (high : Bool) (h : P s) : P (s.gpiPin i high) := by
  unfold State.gpiPin
  dsimp only
  split
  · exact h
  · split
    · exact k.setGpi s i _ h
    · split
      · exact k.takeLevel _ i high (k.setGpi s i _ h)
      · exact k.setGpi s i _ h

theorem runSetGpi (input debounce : Byte) (s : State) (h : P s) : P (Machine.runSetGpi input debounce s).2 := by
  unfold Machine.runSetGpi
  split
  · exact h
  · split
    · exact h
    · exact k.judgeCandidate _ _ (k.setGpi s _ _ h)

/-! The lock-state machine. -/

theorem lockLoss (s : State) (d : Dom) (h : P s) : P (s.lockLoss d) := by
  unfold State.lockLoss
  split
  · exact k.setLock s d _ h
  · split <;> exact k.setLock s d _ h
  · exact h

theorem loseReference (s : State) (d : Dom) (last : Option Time) (h : P s) : P (s.loseReference d last) :=
  k.lockLoss _ d (k.setDom s d _ h)

theorem departure (s : State) (d : Dom) (h : P s) : P (s.departure d) := by
  unfold State.departure
  dsimp only
  split
  · exact k.setDom _ d _ (k.setDom s d _ h)
  · exact k.lockLoss _ d (k.setDom s d _ h)

theorem returnInPhase (s : State) (d : Dom) (h : P s) : P (s.returnInPhase d) := by
  have placed : P ((s.setLock d .locked).placeTimer d) := k.setDom _ d _ (k.setLock s d _ h)
  unfold State.returnInPhase
  dsimp only
  split
  · exact placed
  · exact k.switchPoint _ d placed

theorem detect (s : State) (d : Dom) (h : P s) : P (s.detect d) := by
  unfold State.detect
  dsimp only
  split
  · split
    · exact k.setLock s d _ h
    · exact k.flagDomain s d _ _ h
  · split
    · exact k.setLock s d _ h
    · exact k.flagDomain s d _ _ h
  · split
    · split
      · exact k.returnInPhase s d h
      · exact k.setLock s d _ h
    · exact k.flagDomain s d _ _ h
  · exact h

theorem settleFrame (s : State) (d : Dom) (h : P s) : P (s.settleFrame d) := by
  unfold State.settleFrame
  dsimp only
  split
  · split
    · exact k.switchPoint _ d (k.setDom _ d _ (k.setLock s d _ h))
    · exact k.setDom s d _ h
  · exact h

theorem judgeSpacing (s : State) (spacing : Nat) (h : P s) : P (s.judgeSpacing spacing).2 := by
  unfold State.judgeSpacing
  split
  · exact h
  · exact k.choose s _ h

theorem referenceStart (s : State) (d : Dom) (h : P s) : P (s.referenceStart d) := by
  unfold State.referenceStart
  dsimp only
  split
  · exact k.setDom s d _ h
  · exact k.detect _ d (k.setDom _ d _ (k.judgeSpacing s _ h))
  · exact k.setDom s d _ h
  · split
    · exact k.departure s d h
    · split
      · exact k.detect _ d (k.setDom s d _ h)
      · exact k.settleFrame _ d (k.setDom s d _ h)

theorem holdoverFrame (s : State) (d : Dom) (h : P s) : P (s.holdoverFrame d) := by
  unfold State.holdoverFrame
  dsimp only
  split
  · exact k.setLock _ d _ (k.setDom s d _ h)
  · exact k.switchPoint _ d (k.setDom s d _ h)

theorem lockedFrame (s : State) (d : Dom) (follows : Bool) (h : P s) : P (s.lockedFrame d follows) := by
  have switched : P ((s.placeTimer d).switchPoint d) := k.switchPoint _ d (k.setDom s d _ h)
  unfold State.lockedFrame
  dsimp only
  split
  · exact k.lockLoss _ d switched
  · split
    · exact switched
    · exact k.loseReference _ d none switched

theorem loseByTimeout (d : Dom) (s : State) (h : P s) : P (Machine.loseByTimeout d s) := by
  unfold Machine.loseByTimeout
  split
  · split
    · exact k.setDom s d _ h
    · exact k.loseReference s d none h
  · exact h

theorem timerFrame (d : Dom) (follows : Bool) (s : State) (h : P s) : P (Machine.timerFrame d follows s) := by
  unfold Machine.timerFrame
  split
  · exact k.lockedFrame s d follows h
  · split
    · exact k.holdoverFrame s d h
    · exact h
  · exact h

theorem runOpenDomain (domain : Byte) (s : State) (h : P s) : P (Machine.runOpenDomain domain s).2 := by
  unfold Machine.runOpenDomain
  split
  · exact h
  · split
    · exact h
    · exact k.setDom _ _ _ (k.setLock s _ _ h)

end KeptByDelivery

theorem arrive_window (s : State) (d : Dom) (before : List Tag) :
    (s.arrive (.window d before)).1 = s.issueWindow d before := by
  simp only [arrive]

/-! ## Byte streams of the partner links -/

/-- The bytes of a recorder port keep a law that the two replies they may spell keep. -/
theorem recorderBytes_keep {P : State → Prop} (hrx : ∀ s p r, P s → P (s.setRecorderRx p r))
    (hstatus : ∀ s p x, P s → P (s.recorderStatus p x)) (hack : ∀ s p c a, P s → P (s.recorderAck p c a))
    (p : Port) (bytes : List Byte) (s : State) (h : P s) : P (bytes.foldl (State.recorderByte p) s) := by
  have frame (s : State) (f : PartnerFrame) (h : P s) : P (s.recorderFrame p f) := by
    unfold recorderFrame
    split
    · split
      · exact hstatus s p _ h
      · exact h
    · split
      · exact hack s p _ _ h
      · exact h
    · exact h
  induction bytes generalizing s with
  | nil => exact h
  | cons b bytes ih =>
    refine ih _ ?_
    unfold recorderByte
    dsimp only
    split
    · exact frame _ _ (hrx s p _ h)
    · exact hrx s p _ h

/-- The bytes of a wall link keep a law that the two frames they may spell keep. -/
theorem wallBytes_keep {P : State → Prop} (hrx : ∀ s w r, P s → P (s.setWallRx w r))
    (hhello : ∀ s w, P s → P (s.wallHello w)) (hack : ∀ s w n, P s → P (s.wallAck w n))
    (w : Wall) (bytes : List Byte) (s : State) (h : P s) : P (bytes.foldl (State.wallByte w) s) := by
  have frame (s : State) (f : PartnerFrame) (h : P s) : P (s.wallFrame w f) := by
    unfold wallFrame
    split
    · exact hhello s w h
    · exact hack s w _ h
    · exact h
  induction bytes generalizing s with
  | nil => exact h
  | cons b bytes ih =>
    refine ih _ ?_
    unfold wallByte
    dsimp only
    split
    · exact frame _ _ (hrx s w _ h)
    · exact hrx s w _ h

/-- The bytes of a bus transaction keep a law that the three transactions they may spell keep. -/
theorem hearTransaction_keeps {P : State → Prop} (hown : ∀ s d x, P s → P (s.confirmOwn d x))
    (hforeign : ∀ s d x, P s → P (s.confirmForeign d x)) (hanswer : ∀ s d x, P s → P (s.answer d x))
    (bytes : List Byte) (s : State) (h : P s) : P (hearTransaction bytes s) := by
  unfold hearTransaction
  split
  · split
    · exact hown s _ _ h
    · exact hforeign s _ _ h
  · split
    · exact hanswer s _ _ h
    · exact h
  · exact h

end Sys2Proof.Machine
end

section
/-! PROOF. Fires: what judging, admission and the undo stack make of the state (chapter 4), said once for every statement
and law that speaks of a fire. -/

namespace Sys2Proof.Machine

open State

/-! ## A fire refuses and leaves the state, or fires -/

theorem foldl_admitMember_store (f : Firing) (g : Group) (js : List Judged) (s : State) :
    (js.foldl (admitMember f g) s).store = s.store :=
  foldl_keep (fun t => t.store) _ (fun t j => by simp) js s

/-- The passing entries are refused together, or admitted together with the next serial (R66, R67). -/
theorem admitGroup_cases (s : State) (f : Firing) (js : List Judged) (first : Option (Status × Dest)) :
    (∃ code d, s.admitGroup f js first = (.refused code d, s)) ∨
    (∃ b, b ≤ js.length ∧ s.admitGroup f js first = (.fired (s.store.serial + 1) js.length b first,
      js.foldl (admitMember f ⟨f.salvo, s.store.serial + 1, f.mode⟩)
        { s with store := { s.store with serial := s.store.serial + 1 } })) := by
  unfold admitGroup
  dsimp only
  split
  · exact .inl ⟨_, _, rfl⟩
  · exact .inr ⟨_, Nat.sub_le _ _, rfl⟩

/-- The entries of a fire that pass checks 1 to 8, as judged, in stored order (R65). -/
def State.passing (s : State) (f : Firing) (content : List (Dest × Src)) : List Judged :=
  (content.map (s.judge f)).filter Judged.passes

/-- A fire is refused with the state unchanged, or admits its passing entries, of which there is at least one. -/
theorem fireEntries_cases (s : State) (f : Firing) (content : List (Dest × Src)) :
    (∃ code d, s.fireEntries f content = (.refused code d, s)) ∨
    (s.passing f content ≠ [] ∧
      s.fireEntries f content = s.admitGroup f (s.passing f content) (firstFailure (content.map (s.judge f)))) := by
  unfold fireEntries
  dsimp only
  split
  · exact .inl ⟨_, _, rfl⟩
  · rw [show (content.map (s.judge f)).filter Judged.passes = s.passing f content from rfl]
    cases s.passing f content with
    | nil => cases firstFailure (content.map (s.judge f)) <;> exact .inl ⟨_, _, rfl⟩
    | cons j js => exact .inr ⟨List.cons_ne_nil j js, rfl⟩

/-- What a fire that is not refused answers and leaves (R66, R67). -/
theorem fireEntries_fired {s t : State} {f : Firing} {content : List (Dest × Src)} {serial : U16} {a b : Nat}
    {first : Option (Status × Dest)} (h : s.fireEntries f content = (.fired serial a b first, t)) :
    s.passing f content ≠ [] ∧ serial = s.store.serial + 1 ∧ a = (s.passing f content).length ∧ b ≤ a ∧
    t = (s.passing f content).foldl (admitMember f ⟨f.salvo, s.store.serial + 1, f.mode⟩)
      { s with store := { s.store with serial := s.store.serial + 1 } } := by
  obtain ⟨code, d, e⟩ | ⟨hne, e⟩ := fireEntries_cases s f content
  · rw [e] at h; cases h
  · rw [e] at h
    obtain ⟨code, d, e⟩ | ⟨b', hb, e⟩ := admitGroup_cases s f (s.passing f content) (firstFailure (content.map (s.judge f)))
    · rw [e] at h; cases h
    · rw [e] at h; cases h; exact ⟨hne, rfl, rfl, hb, rfl⟩

theorem fireEntries_refused {s t : State} {f : Firing} {content : List (Dest × Src)} {code : Status} {d : Option Dest}
    (h : s.fireEntries f content = (.refused code d, t)) : t = s := by
  obtain ⟨code', d', e⟩ | ⟨hne, e⟩ := fireEntries_cases s f content
  · rw [e] at h; cases h; rfl
  · rw [e] at h
    obtain ⟨code', d', e⟩ | ⟨b', hb, e⟩ := admitGroup_cases s f (s.passing f content) (firstFailure (content.map (s.judge f)))
    · rw [e] at h; cases h; rfl
    · rw [e] at h; cases h

/-- A stored salvo's fire is refused with the state unchanged, or fires its entries and pushes its undo record (R64, R70). -/
theorem fireSalvo_cases (s : State) (n : Salvo) (f : Firing) :
    (∃ code d, s.fireSalvo n f = (.refused code d, s)) ∨
    (∃ serial a b first t, s.fireEntries f (look s.store.salvos n) = (.fired serial a b first, t) ∧
      s.fireSalvo n f = (.fired serial a b first, t.pushUndo ⟨n, s.undoPairs f (look s.store.salvos n)⟩)) := by
  unfold fireSalvo
  split
  · exact .inl ⟨_, _, rfl⟩
  · split
    · exact .inl ⟨_, _, rfl⟩
    · split
      · next hf => exact .inr ⟨_, _, _, _, _, hf, rfl⟩
      · next hfired =>
        cases hr : s.fireEntries f (look s.store.salvos n) with
        | mk result t =>
          cases result with
          | refused code d => exact .inl ⟨code, d, by rw [fireEntries_refused hr]⟩
          | fired serial a b first => exact absurd hr (hfired _ _ _ _ _)

theorem fireEntries_store {s t : State} {f : Firing} {content : List (Dest × Src)} {r : FireResult}
    (h : s.fireEntries f content = (r, t)) :
    t.store = s.store ∨ t.store = { s.store with serial := s.store.serial + 1 } := by
  cases r with
  | refused code d => rw [fireEntries_refused h]; exact .inl rfl
  | fired serial a b first =>
    obtain ⟨-, -, -, -, rfl⟩ := fireEntries_fired h
    exact .inr (foldl_admitMember_store ..)

end Sys2Proof.Machine
end

section
/-! PROOF. The Salvo Store keeps its bounds and the Panel Registry the law of its protect records: what the commands that
touch them make of the salvos, the undo stack, the panels and the records (chapters 3 and 4). -/

namespace Sys2Proof.Machine

open State

/-! ## Salvo memory -/

/-- The lengths of all salvos, summed: one salvo's and the others'. -/
theorem sum_finRange_split {n : Nat} (i : Fin n) (f : Fin n → Nat) :
    ((List.finRange n).map f).sum = f i + (((List.finRange n).filter (fun k => k ≠ i)).map f).sum := by
  have herase : (List.finRange n).erase i = (List.finRange n).filter (fun k => k ≠ i) := by
    rw [(List.nodup_finRange n).erase_eq_filter]
    exact List.filter_congr (fun k _ => by by_cases h : k = i <;> simp [h])
  rw [← herase]
  exact (List.sum_map_erase f (List.mem_finRange i)).symm

/-- The entries held by the salvos other than `n`. -/
def State.memoryOthers (s : State) (n : Salvo) : Nat :=
  (((List.finRange 32).filter (fun k => k ≠ n)).map (fun k => (look s.store.salvos k).length)).sum

theorem toList_eq_map_look {α : Type} {n : Nat} (v : Vector α n) : v.toList = (List.finRange n).map (look v) := by
  apply List.ext_getElem
  · simp
  · intro k h1 h2
    simp [look]

theorem memoryUsed_eq (s : State) :
    s.memoryUsed = ((List.finRange 32).map (fun k => (look s.store.salvos k).length)).sum := by
  rw [memoryUsed, toList_eq_map_look, List.map_map]
  rfl

theorem memoryFor_eq (s : State) (n : Salvo) : s.memoryFor n = 1024 - s.memoryOthers n := by
  unfold memoryFor
  rw [memoryUsed_eq, sum_finRange_split n, salvo, Nat.add_sub_cancel_left]
  rfl

theorem readEntries_length {index : Nat} {content : List (Byte × U16)} {l : List (Dest × Src)}
    (h : readEntries index content = .ok l) : l.length = content.length := by
  induction content generalizing index l with
  | nil => cases h; rfl
  | cons e rest ih =>
    obtain ⟨d, x⟩ := e
    simp only [readEntries] at h
    split at h
    · cases h
    · cases hr : readEntries (index + 2) rest with
      | error i => rw [hr] at h; cases h
      | ok l' =>
        rw [hr] at h
        cases h
        simp [ih hr]

/-- No destination occurs a second time exactly when the destinations are distinct and none is among those seen. -/
theorem secondOccurrence_eq_none {seen l : List Dest} {position : Nat} :
    secondOccurrence seen position l = none ↔ l.Nodup ∧ ∀ d ∈ l, d ∉ seen := by
  induction l generalizing seen position with
  | nil => simp [secondOccurrence]
  | cons d rest ih =>
    unfold secondOccurrence
    by_cases hd : d ∈ seen
    · simp [hd]
    · simp only [List.contains_iff_mem, hd, if_false, ih, List.mem_cons, List.nodup_cons, not_or, forall_eq_or_imp]
      constructor
      · rintro ⟨hn, hs⟩
        exact ⟨⟨fun hm => (hs d hm).1 rfl, hn⟩, not_false, fun e he => (hs e he).2⟩
      · rintro ⟨⟨hm, hn⟩, -, hs⟩
        exact ⟨hn, fun e he => ⟨fun h => hm (h ▸ he), hs e he⟩⟩

/-! ## The Salvo Store keeps its bounds -/

theorem storeLaw_congr {s t : State} (hs : t.store.salvos = s.store.salvos) (hu : t.store.undo = s.store.undo)
    (h : StoreLaw s) : StoreLaw t := by
  unfold StoreLaw at *
  rwa [hs, hu]

/-- A salvo of distinct destinations that fits the memory left by the others keeps the bounds. -/
theorem storeLaw_setSalvo {s : State} {n : Salvo} {l : List (Dest × Src)} (hlen : l.length ≤ 64)
    (hnodup : (l.map Prod.fst).Nodup) (hfits : l.length ≤ s.memoryFor n) (h : StoreLaw s) : StoreLaw (s.setSalvo n l) := by
  obtain ⟨hsalvos, hsum, hundo, hpairs⟩ := h
  refine ⟨fun k => ?_, ?_, hundo, hpairs⟩
  · show (look (put s.store.salvos n l) k).length ≤ 64 ∧ ((look (put s.store.salvos n l) k).map Prod.fst).Nodup
    rw [look_put]
    split
    · exact ⟨hlen, hnodup⟩
    · exact hsalvos k
  · rw [sum_finRange_split n] at hsum ⊢
    have hothers : (((List.finRange 32).filter (fun k => k ≠ n)).map
        (fun k => (look (s.setSalvo n l).store.salvos k).length)).sum = s.memoryOthers n := by
      unfold memoryOthers
      congr 1
      refine List.map_congr_left (fun k hk => ?_)
      have hne : k ≠ n := by simpa using (List.mem_filter.1 hk).2
      show (look (put s.store.salvos n l) k).length = _
      rw [look_put_other _ _ hne]
    have hself : look (s.setSalvo n l).store.salvos n = l := look_put_same ..
    rw [hothers, hself]
    rw [memoryFor_eq] at hfits
    have : (look s.store.salvos n).length + s.memoryOthers n ≤ 1024 := hsum
    omega

theorem storeLaw_emptyUndo {s t : State} (hs : t.store.salvos = s.store.salvos) (hu : t.store.undo = [])
    (h : StoreLaw s) : StoreLaw t := by
  unfold StoreLaw at *
  rw [hs, hu]
  exact ⟨h.1, h.2.1, Nat.zero_le 4, fun u hu => absurd hu List.not_mem_nil⟩

/-- A push keeps at most four records, each of at most 64 pairs (R69, R70). -/
theorem storeLaw_pushUndo {s : State} {u : UndoRec} (hu : u.pairs.length ≤ 64) (h : StoreLaw s) :
    StoreLaw (s.pushUndo u) := by
  obtain ⟨hsalvos, hsum, hundo, hpairs⟩ := h
  refine ⟨hsalvos, hsum, List.length_take_le 4 _, fun v hv => ?_⟩
  obtain rfl | hv := List.mem_cons.1 (List.mem_of_mem_take hv)
  · exact hu
  · exact hpairs v hv

theorem undoPairs_length (s : State) (f : Firing) (content : List (Dest × Src)) :
    (s.undoPairs f content).length ≤ content.length := by
  refine (List.length_filterMap_le _ _).trans ((List.length_filter_le _ _).trans ?_)
  rw [List.length_map]

theorem storeLaw_of_fired {s t : State} {f : Firing} {content : List (Dest × Src)} {r : FireResult}
    (he : s.fireEntries f content = (r, t)) (h : StoreLaw s) : StoreLaw t := by
  obtain e | e := fireEntries_store he
  · exact storeLaw_congr (by rw [e]) (by rw [e]) h
  · exact storeLaw_congr (by rw [e]) (by rw [e]) h

theorem storeLaw_fireSalvo (s : State) (n : Salvo) (f : Firing) (h : StoreLaw s) : StoreLaw (s.fireSalvo n f).2 := by
  obtain ⟨code, d, e⟩ | ⟨serial, a, b, first, t, he, e⟩ := fireSalvo_cases s n f <;> rw [e]
  · exact h
  · exact storeLaw_pushUndo ((undoPairs_length s f _).trans (h.1 n).1) (storeLaw_of_fired he h)

theorem storeLaw_arrive (s : State) (a : Arrival) (h : StoreLaw s) : StoreLaw (s.arrive a).1 := by
  cases a with
  | action k branch a =>
    have carried : StoreLaw (s.carryOut k a).2 := by
      cases a with
      | fireSalvo n => exact storeLaw_fireSalvo s n _ h
      | recorder p c => exact storeLaw_congr (by simp [carryOut]) (by simp [carryOut]) h
      | none => exact h
      | attention => exact h
    show StoreLaw (s.runAction k branch a)
    unfold runAction
    dsimp only
    split
    · exact storeLaw_congr (by simp) (by simp) carried
    · exact storeLaw_congr (by simp) (by simp) carried
  | _ => exact storeLaw_congr (by simp [arrive]) (by simp [arrive]) h

theorem storeLaw_kept : KeptByDelivery StoreLaw where
  setDom _ _ _ := storeLaw_congr (by simp) (by simp)
  setLock _ _ _ := storeLaw_congr (by simp) (by simp)
  flagDomain _ _ _ _ := storeLaw_congr (by simp) (by simp)
  setGpi _ _ _ := storeLaw_congr (by simp) (by simp)
  choose _ _ := storeLaw_congr (by simp) (by simp)
  event s a h := storeLaw_congr (by simp) (by simp) (storeLaw_arrive s a h)

theorem storeLaw_runStoreSalvo (salvo : Byte) (content : List (Byte × U16)) (s : State) (h : StoreLaw s) :
    StoreLaw (runStoreSalvo salvo content s).2 := by
  unfold runStoreSalvo
  split
  · exact h
  · next n _ =>
    split
    · exact h
    · next hsize =>
      split
      · exact h
      · next l hl =>
        unfold storeEntries
        split
        · exact h
        · next hnone =>
          split
          · exact h
          · split
            · exact h
            · next hfits =>
              have hlen := readEntries_length hl
              exact storeLaw_setSalvo (by omega) (secondOccurrence_eq_none.1 hnone).1 (Nat.not_lt.1 hfits) h

theorem storeLaw_runEraseSalvo (salvo : Byte) (s : State) (h : StoreLaw s) : StoreLaw (runEraseSalvo salvo s).2 := by
  unfold runEraseSalvo
  split
  · exact h
  · split
    · exact h
    · split
      · exact h
      · exact storeLaw_setSalvo (Nat.zero_le _) List.nodup_nil (Nat.zero_le _) h

theorem storeLaw_runFireSalvo (salvo panel mode report : Byte) (s : State) (h : StoreLaw s) :
    StoreLaw (runFireSalvo salvo panel mode report s).2 := by
  unfold runFireSalvo
  split
  · exact h
  · exact h
  · exact h
  · next n m r _ _ _ =>
    have fired := storeLaw_fireSalvo s n ⟨panel.toNat, m, r, fieldOrigin panel, some n⟩ h
    split
    · exact h
    · next he =>
      rw [he] at fired
      exact storeLaw_congr (by simp) (by simp) fired

theorem storeLaw_runUndo (panel : Byte) (s : State) (h : StoreLaw s) : StoreLaw (runUndo panel s).2 := by
  unfold runUndo
  split
  · exact h
  · next u rest hu =>
    split
    · exact h
    · next t he =>
      obtain ⟨hsalvos, hsum, hundo, hpairs⟩ := storeLaw_of_fired he h
      have hpopped : ∃ v, t.store.undo = v :: rest := by
        obtain e | e := fireEntries_store he <;> exact ⟨u, by rw [e]; exact hu⟩
      obtain ⟨v, hv⟩ := hpopped
      have popped : StoreLaw { t with store := { t.store with undo := rest } } := by
        refine ⟨hsalvos, hsum, ?_, fun w hw => hpairs w (hv ▸ List.mem_cons_of_mem v hw)⟩
        rw [hv, List.length_cons] at hundo
        exact Nat.le_of_succ_le hundo
      exact storeLaw_congr (by simp) (by simp) popped

theorem storeLaw_reset (x : Straps) (g : Vector GpiRec 8) (n : Nat) (l : List Instr) :
    StoreLaw (State.coldReset x g n l) := by
  refine ⟨fun k => ?_, ?_, Nat.zero_le 4, fun u hu => absurd hu (List.not_mem_nil)⟩
  · simp [State.coldReset, Store.reset]
  · simp [State.coldReset, Store.reset]

theorem storeLaw_requestEffect (c : Instr) (s : State) (h : StoreLaw s) : StoreLaw (requestEffect c s).2 := by
  cases c with
  | storeSalvo tag salvo content => exact storeLaw_runStoreSalvo salvo content s h
  | eraseSalvo tag salvo => exact storeLaw_runEraseSalvo salvo s h
  | fireSalvo tag salvo panel mode report => exact storeLaw_runFireSalvo salvo panel mode report s h
  | undo tag panel => exact storeLaw_runUndo panel s h
  | setGpi tag input debounce => exact storeLaw_kept.runSetGpi input debounce s h
  | readAttention tag =>
    show StoreLaw (runReadAttention s).2
    obtain e | ⟨f, e⟩ | ⟨r, l, -, e⟩ | ⟨i, l, x, -, -, e⟩ := runReadAttention_cases s <;> rw [e] <;>
      exact storeLaw_congr rfl rfl h
  | restart tag =>
    rw [requestEffect_restart]
    exact storeLaw_emptyUndo (by simp [restarted]) (by simp [restarted]) h
  | _ => exact storeLaw_congr (by simp [requestEffect]) (by simp [requestEffect]) h

theorem storeLaw_recorderStatus (s : State) (p : Port) (x : RecorderState) (h : StoreLaw s) :
    StoreLaw (s.recorderStatus p x) := by
  unfold recorderStatus
  dsimp only
  split
  · exact storeLaw_kept.raise _ _ (storeLaw_congr (by simp) (by simp) h)
  · exact h

theorem storeLaw_endGuard (s : State) (p : Port) (h : StoreLaw s) : StoreLaw (s.endGuard p) := by
  unfold State.endGuard
  split
  · exact storeLaw_kept.raise _ _ (storeLaw_congr (by simp) (by simp) h)
  · exact h

theorem storeLaw_eventEffect (c : Instr) (s : State) (h : StoreLaw s) : StoreLaw (eventEffect c s) := by
  cases c with
  | coldReset m a b => exact storeLaw_reset ..
  | referenceFrameStart d => exact storeLaw_kept.referenceStart s d h
  | referenceLossTimeout d => exact storeLaw_kept.loseByTimeout d s h
  | timerFrameStart d follows => exact storeLaw_kept.timerFrame d follows s h
  | gpiPinChange i high => exact storeLaw_kept.gpiPin s i high h
  | debounceExpiry i => exact storeLaw_kept.judgeCandidate s i h
  | status p x => exact storeLaw_recorderStatus s p x h
  | guardEnd p => exact storeLaw_endGuard s p h
  | recorderReplyDiscarded p bytes =>
    exact recorderBytes_keep (fun _ _ _ => storeLaw_congr (by simp) (by simp)) storeLaw_recorderStatus
      (fun _ _ _ _ => storeLaw_congr (by simp) (by simp)) p bytes s h
  | verifyInterval =>
    show StoreLaw (if s.verifyDue then s.beginVerify else s)
    split
    · exact storeLaw_congr (by simp) (by simp) h
    · exact h
  | partnerByteGap l =>
    show StoreLaw (s.partnerGap l)
    rw [partnerGap_eq]
    exact h
  | _ => exact storeLaw_congr (by unfold eventEffect; simp) (by unfold eventEffect; simp) h

end Sys2Proof.Machine
end

section
/-! PROOF. Protect records stay with their holders (chapter 3), and with the Salvo Store's bounds the statement on both. -/

namespace Sys2Proof.Machine

open State

/-! ## The law of one record -/

/-- R49: what the law asks of a record, the panels being as given. -/
def RecordLaw (panels : Vector PanelRec 64) (q : Protect) : Prop :=
  (q.holder = 0 ∨ ((look panels q.holder).enrolled = true ∧ (look panels q.holder).level ≤ q.level)) ∧
  (q.kind = .protect → q.restore = false)

theorem protectLaw_iff (s : State) : ProtectLaw s ↔ ∀ d q, s.protectOf d = some q → RecordLaw s.registry.panels q := Iff.rfl

theorem protectLaw_congr {s t : State} (e : t.registry = s.registry) (h : ProtectLaw s) : ProtectLaw t := by
  unfold ProtectLaw protectOf at *
  rwa [e]

/-- A record deleted or written within the law keeps it. -/
theorem protectLaw_setProtect {s : State} {d : Dest} {p : Option Protect}
    (hp : ∀ q, p = some q → RecordLaw s.registry.panels q) (h : ProtectLaw s) : ProtectLaw (s.setProtect d p) := by
  refine (protectLaw_iff _).2 (fun e q hq => ?_)
  have hq' : look (put s.registry.protects d p) e = some q := hq
  rw [look_put] at hq'
  split at hq'
  · exact hp q hq'
  · exact h e q hq'

/-- A panel's record written anew keeps the law if the records the panel still holds obey it. -/
theorem protectLaw_setPanel {s : State} {p : Panel} {r : PanelRec}
    (hp : ∀ d q, s.protectOf d = some q → q.holder = p → p = 0 ∨ (r.enrolled = true ∧ r.level ≤ q.level))
    (h : ProtectLaw s) : ProtectLaw (s.setPanel p r) := by
  refine (protectLaw_iff _).2 (fun d q hq => ?_)
  obtain ⟨hholder, hkind⟩ := h d q hq
  refine ⟨?_, hkind⟩
  by_cases hqp : q.holder = p
  · have hself : look (s.setPanel p r).registry.panels q.holder = r := by rw [hqp]; exact look_put_same ..
    rw [hself, hqp]
    exact hp d q hq hqp
  · have hother : look (s.setPanel p r).registry.panels q.holder = look s.registry.panels q.holder :=
      look_put_other _ _ hqp
    rwa [hother]

/-- Releasing records keeps the law of those that are left. -/
theorem protectLaw_release (p : Panel) (why : ReleaseReason) (l : List Dest) {s : State} (h : ProtectLaw s) :
    ProtectLaw (l.foldl (State.releaseProtect p why) s) := by
  induction l generalizing s with
  | nil => exact h
  | cons d l ih => exact ih (protectLaw_setProtect (fun q hq => by cases hq) h)

/-- A record that stands after a release was not on the released list. -/
theorem protectOf_released {p : Panel} {why : ReleaseReason} {l : List Dest} {s : State} {d : Dest} {q : Protect}
    (hq : (l.foldl (State.releaseProtect p why) s).protectOf d = some q) : d ∉ l ∧ s.protectOf d = some q := by
  obtain ⟨-, hdest⟩ := foldl_releaseProtect p why l s
  by_cases hd : d ∈ l
  · rw [((hdest d).1 hd).1] at hq; cases hq
  · exact ⟨hd, by rw [← ((hdest d).2 hd).1]; exact hq⟩

/-! ## The requests of the registry keep the law -/

theorem asPanelId_ne_zero {b : Byte} {p : Panel} (h : asPanelId b = some p) : p ≠ 0 := by
  unfold asPanelId at h
  split at h
  · cases h
  · next hb =>
    rintro rfl
    have hz : b.toNat = 0 := below_eq_some.1 h
    exact hb (BitVec.eq_of_toNat_eq hz)

theorem protectLaw_runEnrolPanel (panel level : Byte) (s : State) (h : ProtectLaw s) :
    ProtectLaw (runEnrolPanel panel level s).2 := by
  unfold runEnrolPanel
  split
  · exact h
  · exact h
  · next p l hp _ =>
    split
    · exact h
    · next hne =>
      refine protectLaw_setPanel (fun d q hq hqp => ?_) h
      obtain hz | ⟨henrolled, -⟩ := (h d q hq).1
      · exact .inl (hqp ▸ hz)
      · exact absurd (hqp ▸ henrolled) hne

theorem protectLaw_runSetPanelLevel (panel level : Byte) (s : State) (h : ProtectLaw s) :
    ProtectLaw (runSetPanelLevel panel level s).2 := by
  unfold runSetPanelLevel
  split
  · exact h
  · exact h
  · next p l _ _ =>
    dsimp only
    split
    · next henrolled =>
      refine protectLaw_setPanel (fun d q hq hqp => .inr ⟨henrolled, ?_⟩) (protectLaw_release p .demotion _ h)
      obtain ⟨hkept, hq⟩ := protectOf_released hq
      have hstronger : d ∉ s.leftStronger p l := hkept
      by_contra hlt
      have hlt : q.level < l := not_le.1 hlt
      refine hstronger ((mem_leftStronger s p l d).2 ⟨?_, q, hq, hqp, hlt⟩)
      obtain hz | ⟨-, hle⟩ := (h d q hq).1
      · exact absurd (hqp ▸ hz) (asPanelId_ne_zero ‹_›)
      · exact lt_of_le_of_lt (hqp ▸ hle) hlt
    · exact h

theorem protectLaw_runWithdrawPanel (panel : Byte) (s : State) (h : ProtectLaw s) :
    ProtectLaw (runWithdrawPanel panel s).2 := by
  unfold runWithdrawPanel
  split
  · exact h
  · next p _ =>
    dsimp only
    split
    · refine protectLaw_setPanel (fun d q hq hqp => ?_) (protectLaw_release p .withdrawal _ h)
      obtain ⟨hkept, hq⟩ := protectOf_released hq
      exact absurd ((mem_heldBy s p _ d).2 ⟨q, hq, hqp, rfl⟩) hkept
    · exact h

/-- A panel that a request's field names with its level is panel 0 or enrolled at that level (R44). -/
theorem fieldLevel_authority {s : State} {b : Nat} {p : Panel} {l : Level} (h : s.fieldLevel b = some (p, l)) :
    p = 0 ∨ ((look s.registry.panels p).enrolled = true ∧ (look s.registry.panels p).level = l) := by
  unfold fieldLevel at h
  split at h
  · next p' _ =>
    obtain ⟨l', hl, he⟩ := Option.map_eq_some_iff.1 h
    cases he
    unfold panelLevel at hl
    split at hl
    · next hz => exact .inl hz
    · dsimp only at hl
      split at hl
      · next henrolled => cases hl; exact .inr ⟨henrolled, rfl⟩
      · cases hl
  · cases h

theorem protectLaw_runProtectDest (dest panel kind level restore : Byte) (s : State) (h : ProtectLaw s) :
    ProtectLaw (runProtectDest dest panel kind level restore s).2 := by
  unfold runProtectDest
  split
  · exact h
  · exact h
  · exact h
  · next k l r _ _ _ =>
    split
    · exact h
    · next hkind =>
      unfold protectRequest
      split
      · exact h
      · next p own hfield =>
        split
        · exact h
        · next hown =>
          have hrecord : RecordLaw s.registry.panels ⟨p, k, l, r⟩ := by
            refine ⟨(fieldLevel_authority hfield).imp_right (fun ⟨he, hl⟩ => ⟨he, hl ▸ not_lt.1 hown⟩), fun hk => ?_⟩
            by_contra hr
            exact hkind ⟨hk, by simpa using hr⟩
          have written := protectLaw_setProtect (d := dest.toFin) (p := some ⟨p, k, l, r⟩)
            (fun q hq => by cases hq; exact hrecord) h
          split
          · exact h
          · split
            · split
              · exact written
              · exact h
            · exact written

theorem protectLaw_runReleaseDest (dest panel : Byte) (s : State) (h : ProtectLaw s) :
    ProtectLaw (runReleaseDest dest panel s).2 := by
  have freed : ProtectLaw (s.setProtect dest.toFin none) := protectLaw_setProtect (fun q hq => by cases hq) h
  unfold runReleaseDest
  dsimp only
  split
  · exact h
  · exact h
  · split
    · exact freed
    · split
      · exact protectLaw_congr (by simp [releaseProtect]) freed
      · exact h

theorem protectLaw_of_no_record {s : State} (h : s.registry.protects = Vector.replicate 256 none) : ProtectLaw s := by
  intro d q hq
  rw [protectOf_def, h, look_replicate] at hq
  cases hq

/-! ## Every command keeps it -/

theorem protectLaw_requestEffect (c : Instr) (s : State) (h : ProtectLaw s) : ProtectLaw (requestEffect c s).2 := by
  cases c with
  | enrolPanel tag panel level => exact protectLaw_runEnrolPanel panel level s h
  | setPanelLevel tag panel level => exact protectLaw_runSetPanelLevel panel level s h
  | withdrawPanel tag panel => exact protectLaw_runWithdrawPanel panel s h
  | setZone tag zone level =>
    show ProtectLaw (runSetZone zone level s).2
    unfold runSetZone
    split <;> exact h
  | protectDest tag dest panel kind level restore => exact protectLaw_runProtectDest dest panel kind level restore s h
  | releaseDest tag dest panel => exact protectLaw_runReleaseDest dest panel s h
  | readAttention tag =>
    show ProtectLaw (runReadAttention s).2
    obtain e | ⟨f, e⟩ | ⟨r, l, -, e⟩ | ⟨i, l, x, -, -, e⟩ := runReadAttention_cases s <;> rw [e] <;> exact h
  | restart tag =>
    rw [requestEffect_restart]
    exact protectLaw_of_no_record (by simp [restarted])
  | _ => exact protectLaw_congr (by simp [requestEffect]) h

theorem protectLaw_eventEffect (c : Instr) (s : State) (h : ProtectLaw s) : ProtectLaw (eventEffect c s) := by
  cases c with
  | coldReset m a b => exact protectLaw_of_no_record rfl
  | verifyInterval =>
    show ProtectLaw (if s.verifyDue then s.beginVerify else s)
    split <;> exact h
  | partnerByteGap l =>
    show ProtectLaw (s.partnerGap l)
    rw [partnerGap_eq]
    exact h
  | _ => exact protectLaw_congr (by unfold eventEffect; simp) h

/-- Settles O56: no command but the store's own touches the salvos and the undo stack, none but the registry's own the
panels and the records, and each of these keeps its law. -/
theorem stepKeepsStoreAndProtectLaws : Obligations.StepKeepsStoreAndProtectLaws := by
  unfold Obligations.StepKeepsStoreAndProtectLaws
  intro s hstore hprotect t ht
  exact ⟨step_keeps (fun _ _ _ h => h) (fun _ h => h)
      (exec_keeps_of_effects (fun _ _ h => h) storeLaw_requestEffect storeLaw_eventEffect) s hstore t ht,
    step_keeps (fun _ _ _ h => h) (fun _ h => h)
      (exec_keeps_of_effects (fun _ _ h => h) protectLaw_requestEffect protectLaw_eventEffect) s hprotect t ht⟩

end Sys2Proof.Machine
end

section
/-! PROOF. The issue window keeps a law that its moves keep: one pass over its stages and one induction over the selection
walk (chapter 6.3). -/

namespace Sys2Proof.Machine

open State

/-- A fold keeps a law that each of its steps keeps. -/
theorem foldl_keeps {α β : Type} {P : β → Prop} {f : β → α → β} (hf : ∀ s a, P s → P (f s a)) (l : List α) (s : β)
    (h : P s) : P (l.foldl f s) := by
  induction l generalizing s with
  | nil => exact h
  | cons a l ih => exact ih _ (hf s a h)

/-- The moves of the selection walk of domain `d`, each of which keeps the law. -/
structure KeptByWalk (P : State → Prop) (d : Dom) : Prop where
  retest : ∀ s i, P s → P (s.retestSlot i)
  fail : ∀ s i, P s → P (s.endTake i .condFailed)
  issue : ∀ s i, P s → P (issue d s i)

namespace KeptByWalk

variable {P : State → Prop} {d : Dom} (k : KeptByWalk P d)

include k

theorem issueAll (g : Grant) (is : List Slot) (h : P g.state) : P (issueAll d g is).state := foldl_keeps k.issue is _ h

theorem walkSingle (g : Grant) (i : Slot) (h : P g.state) : P (walkSingle d g i).state := by
  have tested := k.retest g.state i h
  unfold State.walkSingle
  dsimp only
  split
  · exact tested
  · split
    · exact k.fail _ i tested
    · exact k.issueAll _ _ tested

theorem walkRun (g : Grant) (run : List Slot) (h : P g.state) : P (walkRun d g run).1.state := by
  have tested : P (run.foldl retestSlot g.state) := foldl_keeps k.retest run _ h
  unfold State.walkRun
  dsimp only
  split
  · exact tested
  · split
    · exact foldl_keeps k.fail run _ tested
    · split
      · exact k.issueAll _ _ tested
      · split
        · exact k.issueAll _ _ tested
        · exact tested

theorem walk (fuel : Nat) (g : Grant) (q : List Slot) (h : P g.state) : P (walk d fuel g q).state := by
  induction fuel generalizing g q with
  | zero => exact h
  | succ fuel ih =>
    cases q with
    | nil => exact h
    | cons i rest =>
      unfold State.walk
      split
      · exact h
      · split
        · exact ih _ _ (k.walkSingle g i h)
        · next run _ =>
          have ran := k.walkRun g run h
          split
          · next he => rw [he] at ran; exact ih _ _ ran
          · next he => rw [he] at ran; exact ran

theorem selectTakes (g : Grant) (before : List Tag) (h : P g.state) : P (selectTakes g d before).state :=
  k.walk _ g _ h

end KeptByWalk

/-- The moves of a whole window of domain `d`, each of which keeps the law; a transfer that joins the bus is not empty. -/
structure KeptByWindow (P : State → Prop) (d : Dom) : Prop extends KeptByWalk P d where
  dropTimers : ∀ s, P s → P (s.dropTimers d)
  judge : ∀ s i, P s → P (judgeDeadline d s i)
  cursor : ∀ s l, P s → P (s.moveCursor d l)
  retries : ∀ g, P g.state → P (grantRetries g d).state

/-- A window keeps such a law up to its last stages: what it leaves is the ordinary scrub's debt, and its transfer. -/
theorem KeptByWindow.window {P : State → Prop} {d : Dom} (k : KeptByWindow P d)
    (hforced : ∀ s, P s → P (s.setDebt d 0))
    (hdebt : ∀ (g : Grant) l, P g.state → P (ordinaryScrub g d l).state)
    (hsend : ∀ s (ws : List BusWrite), P s → P { s with bus := { s.bus with transfers := s.bus.transfers ++ [ws] } })
    (s : State) (before : List Tag) (h : P s) : P (s.issueWindow d before) := by
  have judged : P ((s.dropTimers d).judgeDeadlines d) := foldl_keeps k.judge _ _ (k.dropTimers s h)
  have forced : P (((s.dropTimers d).judgeDeadlines d).forcedScrub d).state := by
    unfold forcedScrub
    dsimp only
    split
    · exact hforced _ (k.cursor _ _ judged)
    · exact k.cursor _ _ judged
  have granted := hdebt _ (((s.dropTimers d).judgeDeadlines d).forcedDests d)
    (k.selectTakes _ before (k.retries _ forced))
  unfold issueWindow
  dsimp only
  split
  · exact granted
  · exact hsend _ _ granted

end Sys2Proof.Machine
end

section
/-! PROOF. The wall links keep their law: what marking, sending and the frames of a link make of its record, and that every
command leaves no hand-over unserved (chapter 7). -/

namespace Sys2Proof.Machine

open State

/-! ## One wall record -/

/-- What WallLaw asks of a record, but for the rule that an IDLE link has sent all it had. -/
structure WallSound (r : WallRec) : Prop where
  nodup : r.queue.Nodup
  outstanding : r.outstanding.isSome = true ↔ r.link = .awaitAck
  frame : ∀ f, r.outstanding = some f → f.number = r.number ∧ f.tiles.length ≤ 8 ∧ f.tiles ≠ []

/-- What WallLaw asks of one record. -/
def WallRecLaw (r : WallRec) : Prop := WallSound r ∧ (r.link = .idle → r.queue = [])

/-- WallLaw without its rule on hand-overs: every wall's record obeys the law. -/
def WallsLaw (s : State) : Prop := ∀ w, WallRecLaw (s.wall w)

theorem wallLaw_iff (s : State) : WallLaw s ↔ s.handed = [] ∧ WallsLaw s :=
  ⟨fun ⟨hh, hw⟩ => ⟨hh, fun w => ⟨⟨(hw w).1, (hw w).2.1, (hw w).2.2.2⟩, (hw w).2.2.1⟩⟩,
    fun ⟨hh, hw⟩ => ⟨hh, fun w => ⟨(hw w).1.nodup, (hw w).1.outstanding, (hw w).2, (hw w).1.frame⟩⟩⟩

theorem wallsLaw_congr {s t : State} (e : t.walls = s.walls) (h : WallsLaw s) : WallsLaw t := by
  unfold WallsLaw State.wall at *
  rwa [e]

theorem wallLaw_congr {s t : State} (e : t.walls = s.walls) (eh : t.handed = s.handed) (h : WallLaw s) : WallLaw t :=
  (wallLaw_iff t).2 ⟨eh.trans ((wallLaw_iff s).1 h).1, wallsLaw_congr e ((wallLaw_iff s).1 h).2⟩

theorem enqueueTiles_nodup {q marks : List Tile} (hq : q.Nodup) (hm : marks.Nodup) : (enqueueTiles q marks).Nodup := by
  refine List.nodup_append'.2 ⟨hq, hm.filter _, fun t ht hf => ?_⟩
  have := (List.mem_filter.1 hf).2
  simp [ht] at this

theorem tilesWhere_nodup (r : WallRec) (p : Binding → Bool) : (r.tilesWhere p).Nodup := by
  unfold WallRec.tilesWhere
  rw [filter_entries]
  exact (List.nodup_finRange _).filter _

/-- Tiles that join the queue keep a record sound. -/
theorem WallSound.enqueue {r : WallRec} (h : WallSound r) (p : Binding → Bool) :
    WallSound { r with queue := enqueueTiles r.queue (r.tilesWhere p) } :=
  ⟨enqueueTiles_nodup h.nodup (tilesWhere_nodup r p), h.outstanding, h.frame⟩

/-- A link that is not IDLE, or has nothing to send, leaves a sound record lawful. -/
theorem WallSound.lawful {r : WallRec} (h : WallSound r) (hq : ¬ (r.link = .idle ∧ r.queue ≠ [])) : WallRecLaw r :=
  ⟨h, fun hl => by by_contra hne; exact hq ⟨hl, hne⟩⟩

/-- What an IDLE link has sent is one frame of 1 to 8 tiles with the link's next number (R127). -/
theorem wallRecLaw_afterUpdate (s : State) {r : WallRec} (h : WallSound r) (hne : r.queue ≠ []) :
    WallRecLaw (afterUpdate s r r.queue) := by
  refine ⟨⟨h.nodup.sublist (List.drop_sublist 8 _), by simp [afterUpdate], fun f hf => ?_⟩, fun hl => by cases hl⟩
  obtain rfl : ⟨r.number + 1, r.queue.take 8, s.now⟩ = f := Option.some.inj hf
  exact ⟨rfl, List.length_take_le 8 _, by simpa using hne⟩

/-- An outstanding frame that is gone leaves a sound record, unless the link awaits it still (R128, R129). -/
theorem WallSound.dropped {r : WallRec} (h : WallSound r) {l : WallState} (hl : l ≠ .awaitAck) :
    WallSound { r with outstanding := none, link := l } :=
  ⟨h.nodup, by simp [hl], fun f hf => by cases hf⟩

/-! ## One wall of the state -/

theorem wall_setWall_other (s : State) {w v : Wall} (r : WallRec) (h : v ≠ w) : (s.setWall w r).wall v = s.wall v :=
  look_put_other _ _ h

/-- A sound record written to a wall is lawful once the link has been let send. -/
theorem wallsLaw_sendUpdate_setWall {s : State} {w : Wall} {r : WallRec} (hr : WallSound r) (h : WallsLaw s) :
    WallsLaw ((s.setWall w r).sendUpdate w) := by
  have written (r' : WallRec) (hr' : WallRecLaw r') : WallsLaw (s.setWall w r') := fun v => by
    by_cases hv : v = w
    · rw [hv, wall_setWall]; exact hr'
    · rw [wall_setWall_other s r' hv]; exact h v
  by_cases hsend : r.link = .idle ∧ r.queue ≠ []
  · rw [sendUpdate_setWall_of_idle hsend.1 hsend.2]
    exact written _ (wallRecLaw_afterUpdate s hr hsend.2)
  · rw [sendUpdate_quiet _ _ (by rw [wall_setWall]; tauto)]
    exact written r (hr.lawful hsend)

theorem wallsLaw_markSend (handed : List Handed) (s : State) (w : Wall) (h : WallsLaw s) :
    WallsLaw ((s.markWall handed w).sendUpdate w) :=
  wallsLaw_sendUpdate_setWall ((h w).1.enqueue _) h

/-- Serving the walls leaves no hand-over, and every link lawful (R124, R127). -/
theorem wallLaw_settleWalls {s : State} (h : WallsLaw s) : WallLaw s.settleWalls := by
  unfold settleWalls
  split
  · next hh => exact (wallLaw_iff s).2 ⟨hh, h⟩
  · refine (wallLaw_iff _).2 ⟨?_, ?_⟩
    · exact foldl_keep (fun t => t.handed) _ (fun t w => by simp) _ _
    · exact foldl_keeps (P := WallsLaw) (fun t w ht => wallsLaw_markSend s.handed t w ht) _ _ h

theorem wallLaw_settle {s : State} (h : WallsLaw s) : WallLaw s.settle :=
  wallLaw_settleWalls (wallsLaw_congr (by simp) h)

theorem wallLaw_sendUpdate_setWall {s : State} {w : Wall} {r : WallRec} (hr : WallSound r) (h : WallLaw s) :
    WallLaw ((s.setWall w r).sendUpdate w) :=
  (wallLaw_iff _).2 ⟨by simpa using ((wallLaw_iff s).1 h).1, wallsLaw_sendUpdate_setWall hr ((wallLaw_iff s).1 h).2⟩

theorem WallLaw.sound {s : State} (h : WallLaw s) (w : Wall) : WallSound (s.wall w) := (((wallLaw_iff s).1 h).2 w).1

/-! ## The frames, timeouts and requests of a wall -/

/-- The record a HELLO or a refresh leaves before the link is let send. -/
theorem refreshWall_eq (s : State) (w : Wall) :
    s.refreshWall w = s.setWall w { s.wall w with
      queue := enqueueTiles (s.wall w).queue ((s.wall w).tilesWhere (fun b => decide (b ≠ .none)))
      link := if (s.wall w).link = .stalled then .idle else (s.wall w).link } := by
  unfold refreshWall fullRefresh
  simp only [wall_setWall, setWall_setWall]
  by_cases hs : (s.wall w).link = .stalled
  · rw [if_pos hs, if_pos hs]
  · rw [if_neg hs, if_neg hs]

theorem WallSound.refreshed {r : WallRec} (h : WallSound r) : WallSound { r with
    queue := enqueueTiles r.queue (r.tilesWhere (fun b => decide (b ≠ .none)))
    link := if r.link = .stalled then .idle else r.link } := by
  refine ⟨enqueueTiles_nodup h.nodup (tilesWhere_nodup r _), ?_, h.frame⟩
  dsimp only
  rw [h.outstanding]
  split
  · next hs => simp [hs]
  · rfl

theorem wallLaw_refreshSend (s : State) (w : Wall) (h : WallLaw s) : WallLaw ((s.refreshWall w).sendUpdate w) := by
  rw [refreshWall_eq]
  exact wallLaw_sendUpdate_setWall (h.sound w).refreshed h

theorem wallHello_eq (s : State) (w : Wall) :
    s.wallHello w = ((s.flagWall w .idle).setWall w { s.wall w with
      outstanding := none
      queue := enqueueTiles (s.wall w).queue ((s.wall w).tilesWhere (fun b => decide (b ≠ .none)))
      link := .idle }).sendUpdate w := by
  unfold wallHello fullRefresh
  simp only [wall_setWall, setWall_setWall]
  rfl

theorem wallLaw_wallHello (s : State) (w : Wall) (h : WallLaw s) : WallLaw (s.wallHello w) := by
  rw [wallHello_eq]
  refine wallLaw_sendUpdate_setWall ?_ (wallLaw_congr rfl rfl h)
  exact ((h.sound w).enqueue _).dropped (by decide)

theorem wallLaw_wallAck (s : State) (w : Wall) (n : Byte) (h : WallLaw s) : WallLaw (s.wallAck w n) := by
  unfold wallAck
  split
  · exact wallLaw_sendUpdate_setWall ((h.sound w).dropped (by decide)) h
  · exact h

theorem wallLaw_setWall {s : State} {w : Wall} {r : WallRec} (hr : WallRecLaw r) (h : WallLaw s) :
    WallLaw (s.setWall w r) := by
  refine (wallLaw_iff _).2 ⟨by simpa using ((wallLaw_iff s).1 h).1, fun v => ?_⟩
  by_cases hv : v = w
  · rw [hv, wall_setWall]; exact hr
  · rw [wall_setWall_other s r hv]; exact ((wallLaw_iff s).1 h).2 v

theorem wallLaw_ackTimeout (s : State) (w : Wall) (h : WallLaw s) : WallLaw (s.ackTimeout w) := by
  unfold State.ackTimeout
  split
  · refine wallLaw_congr (by simp) (by simp) (?_ : WallLaw (s.dropFrame w .stalled))
    exact wallLaw_setWall ((h.sound w).dropped (by decide) |>.lawful (fun hl => by cases hl.1)) h
  · exact h

theorem wallLaw_bindTile (s : State) (w : Wall) (t : Tile) (b : Binding) (h : WallLaw s) : WallLaw (s.bindTile w t b) := by
  refine wallLaw_sendUpdate_setWall ⟨enqueueTiles_nodup (h.sound w).nodup (List.nodup_singleton t), ?_, ?_⟩ h
  · exact (h.sound w).outstanding
  · exact (h.sound w).frame

/-! ## RESTART -/

/-- With every frame queue empty a closing domain flushes nothing. -/
theorem onlyHeld_of_empty {s : State} {d : Dom} (h : s.queue d = []) : s.onlyHeld d = false := by
  simp [onlyHeld, h]

theorem serveClosing_of_empty {s : State} {d : Dom} (h : s.queue d = []) :
    s.serveClosing d = if (s.dom d).closing.isSome then s.closeIfEmpty d else s := by
  unfold serveClosing
  rw [onlyHeld_of_empty h]
  rfl

theorem closeIfEmpty_handed (s : State) (d : Dom) : (s.closeIfEmpty d).handed = s.handed := by
  unfold closeIfEmpty
  split <;> simp

theorem closeIfEmpty_queue (s : State) (d e : Dom) : (s.closeIfEmpty d).queue e = s.queue e := by
  unfold closeIfEmpty
  split
  · rfl
  · unfold setLock domainStop
    dsimp only
    split <;> rfl

/-- Serving the closings of a state with empty frame queues hands nothing over. -/
theorem serveClosings_of_empty {s : State} (h : ∀ d, s.queue d = []) :
    s.serveClosings.handed = s.handed ∧ ∀ d, s.serveClosings.queue d = [] := by
  have one (t : State) (d : Dom) (ht : t.handed = s.handed ∧ ∀ e, t.queue e = []) :
      (t.serveClosing d).handed = s.handed ∧ ∀ e, (t.serveClosing d).queue e = [] := by
    rw [serveClosing_of_empty (ht.2 d)]
    split
    · exact ⟨(closeIfEmpty_handed t d).trans ht.1, fun e => (closeIfEmpty_queue t d e).trans (ht.2 e)⟩
    · exact ht
  exact one _ 3 (one _ 2 (one _ 1 (one _ 0 ⟨rfl, h⟩)))

theorem restarted_queue (s : State) (d : Dom) : s.restarted.queue d = [] := look_replicate ..

theorem wallLaw_restart (s : State) (h : WallLaw s) : WallLaw s.restarted.serveClosings.refreshWalls := by
  refine foldl_keeps wallLaw_refreshSend _ _ ?_
  exact wallLaw_congr (by simp [restarted]) ((serveClosings_of_empty (restarted_queue s)).1) h

/-! ## Every command serves what it hands over -/

/-- A command that settles what it has done to other records leaves the law. -/
theorem wallLaw_settled {s u : State} (e : u.walls = s.walls) (h : WallLaw s) : WallLaw u.settle :=
  wallLaw_settle (wallsLaw_congr e ((wallLaw_iff s).1 h).2)

theorem wallLaw_served {s u : State} (e : u.walls = s.walls) (h : WallLaw s) : WallLaw u.settleWalls :=
  wallLaw_settleWalls (wallsLaw_congr e ((wallLaw_iff s).1 h).2)

theorem wallLaw_kept : KeptByDelivery WallLaw where
  setDom _ _ _ := wallLaw_congr (by simp) (by simp)
  setLock _ _ _ := wallLaw_congr (by simp) (by simp)
  flagDomain _ _ _ _ := wallLaw_congr (by simp) (by simp)
  setGpi _ _ _ := wallLaw_congr (by simp) (by simp)
  choose _ _ := wallLaw_congr (by simp) (by simp)
  event _ _ := wallLaw_settled (by simp)

theorem admitTake_walls {s t : State} {q : AdmitFields} {a : Admitted} (h : s.admitTake q = some (a, t)) :
    t.walls = s.walls := by
  obtain ⟨-, -, -, -, -, -, -, hw, -⟩ := admitTake_frame h
  exact hw

theorem fireSalvo_walls (s : State) (n : Salvo) (f : Firing) : (s.fireSalvo n f).2.walls = s.walls := by simp

theorem fireEntries_walls (s : State) (f : Firing) (l : List (Dest × Src)) : (s.fireEntries f l).2.walls = s.walls := by
  simp

theorem wallLaw_runTake (dest source : U16) (panel : Byte) (c : OptField U16) (r : Byte) (s : State) (h : WallLaw s) :
    WallLaw (runTake dest source panel c r s).2 := by
  unfold runTake
  split
  · exact h
  · exact h
  · unfold admitRequest
    split
    · exact h
    · split
      · exact h
      · next ha => exact wallLaw_settled (admitTake_walls ha) h

theorem wallLaw_runCancelTake (slot gen : Byte) (s : State) (h : WallLaw s) :
    WallLaw (runCancelTake slot gen s).2 := by
  unfold runCancelTake
  split
  · exact h
  · split
    · split
      · exact wallLaw_settled (by simp) h
      · exact h
    · exact h
    · exact h

theorem wallLaw_runFireSalvo (salvo panel mode report : Byte) (s : State) (h : WallLaw s) :
    WallLaw (runFireSalvo salvo panel mode report s).2 := by
  unfold runFireSalvo
  split
  · exact h
  · exact h
  · exact h
  · next n m r _ _ _ =>
    have kept := fireSalvo_walls s n ⟨panel.toNat, m, r, fieldOrigin panel, some n⟩
    split
    · exact h
    · next he =>
      rw [he] at kept
      exact wallLaw_settled kept h

theorem wallLaw_runUndo (panel : Byte) (s : State) (h : WallLaw s) : WallLaw (runUndo panel s).2 := by
  unfold runUndo
  split
  · exact h
  · next u rest _ =>
    have kept := fireEntries_walls s ⟨panel.toNat, .partialMode, false, .undo, none⟩ u.pairs
    split
    · exact h
    · next he =>
      rw [he] at kept
      exact wallLaw_settled kept h

theorem wallLaw_runCloseDomain (domain mode : Byte) (s : State) (h : WallLaw s) :
    WallLaw (runCloseDomain domain mode s).2 := by
  unfold runCloseDomain
  split
  · exact h
  · exact h
  · split
    · exact h
    · unfold closeDomain
      dsimp only
      split <;> exact wallLaw_settled (by simp) h

theorem wallLaw_runClearFault (dest : Byte) (s : State) (h : WallLaw s) : WallLaw (runClearFault dest s).2 := by
  unfold runClearFault
  dsimp only
  split
  · exact wallLaw_served (by simp) h
  · exact h

theorem wallLaw_runSetSourceLabel (source : U16) (label : TextField) (s : State) (h : WallLaw s) :
    WallLaw (runSetSourceLabel source label s).2 := by
  unfold runSetSourceLabel
  split
  · exact h
  · split
    · exact wallLaw_served (by simp) h
    · exact h

theorem wallLaw_runSetDestConfig (dest : Byte) (name : TextField) (domain zone role : Byte) (s : State) (h : WallLaw s) :
    WallLaw (runSetDestConfig dest name domain zone role s).2 := by
  unfold runSetDestConfig
  dsimp only
  split
  · exact h
  · split
    · exact h
    · exact h
    · exact h
    · split
      · exact h
      · exact wallLaw_served (by simp) h

theorem wallLaw_runBindRecorder (port : Byte) (dest : OptField Byte) (policy event guardTime pollTimeout : Byte) (s : State)
    (h : WallLaw s) : WallLaw (runBindRecorder port dest policy event guardTime pollTimeout s).2 := by
  unfold runBindRecorder
  split
  · exact h
  · exact h
  · exact h
  · split
    · exact h
    · split
      · exact h
      · unfold bindRequest
        split
        · exact h
        · split
          · exact h
          · exact wallLaw_settled (by simp) h

theorem wallLaw_requestEffect (c : Instr) (s : State) (h : WallLaw s) : WallLaw (requestEffect c s).2 := by
  cases c with
  | setSourceLabel tag source label => exact wallLaw_runSetSourceLabel source label s h
  | setDestConfig tag dest name domain zone role => exact wallLaw_runSetDestConfig dest name domain zone role s h
  | take tag dest source panel c r => exact wallLaw_runTake dest source panel c r s h
  | cancelTake tag slot gen => exact wallLaw_runCancelTake slot gen s h
  | fireSalvo tag salvo panel mode report => exact wallLaw_runFireSalvo salvo panel mode report s h
  | undo tag panel => exact wallLaw_runUndo panel s h
  | closeDomain tag domain mode => exact wallLaw_runCloseDomain domain mode s h
  | clearFault tag dest => exact wallLaw_runClearFault dest s h
  | bindRecorder tag port dest policy event guardTime pollTimeout =>
    exact wallLaw_runBindRecorder port dest policy event guardTime pollTimeout s h
  | setGpi tag input debounce => exact wallLaw_kept.runSetGpi input debounce s h
  | openDomain tag domain => exact wallLaw_kept.runOpenDomain domain s h
  | bindTile tag wall tile kind value =>
    show WallLaw (runBindTile wall tile kind value s).2
    unfold runBindTile
    split
    · exact h
    · exact h
    · exact h
    · exact wallLaw_bindTile s _ _ _ h
  | refreshWall tag wall =>
    show WallLaw (runRefreshWall wall s).2
    unfold runRefreshWall
    split
    · exact h
    · exact wallLaw_refreshSend s _ h
  | readAttention tag =>
    show WallLaw (runReadAttention s).2
    obtain e | ⟨f, e⟩ | ⟨r, l, -, e⟩ | ⟨i, l, x, -, -, e⟩ := runReadAttention_cases s <;> rw [e] <;> exact h
  | restart tag =>
    rw [requestEffect_restart]
    exact wallLaw_restart s h
  | _ => exact wallLaw_congr (by simp [requestEffect]) (by simp [requestEffect]) h

theorem wallLaw_answer (s : State) (d : Dest) (x : Option Src) (h : WallLaw s) : WallLaw (s.answer d x) := by
  unfold answer
  split
  · exact h
  · split
    · split <;> exact wallLaw_settled (by simp) h
    · exact h

theorem wallLaw_confirmOwn (s : State) (d : Dest) (x : Src) (h : WallLaw s) : WallLaw (s.confirmOwn d x) := by
  unfold confirmOwn
  split <;> exact wallLaw_settled (by simp) h

theorem wallLaw_confirmForeign (s : State) (d : Dest) (x : Src) (h : WallLaw s) : WallLaw (s.confirmForeign d x) :=
  wallLaw_settled (by simp) h

theorem wallLaw_recorderStatus (s : State) (p : Port) (x : RecorderState) (h : WallLaw s) :
    WallLaw (s.recorderStatus p x) := by
  unfold recorderStatus
  dsimp only
  split
  · exact wallLaw_kept.raise _ _ (wallLaw_settled (by simp) h)
  · exact h

theorem wallLaw_reset (x : Straps) (g : Vector GpiRec 8) (n : Nat) (l : List Instr) :
    WallLaw (State.coldReset x g n l) := by
  refine (wallLaw_iff _).2 ⟨rfl, fun w => ?_⟩
  have hw : (State.coldReset x g n l).wall w = WallRec.reset := look_replicate ..
  rw [hw]
  exact ⟨⟨List.nodup_nil, by decide, fun f hf => by cases hf⟩, fun hl => by cases hl⟩

theorem wallLaw_eventEffect (c : Instr) (s : State) (h : WallLaw s) : WallLaw (eventEffect c s) := by
  cases c with
  | coldReset m a b => exact wallLaw_reset ..
  | confirmOwn d x => exact wallLaw_confirmOwn s d x h
  | confirmForeign d x => exact wallLaw_confirmForeign s d x h
  | answer d x => exact wallLaw_answer s d x h
  | discardedTransaction bytes =>
    exact hearTransaction_keeps wallLaw_confirmOwn wallLaw_confirmForeign wallLaw_answer bytes s h
  | answerTimeout =>
    show WallLaw s.answerTimeout
    unfold State.answerTimeout
    split
    · split
      · exact wallLaw_settled (by simp) h
      · exact h
    · exact h
  | absentTimerExpiry i =>
    show WallLaw (s.expireAbsent i)
    unfold expireAbsent
    split
    · exact h
    · split
      · exact wallLaw_settled (by simp) h
      · exact h
  | holdLimitExpiry i =>
    show WallLaw (expireHold i s)
    unfold expireHold
    split
    · exact wallLaw_settled (by simp) h
    · exact h
  | referenceFrameStart d => exact wallLaw_kept.referenceStart s d h
  | referenceLossTimeout d => exact wallLaw_kept.loseByTimeout d s h
  | timerFrameStart d follows => exact wallLaw_kept.timerFrame d follows s h
  | gpiPinChange i high => exact wallLaw_kept.gpiPin s i high h
  | debounceExpiry i => exact wallLaw_kept.judgeCandidate s i h
  | status p x => exact wallLaw_recorderStatus s p x h
  | guardEnd p =>
    show WallLaw (s.endGuard p)
    unfold State.endGuard
    split
    · exact wallLaw_kept.raise _ _ (wallLaw_congr (by simp) (by simp) h)
    · exact h
  | pollTimeout p =>
    show WallLaw (s.recorderTimeout p)
    unfold recorderTimeout
    split
    · exact h
    · split
      · exact wallLaw_settled (by simp) h
      · exact h
  | recorderReplyDiscarded p bytes =>
    exact recorderBytes_keep (fun _ _ _ => wallLaw_congr (by simp) (by simp)) wallLaw_recorderStatus
      (fun _ _ _ _ => wallLaw_congr (by simp) (by simp)) p bytes s h
  | hello w => exact wallLaw_wallHello s w h
  | ack w n => exact wallLaw_wallAck s w n h
  | ackTimeout w => exact wallLaw_ackTimeout s w h
  | wallFrameDiscarded w bytes =>
    exact wallBytes_keep (fun _ _ _ => wallLaw_congr (by simp) (by simp)) wallLaw_wallHello wallLaw_wallAck w bytes s h
  | verifyInterval =>
    show WallLaw (if s.verifyDue then s.beginVerify else s)
    split <;> exact h
  | partnerByteGap l =>
    show WallLaw (s.partnerGap l)
    rw [partnerGap_eq]
    exact h
  | _ => exact wallLaw_congr (by unfold eventEffect; simp) (by unfold eventEffect; simp) h

theorem step_keeps_wallLaw (s : State) (h : WallLaw s) : Keeps WallLaw (step s) :=
  step_keeps (fun _ _ _ h => h) (fun _ h => h)
    (exec_keeps_of_effects (fun _ _ h => h) wallLaw_requestEffect wallLaw_eventEffect) s h

end Sys2Proof.Machine
end

section
/-! PROOF. The recorder ports keep their law: what starting, ending and timing out an exchange make of a port's record, and
which commands touch one (chapter 8). -/

namespace Sys2Proof.Machine

open State

/-! ## One port record -/

/-- What PortLaw asks of a record, but for the rule that a READY port has nothing left to send. -/
structure PortSound (r : PortRec) : Prop where
  guardLow : 1 ≤ r.guardTime
  guardHigh : r.guardTime ≤ 100
  timeoutLow : 5 ≤ r.pollTimeout
  timeoutHigh : r.pollTimeout ≤ 200
  queue : r.queue.length ≤ 4
  silent : r.silent ≤ 3
  online : r.online = false ↔ r.silent = 3
  offline : r.online = false → r.reported = .unknown ∧ r.queue = [] ∧ r.markPending = false
  inFlight : r.inFlight.isSome = true ↔ r.exchange = .busy
  guardEnd : r.guardEnd.isSome = true ↔ r.exchange = .guard

/-- What PortLaw asks of one record. -/
def PortRecLaw (r : PortRec) : Prop :=
  PortSound r ∧ (r.exchange = .ready → r.queue = [] ∧ r.markPending = false ∧ r.pollPending = false)

/-- R138: a destination is bound to at most one port. -/
def BoundOnce (s : State) : Prop := ∀ p q d, (s.port p).dest = some d → (s.port q).dest = some d → p = q

theorem portLaw_iff (s : State) : PortLaw s ↔ BoundOnce s ∧ ∀ p, PortRecLaw (s.port p) := by
  refine and_congr_right (fun _ => forall_congr' (fun p => ?_))
  constructor
  · rintro ⟨h1, h2, h3, h4, h5, h6, h7, h8, h9, h10, h11⟩
    exact ⟨⟨h1, h2, h3, h4, h5, h6, h7, h8, h9, h10⟩, h11⟩
  · rintro ⟨⟨h1, h2, h3, h4, h5, h6, h7, h8, h9, h10⟩, h11⟩
    exact ⟨h1, h2, h3, h4, h5, h6, h7, h8, h9, h10, h11⟩

theorem PortLaw.record {s : State} (h : PortLaw s) (p : Port) : PortRecLaw (s.port p) := ((portLaw_iff s).1 h).2 p

theorem PortLaw.sound {s : State} (h : PortLaw s) (p : Port) : PortSound (s.port p) := (h.record p).1

theorem portLaw_congr {s t : State} (e : t.ports = s.ports) (h : PortLaw s) : PortLaw t := by
  unfold PortLaw State.port at *
  rwa [e]

/-- A port that is sound and starts what it has to send is lawful (R141). -/
theorem PortSound.start {r : PortRec} (h : PortSound r) (now : Time) : PortRecLaw (r.start now) := by
  unfold PortRec.start
  split
  · next hready =>
    have hno : r.guardEnd.isSome = false := by
      rw [Bool.eq_false_iff, Ne, h.guardEnd, hready]; decide
    split
    · exact ⟨{ h with
        offline := fun ho => ⟨(h.offline ho).1, (h.offline ho).2.1, rfl⟩
        inFlight := by simp
        guardEnd := by simp [hno] }, fun hr => by cases hr⟩
    · next hmark =>
      split
      · next c rest hq =>
        exact ⟨{ h with
          queue := by have hlen := h.queue; rw [hq, List.length_cons] at hlen; exact Nat.le_of_succ_le hlen
          offline := fun ho => by have hnil := (h.offline ho).2.1; rw [hq] at hnil; cases hnil
          inFlight := by simp
          guardEnd := by simp [hno] }, fun hr => by cases hr⟩
      · next hq =>
        split
        · exact ⟨{ h with
            offline := fun ho => ⟨(h.offline ho).1, (h.offline ho).2⟩
            inFlight := by simp
            guardEnd := by simp [hno] }, fun hr => by cases hr⟩
        · next hpoll => exact ⟨h, fun _ => ⟨hq, by simpa using hmark, by simpa using hpoll⟩⟩
  · next hready => exact ⟨h, fun hr => absurd hr hready⟩

theorem PortSound.markable {r : PortRec} (h : PortSound r) (hon : r.reported ≠ .unknown) : r.online = true := by
  by_contra ho
  exact hon (h.offline (by simpa using ho)).1

/-- A MARK that an issue sets on a recording port (R140). -/
theorem PortSound.setMark {r : PortRec} (h : PortSound r) (hon : r.online = true) (now : Time) :
    PortRecLaw (r.setMark now) :=
  PortSound.start (r := { r with markPending := true }) { h with offline := fun ho => by rw [hon] at ho; cases ho } now

theorem PortSound.pollEvent {r : PortRec} (h : PortSound r) (now : Time) : PortRecLaw (r.pollEvent now) :=
  PortSound.start (r := { r with pollPending := true }) { h with } now

theorem PortSound.enqueue {r : PortRec} (h : PortSound r) (hon : r.online = true) (hroom : r.queue.length < 4)
    (now : Time) (c : RecorderCommand) : PortRecLaw (r.enqueue now c) :=
  PortSound.start (r := { r with queue := r.queue ++ [c] }) { h with
    queue := by rw [List.length_append]; exact hroom
    offline := fun ho => by rw [hon] at ho; cases ho } now

/-- An exchange that is over leaves the port in GUARD (R143). -/
theorem PortSound.enterGuard {r : PortRec} (h : PortSound r) (now : Time) : PortSound (r.enterGuard now) :=
  { h with inFlight := by simp [PortRec.enterGuard], guardEnd := by simp [PortRec.enterGuard] }

theorem PortSound.guarded {r : PortRec} (h : PortSound r) (now : Time) : PortRecLaw (r.enterGuard now) :=
  ⟨h.enterGuard now, fun hr => by cases hr⟩

theorem judgeStart_sound {r : PortRec} (h : PortSound r) (now : Time) (old : RecorderState) :
    PortSound (r.judgeStart now old) := by
  unfold PortRec.judgeStart
  split
  · split
    · exact { h with }
    · exact h
  · exact h

theorem PortSound.heard {r : PortRec} (h : PortSound r) : PortSound { r with silent := 0, online := true } :=
  { h with silent := Nat.zero_le 3, online := by simp, offline := fun ho => by cases ho }

theorem PortSound.takeStatus {r : PortRec} (h : PortSound r) (now : Time) (x : RecorderState) :
    PortRecLaw (r.takeStatus now x) :=
  (judgeStart_sound (r := { r with silent := 0, online := true, reported := x, lastStatusAt := some now })
    { h.heard with offline := fun ho => by cases ho } now r.reported).guarded now

theorem PortSound.takeAck {r : PortRec} (h : PortSound r) (now : Time) (c : RecorderCommand) (accepted : Bool) :
    PortRecLaw (r.takeAck now c accepted) :=
  PortSound.guarded (r := { r with
      silent := 0
      online := true
      lastCommand := some ⟨c, if accepted then .accepted else .refused, now⟩
      recordStamp := if c = .record ∧ accepted then some now else r.recordStamp }) { h.heard with } now

/-- A timeout leaves the port lawful once a third silence has taken it OFFLINE (R145, R149). -/
theorem PortSound.timedOut {r : PortRec} (h : PortSound r) (now : Time) (k : ExchangeKind) :
    let t := r.takeTimeout now k
    PortRecLaw (if t.online ∧ t.silent = 3 then t.goOffline else t) := by
  intro t
  have hsilent : t.silent = min 3 (r.silent + 1) := rfl
  have hle := h.silent
  split
  · next hoff =>
    refine ⟨{ h.enterGuard now with
      queue := Nat.zero_le 4
      silent := hoff.2.le
      online := by simp [PortRec.goOffline, hoff.2]
      offline := fun _ => ⟨rfl, rfl, rfl⟩
      inFlight := by simp [PortRec.goOffline, t, PortRec.takeTimeout, PortRec.enterGuard]
      guardEnd := by simp [PortRec.goOffline, t, PortRec.takeTimeout, PortRec.enterGuard] }, fun hr => by cases hr⟩
  · next hon =>
    have honline : t.online = r.online := rfl
    refine ⟨{ h.enterGuard now with silent := by omega, online := ?_ }, fun hr => by cases hr⟩
    have := h.online
    cases ho : r.online with
    | true =>
      have h3 : t.silent ≠ 3 := fun h3 => hon ⟨honline.trans ho, h3⟩
      simp [honline, ho, h3]
    | false =>
      have : r.silent = 3 := this.1 ho
      simp [honline, ho, hsilent, this]

/-- The end of GUARD makes the port READY and starts what waits (R142). -/
theorem PortSound.endGuard {r : PortRec} (h : PortSound r) (hguard : r.exchange = .guard) (now : Time) :
    PortRecLaw (r.endGuard now) := by
  have hfree : r.inFlight.isSome = false := by rw [Bool.eq_false_iff, Ne, h.inFlight, hguard]; decide
  exact PortSound.start (r := { r with exchange := .ready, guardEnd := none }) { h with inFlight := by simp [hfree], guardEnd := by simp } now

theorem PortRecLaw.restart {r : PortRec} (h : PortRecLaw r) : PortRecLaw r.restart :=
  ⟨{ h.1 with queue := Nat.zero_le 4, offline := fun ho => ⟨(h.1.offline ho).1, rfl, rfl⟩ },
    fun hr => ⟨rfl, rfl, (h.2 hr).2.2⟩⟩

/-! ## The destination of a port -/

theorem start_dest (r : PortRec) (now : Time) : (r.start now).dest = r.dest := by
  unfold PortRec.start
  repeat' split
  all_goals rfl

theorem start_reported (r : PortRec) (now : Time) : (r.start now).reported = r.reported := by
  unfold PortRec.start
  repeat' split
  all_goals rfl

theorem judgeStart_dest (r : PortRec) (now : Time) (old : RecorderState) : (r.judgeStart now old).dest = r.dest := by
  unfold PortRec.judgeStart
  repeat' split
  all_goals rfl

theorem takeStatus_dest (r : PortRec) (now : Time) (x : RecorderState) : (r.takeStatus now x).dest = r.dest :=
  judgeStart_dest _ now r.reported

/-! ## The ports of a state -/

theorem port_setPort (s : State) (p q : Port) (r : PortRec) :
    (s.setPort p r).port q = if q = p then r else s.port q := look_put ..

theorem portLaw_setPort {s : State} {p : Port} {r : PortRec} (hr : PortRecLaw r) (hd : r.dest = (s.port p).dest)
    (h : PortLaw s) : PortLaw (s.setPort p r) := by
  obtain ⟨honce, hrecs⟩ := (portLaw_iff s).1 h
  have hdest (q : Port) : ((s.setPort p r).port q).dest = (s.port q).dest := by
    rw [port_setPort]
    split
    · next hq => rw [hq, hd]
    · rfl
  refine (portLaw_iff _).2 ⟨fun q q' d hq hq' => honce q q' d (by rwa [hdest] at hq) (by rwa [hdest] at hq'), fun q => ?_⟩
  rw [port_setPort]
  split
  · exact hr
  · exact hrecs q

/-- An issue changes a port by a MARK at most, which only a recording port gets (R140). -/
theorem portLaw_issue (d : Dom) (s : State) (i : Slot) (h : PortLaw s) : PortLaw (issue d s i) := by
  unfold issue
  split
  · exact h
  · next t _ =>
    dsimp only
    split
    · next p _ =>
      split
      · next hsplit =>
        have hrec : (s.port p).reported = .recording := hsplit.2
        have honline := (h.sound p).markable (by rw [hrec]; decide)
        exact portLaw_setPort ((h.sound p).setMark honline s.now) (start_dest _ _) h
      · exact h
    · exact h

theorem portLaw_window (d : Dom) : KeptByWindow PortLaw d where
  retest _ _ := portLaw_congr (by simp)
  fail _ _ := portLaw_congr (by simp)
  issue := portLaw_issue d
  dropTimers _ := portLaw_congr (by simp)
  judge _ _ := portLaw_congr (by simp)
  cursor _ _ := portLaw_congr (by simp)
  retries _ := portLaw_congr (by simp)

theorem portLaw_issueWindow (s : State) (d : Dom) (before : List Tag) (h : PortLaw s) : PortLaw (s.issueWindow d before) :=
  (portLaw_window d).window (fun _ => portLaw_congr (by simp)) (fun _ _ => portLaw_congr (by simp)) (fun _ _ h => h)
    s before h

theorem portLaw_queueCommand (s : State) (p : Port) (c : RecorderCommand) (h : PortLaw s) :
    PortLaw (s.queueCommand p c).2.2 := by
  unfold State.queueCommand
  dsimp only
  split
  · exact h
  · next hon =>
    split
    · exact h
    · next hroom =>
      exact portLaw_setPort ((h.sound p).enqueue (by simpa using hon) (Nat.not_le.1 hroom) s.now c) (start_dest _ _) h

theorem portLaw_arrive (s : State) (a : Arrival) (h : PortLaw s) : PortLaw (s.arrive a).1 := by
  cases a with
  | window d before => rw [arrive_window]; exact portLaw_issueWindow s d before h
  | poll p => exact portLaw_setPort ((h.sound p).pollEvent s.now) (start_dest _ _) h
  | action k branch a =>
    have carried : PortLaw (s.carryOut k a).2 := by
      cases a with
      | recorder p c => exact portLaw_queueCommand s p c h
      | fireSalvo n => exact portLaw_congr (by simp [carryOut]) h
      | none => exact h
      | attention => exact h
    show PortLaw (s.runAction k branch a)
    unfold runAction
    dsimp only
    split <;> exact portLaw_congr (by simp) carried
  | trigger k => exact portLaw_congr (by simp [arrive]) h
  | mark d => exact portLaw_congr (by simp [arrive]) h

theorem portLaw_kept : KeptByDelivery PortLaw where
  setDom _ _ _ := portLaw_congr (by simp)
  setLock _ _ _ := portLaw_congr (by simp)
  flagDomain _ _ _ _ := portLaw_congr (by simp)
  setGpi _ _ _ := portLaw_congr (by simp)
  choose _ _ := portLaw_congr (by simp)
  event s a h := portLaw_congr (by simp) (portLaw_arrive s a h)

/-! ## The commands that touch a port -/

theorem portLaw_recorderStatus (s : State) (p : Port) (x : RecorderState) (h : PortLaw s) :
    PortLaw (s.recorderStatus p x) := by
  unfold recorderStatus
  dsimp only
  split
  · have taken := portLaw_setPort ((h.sound p).takeStatus s.now x) (takeStatus_dest _ _ _) h
    exact portLaw_kept.raise _ _ (portLaw_congr (by simp) taken)
  · exact h

theorem portLaw_recorderAck (s : State) (p : Port) (c : RecorderCommand) (accepted : Bool) (h : PortLaw s) :
    PortLaw (s.recorderAck p c accepted) := by
  unfold recorderAck
  dsimp only
  split
  · refine portLaw_congr (by simp) (?_ : PortLaw (s.setPort p ((s.port p).takeAck s.now c accepted)))
    exact portLaw_setPort ((h.sound p).takeAck s.now c accepted) rfl h
  · exact h

theorem judgeSilence_ports (s : State) (p : Port) :
    (s.judgeSilence p).ports = put s.ports p
      (if (s.port p).online ∧ (s.port p).silent = 3 then (s.port p).goOffline else s.port p) := by
  unfold judgeSilence
  dsimp only
  split
  · simp
  · simp [port_def]

theorem portLaw_recorderTimeout (s : State) (p : Port) (h : PortLaw s) : PortLaw (s.recorderTimeout p) := by
  unfold recorderTimeout
  split
  · exact h
  · next f _ =>
    split
    · have timed := (h.sound p).timedOut s.now f.kind
      have hdest (r : PortRec) : (if r.online ∧ r.silent = 3 then r.goOffline else r).dest = r.dest := by
        split <;> rfl
      refine portLaw_congr (s := s.setPort p _) ?_ (portLaw_setPort timed (hdest _) h)
      simp [judgeSilence_ports, port_setPort]
    · exact h

theorem portLaw_endGuard (s : State) (p : Port) (h : PortLaw s) : PortLaw (s.endGuard p) := by
  unfold State.endGuard
  split
  · next hdue =>
    refine portLaw_kept.raise _ _ (portLaw_setPort ((h.sound p).endGuard ?_ s.now) (start_dest _ _) h)
    unfold guardDue at hdue
    split at hdue
    · simp only [Bool.and_eq_true, decide_eq_true_eq] at hdue
      exact hdue.1
    · cases hdue
  · exact h

theorem boundElsewhere_false {s : State} {p : Port} {d : Dest} (h : boundElsewhere s p (some d) = false) (q : Port)
    (hq : (s.port q).dest = some d) : q = p := by
  by_contra hne
  have : boundElsewhere s p (some d) = true := (boundElsewhere_iff s p (some d)).2 ⟨d, q, rfl, hne, hq⟩
  rw [h] at this
  cases this

/-- A port with a destination bound nowhere else leaves each destination bound at most once. -/
theorem boundOnce_setPort {s : State} {p : Port} {r : PortRec} (hfree : boundElsewhere s p r.dest = false)
    (h : BoundOnce s) : BoundOnce (s.setPort p r) := by
  intro q q' e hq hq'
  rw [port_setPort] at hq hq'
  split at hq <;> split at hq'
  · next h1 h2 => rw [h1, h2]
  · next h1 _ => rw [hq] at hfree; rw [h1]; exact (boundElsewhere_false hfree q' hq').symm
  · next _ h2 => rw [hq'] at hfree; rw [h2]; exact boundElsewhere_false hfree q hq
  · exact h q q' e hq hq'

theorem bindRecorder_ports (s : State) (p : Port) (c : PortConfig) :
    (bindRecorder s p c).ports = put s.ports p { s.port p with
      dest := c.dest, policy := c.policy, guardTime := c.guardTime, pollTimeout := c.pollTimeout } := by
  rw [(bindRecorder_tested s p c).1, rebound_ports]

/-- BIND RECORDER keeps the law: its ranges are checked, and the destination is bound nowhere else (R138, R154). -/
theorem portLaw_runBindRecorder (port : Byte) (dest : OptField Byte) (policy event guardTime pollTimeout : Byte) (s : State)
    (h : PortLaw s) : PortLaw (runBindRecorder port dest policy event guardTime pollTimeout s).2 := by
  unfold runBindRecorder
  split
  · exact h
  · exact h
  · exact h
  · next p d g _ _ _ =>
    split
    · exact h
    · next hguard =>
      split
      · exact h
      · next hpoll =>
        unfold bindRequest
        split
        · exact h
        · split
          · exact h
          · next hfree =>
            have hfree := Bool.eq_false_iff.2 hfree
            refine portLaw_congr (s := s.setPort p { s.port p with
              dest := d, policy := g, guardTime := guardTime.toNat, pollTimeout := pollTimeout.toNat }) ?_ ?_
            · simp [bindRecorder_ports]
            · obtain ⟨honce, hrecs⟩ := (portLaw_iff s).1 h
              refine (portLaw_iff _).2 ⟨boundOnce_setPort hfree honce, fun q => ?_⟩
              · rw [port_setPort]
                split
                · exact ⟨{ (hrecs p).1 with
                    guardLow := by dsimp only; omega, guardHigh := by dsimp only; omega
                    timeoutLow := by dsimp only; omega, timeoutHigh := by dsimp only; omega }, (hrecs p).2⟩
                · exact hrecs q

theorem portLaw_runRecorderCommand (port command : Byte) (s : State) (h : PortLaw s) :
    PortLaw (runRecorderCommand port command s).2 := by
  unfold runRecorderCommand
  split
  · exact h
  · exact h
  · next p c _ _ =>
    have queued := portLaw_queueCommand s p c h
    split
    · next he => rw [he] at queued; exact queued
    · exact h

theorem portLaw_restart (s : State) (h : PortLaw s) : PortLaw s.restarted := by
  obtain ⟨honce, hrecs⟩ := (portLaw_iff s).1 h
  have hport (p : Port) : s.restarted.port p = (s.port p).restart := look_mapTable ..
  refine (portLaw_iff _).2 ⟨fun p q d hp hq => ?_, fun p => ?_⟩
  · rw [hport] at hp hq
    exact honce p q d hp hq
  · rw [hport]
    exact (hrecs p).restart

/-! ## Every command keeps it -/

theorem portLaw_requestEffect (c : Instr) (s : State) (h : PortLaw s) : PortLaw (requestEffect c s).2 := by
  cases c with
  | bindRecorder tag port dest policy event guardTime pollTimeout =>
    exact portLaw_runBindRecorder port dest policy event guardTime pollTimeout s h
  | recorderCommand tag port command => exact portLaw_runRecorderCommand port command s h
  | setGpi tag input debounce => exact portLaw_kept.runSetGpi input debounce s h
  | readAttention tag =>
    show PortLaw (runReadAttention s).2
    obtain e | ⟨f, e⟩ | ⟨r, l, -, e⟩ | ⟨i, l, x, -, -, e⟩ := runReadAttention_cases s <;> rw [e] <;> exact h
  | restart tag =>
    rw [requestEffect_restart]
    exact portLaw_congr (by simp) (portLaw_restart s h)
  | _ => exact portLaw_congr (by simp [requestEffect]) h

theorem portLaw_reset (x : Straps) (g : Vector GpiRec 8) (n : Nat) (l : List Instr) :
    PortLaw (State.coldReset x g n l) := by
  have hport (p : Port) : (State.coldReset x g n l).port p = PortRec.reset := look_replicate ..
  refine (portLaw_iff _).2 ⟨fun p q d hp _ => ?_, fun p => ?_⟩
  · rw [hport] at hp
    cases hp
  · rw [hport]
    exact ⟨⟨by decide, by decide, by decide, by decide, by decide, by decide, by decide, by decide, by decide, by decide⟩,
      fun _ => ⟨rfl, rfl, rfl⟩⟩

theorem portLaw_eventEffect (c : Instr) (s : State) (h : PortLaw s) : PortLaw (eventEffect c s) := by
  cases c with
  | coldReset m a b => exact portLaw_reset ..
  | referenceFrameStart d => exact portLaw_kept.referenceStart s d h
  | referenceLossTimeout d => exact portLaw_kept.loseByTimeout d s h
  | timerFrameStart d follows => exact portLaw_kept.timerFrame d follows s h
  | gpiPinChange i high => exact portLaw_kept.gpiPin s i high h
  | debounceExpiry i => exact portLaw_kept.judgeCandidate s i h
  | status p x => exact portLaw_recorderStatus s p x h
  | cmdAck p c a => exact portLaw_recorderAck s p c a h
  | pollTimeout p => exact portLaw_recorderTimeout s p h
  | guardEnd p => exact portLaw_endGuard s p h
  | recorderReplyDiscarded p bytes =>
    exact recorderBytes_keep (fun _ _ _ => portLaw_congr (by simp)) portLaw_recorderStatus portLaw_recorderAck p bytes s h
  | verifyInterval =>
    show PortLaw (if s.verifyDue then s.beginVerify else s)
    split <;> exact h
  | partnerByteGap l =>
    show PortLaw (s.partnerGap l)
    rw [partnerGap_eq]
    exact h
  | _ => exact portLaw_congr (by unfold eventEffect; simp) h

theorem step_keeps_portLaw (s : State) (h : PortLaw s) : Keeps PortLaw (step s) :=
  step_keeps (fun _ _ _ h => h) (fun _ h => h)
    (exec_keeps_of_effects (fun _ _ h => h) portLaw_requestEffect portLaw_eventEffect) s h

/-- Settles O57: the wall records are touched by marking, sending and a link's own frames, the port records by exchanges and
BIND RECORDER, and each of these keeps its law. -/
theorem stepKeepsWallAndPortLaws : Obligations.StepKeepsWallAndPortLaws := by
  unfold Obligations.StepKeepsWallAndPortLaws
  exact ⟨step_keeps_wallLaw, step_keeps_portLaw⟩

end Sys2Proof.Machine
end

section
/-! PROOF. The shape of each command that settles what it has done: it leaves the state, or one named operation's state,
settled. The laws of the domains, the bus, the pool and the counts go through these. -/

namespace Sys2Proof.Machine

open State

theorem runTake_cases (dest source : U16) (panel : Byte) (c : OptField U16) (r : Byte) (s : State) :
    (runTake dest source panel c r s).2 = s ∨
    ∃ q a t, s.admitTake q = some (a, t) ∧ (runTake dest source panel c r s).2 = t.settle := by
  unfold runTake
  split
  · exact .inl rfl
  · exact .inl rfl
  · unfold admitRequest
    split
    · exact .inl rfl
    · split
      · exact .inl rfl
      · next ha => exact .inr ⟨_, _, _, ha, rfl⟩

/-- A tag that names a live take names the take its slot holds. -/
theorem named_live {s : State} {g : Tag} {t : Take} (h : s.named g = .live t) :
    (s.slot g.slot).take = some t ∧ (s.slot g.slot).gen = g.gen := by
  unfold named at h
  dsimp only at h
  split at h
  · next hk =>
    split at h
    · next hg => cases h; exact ⟨hk, hg⟩
    · split at h
      · split at h <;> cases h
      · cases h
  · split at h <;> cases h
  · cases h

theorem runCancelTake_cases (slot gen : Byte) (s : State) :
    (runCancelTake slot gen s).2 = s ∨
    ∃ i t, (s.slot i).take = some t ∧ t.state.waiting = true ∧
      (runCancelTake slot gen s).2 = (s.endTake i .cancelled).settle := by
  unfold runCancelTake
  split
  · exact .inl rfl
  · split
    · next t ht =>
      split
      · next hw => exact .inr ⟨_, t, (named_live ht).1, hw, rfl⟩
      · exact .inl rfl
    · exact .inl rfl
    · exact .inl rfl

theorem runFireSalvo_cases (salvo panel mode report : Byte) (s : State) :
    (runFireSalvo salvo panel mode report s).2 = s ∨
    ∃ n f, (runFireSalvo salvo panel mode report s).2 = (s.fireSalvo n f).2.settle := by
  unfold runFireSalvo
  split
  · exact .inl rfl
  · exact .inl rfl
  · exact .inl rfl
  · split
    · exact .inl rfl
    · next he => exact .inr ⟨_, _, by rw [he]⟩

theorem runUndo_cases (panel : Byte) (s : State) :
    (runUndo panel s).2 = s ∨
    ∃ u rest f, s.store.undo = u :: rest ∧ (runUndo panel s).2 =
      State.settle { (s.fireEntries f u.pairs).2 with
        store := { (s.fireEntries f u.pairs).2.store with undo := rest } } := by
  unfold runUndo
  split
  · exact .inl rfl
  · next u rest hu =>
    split
    · exact .inl rfl
    · next he => exact .inr ⟨u, rest, _, hu, by rw [he]⟩

theorem runCloseDomain_cases (domain mode : Byte) (s : State) :
    (runCloseDomain domain mode s).2 = s ∨
    ∃ d m, (s.dom d).lock ≠ .closed ∧ (runCloseDomain domain mode s).2 =
      (if m = .flush then (s.setDom d { s.dom d with closing := some m }).flushDomain d
        else s.setDom d { s.dom d with closing := some m }).settle := by
  unfold runCloseDomain
  split
  · exact .inl rfl
  · exact .inl rfl
  · split
    · exact .inl rfl
    · next hopen => exact .inr ⟨_, _, hopen, rfl⟩

/-- An accepted BIND RECORDER has its times in range and its destination bound nowhere else (R154). -/
theorem runBindRecorder_cases (port : Byte) (dest : OptField Byte) (policy event guardTime pollTimeout : Byte) (s : State) :
    (runBindRecorder port dest policy event guardTime pollTimeout s).2 = s ∨
    ∃ p c, boundElsewhere s p c.dest = false ∧ 1 ≤ c.guardTime ∧ c.guardTime ≤ 100 ∧ 5 ≤ c.pollTimeout ∧ c.pollTimeout ≤ 200 ∧
      (runBindRecorder port dest policy event guardTime pollTimeout s).2 = (bindRecorder s p c).settle := by
  unfold runBindRecorder
  split
  · exact .inl rfl
  · exact .inl rfl
  · exact .inl rfl
  · next p d g _ _ _ =>
    split
    · exact .inl rfl
    · split
      · exact .inl rfl
      · unfold bindRequest
        split
        · exact .inl rfl
        · split
          · exact .inl rfl
          · next hfree =>
            refine .inr ⟨p, ⟨d, g, event, guardTime.toNat, pollTimeout.toNat⟩, Bool.eq_false_iff.2 hfree, ?_, ?_, ?_, ?_, rfl⟩
            all_goals dsimp only; omega

theorem answer_cases (s : State) (d : Dest) (x : Option Src) :
    s.answer d x = s ∨ ∃ r, s.bus.readback = some r ∧ r.dest = d ∧
      ((∃ y, x = some y ∧ s.answer d x = (s.answerSource r y).settle) ∨
       (x = none ∧ s.answer d x = (s.answerNone r).settle)) := by
  unfold answer
  split
  · exact .inl rfl
  · next r hr =>
    split
    · next hd =>
      refine .inr ⟨r, hr, hd, ?_⟩
      cases x with
      | some y => exact .inl ⟨y, rfl, rfl⟩
      | none => exact .inr ⟨rfl, rfl⟩
    · exact .inl rfl

theorem answerTimeout_cases (s : State) :
    s.answerTimeout = s ∨ ∃ r, s.bus.readback = some r ∧ s.answerTimeout = (s.answerNone r).settle := by
  unfold State.answerTimeout
  split
  · next r hr =>
    split
    · exact .inr ⟨r, hr, rfl⟩
    · exact .inl rfl
  · exact .inl rfl

theorem confirmOwn_cases (s : State) (d : Dest) (x : Src) :
    s.confirmOwn d x = (s.applyReport d x .own).settle ∨
    ∃ i, s.matchedTake d x = some i ∧
      s.confirmOwn d x = (((s.endTake i .completed).applyReport d x .own).countCompletion d).settle := by
  unfold confirmOwn
  split
  · next i hi => exact .inr ⟨i, hi, rfl⟩
  · exact .inl rfl

theorem expireAbsent_cases (s : State) (i : Slot) :
    s.expireAbsent i = s ∨ ∃ t, (s.slot i).take = some t ∧ s.absentDue i = true ∧ s.expireAbsent i =
      (((s.endTake i .unverified).outputEvent t.dest .unverified).joinPriority t.dest).settle := by
  unfold expireAbsent
  split
  · exact .inl rfl
  · next t ht =>
    split
    · next hdue => exact .inr ⟨t, ht, hdue, rfl⟩
    · exact .inl rfl

theorem expireHold_cases (i : Slot) (s : State) :
    expireHold i s = s ∨ (s.holdLimitDue i = true ∧ expireHold i s = (s.endTake i .expired).settle) := by
  unfold expireHold
  split
  · next hdue => exact .inr ⟨hdue, rfl⟩
  · exact .inl rfl

/-- A STATUS that the exchange awaits ends it, hands on the change of state and raises POLL DONE (R143, R146, R147). -/
theorem recorderStatus_cases (s : State) (p : Port) (x : RecorderState) :
    s.recorderStatus p x = s ∨ (x ≠ .unknown ∧ s.recorderStatus p x =
      ((((s.setPort p ((s.port p).takeStatus s.now x)).reportedChanged p (s.port p).reported).flagOnline p
        (s.port p).online).settle).raise (pollDoneEvent p)) := by
  unfold recorderStatus
  dsimp only
  split
  · next h =>
    simp only [Bool.and_eq_true, decide_eq_true_eq] at h
    exact .inr ⟨h.2, rfl⟩
  · exact .inl rfl

theorem recorderAck_cases (s : State) (p : Port) (c : RecorderCommand) (accepted : Bool) :
    s.recorderAck p c accepted = s ∨ s.recorderAck p c accepted =
      (s.setPort p ((s.port p).takeAck s.now c accepted)).flagOnline p (s.port p).online := by
  unfold recorderAck
  dsimp only
  split
  · exact .inr rfl
  · exact .inl rfl

theorem recorderTimeout_cases (s : State) (p : Port) :
    s.recorderTimeout p = s ∨ ∃ f, (s.port p).inFlight = some f ∧ s.recorderTimeout p =
      ((s.setPort p ((s.port p).takeTimeout s.now f.kind)).judgeSilence p).settle := by
  unfold recorderTimeout
  split
  · exact .inl rfl
  · next f hf =>
    split
    · exact .inr ⟨f, hf, rfl⟩
    · exact .inl rfl

theorem endGuard_cases (s : State) (p : Port) :
    s.endGuard p = s ∨ ((s.port p).exchange = .guard ∧
      s.endGuard p = (s.setPort p ((s.port p).endGuard s.now)).raise (portReadyEvent p)) := by
  unfold State.endGuard
  split
  · next hdue =>
    refine .inr ⟨?_, rfl⟩
    unfold guardDue at hdue
    split at hdue
    · simp only [Bool.and_eq_true, decide_eq_true_eq] at hdue
      exact hdue.1
    · cases hdue
  · exact .inl rfl

theorem verifyInterval_cases (s : State) :
    eventEffect .verifyInterval s = s ∨ (s.bus.walk = .none ∧ eventEffect .verifyInterval s = s.beginVerify) := by
  have h : eventEffect .verifyInterval s = if s.verifyDue then s.beginVerify else s := rfl
  rw [h]
  split
  · next hdue =>
    unfold verifyDue at hdue
    simp only [Bool.and_eq_true, decide_eq_true_eq] at hdue
    exact .inr ⟨hdue.1.1, rfl⟩
  · exact .inl rfl

end Sys2Proof.Machine
end

section
/-! PROOF. The domain records keep their law: what a change of lock state makes of a record, and the pass over the
lock-state machine (chapter 5). -/

namespace Sys2Proof.Machine

open State

/-! ## One domain record -/

/-- The ranges DomainLaw gives a record (R74). -/
structure DomRanges (r : DomRec) : Prop where
  settleLow : 4 ≤ r.settleCount
  settleHigh : r.settleCount ≤ 64
  holdover : r.holdoverLimit ≤ 250
  holdLow : 100 ≤ r.holdLimit
  holdHigh : r.holdLimit ≤ 10000
  timecode : r.timecode < Config.framesPerDay r.standard
  markPreset : r.markPreset < Config.framesPerDay r.standard
  pending : ∀ e, r.pendingTimecode = some e → e.1 < Config.framesPerDay r.standard

/-- What DomainLaw asks of one record: its ranges, and what its lock state means (R77, R79, R89). -/
structure DomRecLaw (r : DomRec) : Prop extends DomRanges r where
  closed : r.lock = .closed → r.closing = none
  settling : if r.lock = .settling then r.settleProgress < r.settleCount else r.settleProgress = 0
  held : if r.lock = .holdover then r.holdoverCount < r.holdoverLimit else r.holdoverCount = 0
  loss : r.lossPending = true → r.lock = .locked

theorem domainLaw_iff (s : State) : DomainLaw s ↔ ∀ d, DomRecLaw (s.dom d) := by
  refine forall_congr' (fun d => ⟨?_, ?_⟩)
  · rintro ⟨h1, h2, h3, h4, h5, h6, h7, h8, h9, h10, h11, h12⟩
    exact ⟨⟨h1, h2, h3, h4, h5, h6, h7, h8⟩, h9, h10, h11, h12⟩
  · rintro ⟨⟨h1, h2, h3, h4, h5, h6, h7, h8⟩, h9, h10, h11, h12⟩
    exact ⟨h1, h2, h3, h4, h5, h6, h7, h8, h9, h10, h11, h12⟩

theorem DomainLaw.record {s : State} (h : DomainLaw s) (d : Dom) : DomRecLaw (s.dom d) := (domainLaw_iff s).1 h d

theorem framesPerDay_pos (c : Fin 8) : 0 < Config.framesPerDay c := by
  unfold Config.framesPerDay
  split <;> decide

/-- The record a change of lock state leaves, whatever its stop moment (R77, R80, R81). -/
def DomRec.locked (r : DomRec) (l : LockState) (stop : Time) : DomRec :=
  { r with lock := l, settleProgress := 0, holdoverCount := 0, lossPending := false, stopMoment := stop }

theorem DomRanges.locked {r : DomRec} (h : DomRanges r) {l : LockState} (stop : Time)
    (hclosed : l = .closed → r.closing = none) (hheld : l = .holdover → 0 < r.holdoverLimit) :
    DomRecLaw (r.locked l stop) where
  toDomRanges := { h with }
  closed := hclosed
  settling := by
    show if l = .settling then 0 < r.settleCount else 0 = 0
    have := h.settleLow
    split <;> omega
  held := by
    show if l = .holdover then 0 < r.holdoverLimit else 0 = 0
    split
    · next hl => exact hheld hl
    · rfl
  loss hl := by cases hl

/-- A switch point advances the timecode within its day (R82). -/
theorem DomRecLaw.advance {r : DomRec} (h : DomRecLaw r) : DomRecLaw r.advance := by
  have hday (k : Nat) : k % Config.framesPerDay r.standard < Config.framesPerDay r.standard :=
    Nat.mod_lt _ (framesPerDay_pos _)
  unfold DomRec.advance
  dsimp only
  split
  · exact { h with timecode := hday _, pending := fun e he => by cases he }
  · exact { h with timecode := hday _ }

theorem DomRecLaw.takeMark {r : DomRec} (h : DomRecLaw r) : DomRecLaw r.takeMark := by
  have taken (x : MarkStatus) : DomRecLaw { r with
      markCounter := r.markCounter + 1, pendingTimecode := some (r.markPreset, .mark), markStatus := x } :=
    { h with pending := fun e he => by cases he; exact h.markPreset }
  unfold DomRec.takeMark
  dsimp only
  split
  · exact taken _
  · exact taken _
  · exact h
  · exact h

theorem DomRecLaw.configure {r : DomRec} (h : DomRecLaw r) {settle holdover hold : Nat} (c : Fin 8)
    (hs : 4 ≤ settle ∧ settle ≤ 64) (ho : holdover ≤ 250) (hh : 100 ≤ hold ∧ hold ≤ 10000) (hclosed : r.lock = .closed) :
    DomRecLaw (r.configure c settle holdover hold) := by
  have hsettling : r.settleProgress = 0 := by
    have := h.settling
    rwa [if_neg (by rw [hclosed]; decide)] at this
  have hheld : r.holdoverCount = 0 := by
    have := h.held
    rwa [if_neg (by rw [hclosed]; decide)] at this
  have hday (k : Nat) : k % Config.framesPerDay c < Config.framesPerDay c := Nat.mod_lt _ (framesPerDay_pos _)
  unfold DomRec.configure
  dsimp only
  split
  · next hc =>
    subst hc
    exact { h with
      settleLow := hs.1, settleHigh := hs.2, holdover := ho, holdLow := hh.1, holdHigh := hh.2
      settling := by simp [hclosed, hsettling], held := by simp [hclosed, hheld] }
  · exact { h with
      settleLow := hs.1, settleHigh := hs.2, holdover := ho, holdLow := hh.1, holdHigh := hh.2
      timecode := hday _, markPreset := hday _
      pending := fun e he => by
        obtain ⟨e', -, rfl⟩ := Option.map_eq_some_iff.1 he
        exact hday _
      settling := by simp [hclosed, hsettling], held := by simp [hclosed, hheld] }

/-! ## The domain records of a state -/

theorem dom_setDom (s : State) (d e : Dom) (r : DomRec) : (s.setDom d r).dom e = if e = d then r else s.dom e :=
  look_put ..

@[simp] theorem dom_setDom_same (s : State) (d : Dom) (r : DomRec) : (s.setDom d r).dom d = r := look_put_same ..

/-- A domain stops when it leaves a switching state, or is opened (R80, R81). -/
def DomRec.stops (r : DomRec) (l : LockState) : Bool :=
  (r.lock.switching && !l.switching) || (decide (r.lock = .closed) && decide (l = .acquiring))

theorem dom_domainStop (s : State) (d e : Dom) :
    (s.domainStop d).dom e = if e = d then { s.dom d with stopMoment := s.now } else s.dom e := dom_setDom ..

/-- A change of lock state writes its domain's record alone. -/
theorem dom_setLock (s : State) (d e : Dom) (l : LockState) :
    (s.setLock d l).dom e =
      if e = d then (s.dom d).locked l (if (s.dom d).stops l then s.now else (s.dom d).stopMoment) else s.dom e := by
  unfold setLock
  dsimp only
  rw [show ((s.dom d).lock.switching && !l.switching || decide ((s.dom d).lock = .closed) && decide (l = .acquiring)) =
    (s.dom d).stops l from rfl]
  cases (s.dom d).stops l with
  | true =>
    simp only [if_true, dom_domainStop]
    by_cases he : e = d
    · rw [if_pos he, if_pos he]
      show { (s.setDom d _).dom d with stopMoment := s.now } = _
      rw [dom_setDom_same]
      rfl
    · rw [if_neg he, if_neg he]
      exact (dom_setDom ..).trans (if_neg he)
  | false => exact dom_setDom ..

theorem domainLaw_congr {s t : State} (e : t.domains = s.domains) (h : DomainLaw s) : DomainLaw t := by
  unfold DomainLaw State.dom at *
  rwa [e]

theorem domainLaw_setDom {s : State} {d : Dom} {r : DomRec} (hr : DomRecLaw r) (h : DomainLaw s) :
    DomainLaw (s.setDom d r) := by
  refine (domainLaw_iff _).2 (fun e => ?_)
  rw [dom_setDom]
  split
  · exact hr
  · exact h.record e

/-- A change of lock state keeps the law of a state whose other records obey it, if the new state suits the record. -/
theorem domainLaw_setLock_of_ranges {s : State} {d : Dom} {l : LockState} (hd : DomRanges (s.dom d))
    (hothers : ∀ e, e ≠ d → DomRecLaw (s.dom e)) (hclosed : l ≠ .closed) (hheld : l = .holdover → 0 < (s.dom d).holdoverLimit) :
    DomainLaw (s.setLock d l) := by
  refine (domainLaw_iff _).2 (fun e => ?_)
  rw [dom_setLock]
  split
  · exact hd.locked _ (fun hl => absurd hl hclosed) hheld
  · next he => exact hothers e he

theorem domainLaw_setLock {s : State} {d : Dom} {l : LockState} (hclosed : l ≠ .closed)
    (hheld : l = .holdover → 0 < (s.dom d).holdoverLimit) (h : DomainLaw s) : DomainLaw (s.setLock d l) :=
  domainLaw_setLock_of_ranges (h.record d).toDomRanges (fun e _ => h.record e) hclosed hheld

theorem dom_closeIfEmpty (s : State) (d e : Dom) :
    (s.closeIfEmpty d).dom e =
      if e = d ∧ s.activeDomain d = false then
        { (s.dom d).locked .closed (if (s.dom d).lock.switching then s.now else (s.dom d).stopMoment) with closing := none }
      else s.dom e := by
  unfold closeIfEmpty
  have hstops : (s.dom d).stops .closed = (s.dom d).lock.switching := by
    unfold DomRec.stops
    cases (s.dom d).lock <;> rfl
  cases s.activeDomain d with
  | true => simp
  | false =>
    simp only [Bool.false_eq_true, if_false, and_true, dom_setDom, dom_setLock, if_true, hstops]
    split <;> rfl

theorem domainLaw_closeIfEmpty (s : State) (d : Dom) (h : DomainLaw s) : DomainLaw (s.closeIfEmpty d) := by
  refine (domainLaw_iff _).2 (fun e => ?_)
  rw [dom_closeIfEmpty]
  split
  · have ranges : DomRanges { s.dom d with closing := none } := { (h.record d).toDomRanges with }
    exact ranges.locked _ (fun _ => rfl) (fun hl => by cases hl)
  · exact h.record e

theorem domainLaw_serveClosing (s : State) (d : Dom) (h : DomainLaw s) : DomainLaw (s.serveClosing d) := by
  unfold serveClosing
  split
  · refine domainLaw_closeIfEmpty _ d ?_
    split
    · exact domainLaw_congr (by simp) h
    · exact h
  · exact h

theorem domainLaw_serveClosings (s : State) (h : DomainLaw s) : DomainLaw s.serveClosings :=
  domainLaw_serveClosing _ 3 (domainLaw_serveClosing _ 2 (domainLaw_serveClosing _ 1 (domainLaw_serveClosing _ 0 h)))

theorem domainLaw_settle (s : State) (h : DomainLaw s) : DomainLaw s.settle :=
  domainLaw_congr (by simp [settle]) (domainLaw_serveClosings s h)

theorem domainLaw_settled {s u : State} (e : u.domains = s.domains) (h : DomainLaw s) : DomainLaw u.settle :=
  domainLaw_settle u (domainLaw_congr e h)

/-! ## Delivery and switch points -/

theorem domainLaw_event (s : State) (a : Arrival) (h : DomainLaw s) : DomainLaw (s.arrive a).1.settle := by
  refine domainLaw_settle _ ?_
  cases a with
  | window d before => rw [arrive_window]; exact domainLaw_congr (by simp) h
  | mark d => exact domainLaw_setDom (h.record d).takeMark h
  | _ => exact domainLaw_congr (by simp [arrive]) h

theorem domainLaw_deliver (s : State) (as : List Arrival) (h : DomainLaw s) : DomainLaw (s.deliver as) :=
  runArrivals_keeps (fun _ _ => domainLaw_congr (by simp)) domainLaw_event _ _ _ h

theorem domainLaw_raise (s : State) (id : Byte) (h : DomainLaw s) : DomainLaw (s.raise id) := domainLaw_deliver s _ h

theorem domainLaw_switchPoint (s : State) (d : Dom) (h : DomainLaw s) : DomainLaw (s.switchPoint d) :=
  domainLaw_deliver _ _ (domainLaw_setDom (h.record d).advance h)

theorem domainLaw_takeLevel (s : State) (i : Gpi) (high : Bool) (h : DomainLaw s) : DomainLaw (s.takeLevel i high) :=
  domainLaw_raise _ _ (domainLaw_congr (by simp) h)

theorem domainLaw_judgeCandidate (s : State) (i : Gpi) (h : DomainLaw s) : DomainLaw (s.judgeCandidate i) := by
  unfold judgeCandidate
  split
  · exact domainLaw_takeLevel s i _ h
  · exact h

theorem domainLaw_gpiPin (s : State) (i : Gpi) (high : Bool) (h : DomainLaw s) : DomainLaw (s.gpiPin i high) := by
  unfold gpiPin
  dsimp only
  split
  · exact h
  · split
    · exact domainLaw_congr (by simp) h
    · split
      · exact domainLaw_takeLevel _ i high (domainLaw_congr (by simp) h)
      · exact domainLaw_congr (by simp) h

/-! ## The lock-state machine -/

theorem domainLaw_lockLoss (s : State) (d : Dom) (h : DomainLaw s) : DomainLaw (s.lockLoss d) := by
  unfold lockLoss
  split
  · exact domainLaw_setLock (by decide) (fun hl => by cases hl) h
  · split
    · exact domainLaw_setLock (by decide) (fun hl => by cases hl) h
    · next hlimit => exact domainLaw_setLock (by decide) (fun _ => Nat.pos_of_ne_zero hlimit) h
  · exact h

theorem domainLaw_forgetReference (s : State) (d : Dom) (last : Option Time) (h : DomainLaw s) :
    DomainLaw (s.forgetReference d last) :=
  domainLaw_setDom { h.record d with } h

theorem domainLaw_loseReference (s : State) (d : Dom) (last : Option Time) (h : DomainLaw s) :
    DomainLaw (s.loseReference d last) :=
  domainLaw_lockLoss _ d (domainLaw_forgetReference s d last h)

theorem domainLaw_placeTimer (s : State) (d : Dom) (h : DomainLaw s) : DomainLaw (s.placeTimer d) :=
  domainLaw_setDom { h.record d with } h

theorem domainLaw_departure (s : State) (d : Dom) (h : DomainLaw s) : DomainLaw (s.departure d) := by
  have forgotten := domainLaw_forgetReference s d (some s.now) h
  unfold departure
  dsimp only
  split
  · next hawaited =>
    have hlocked : (s.dom d).lock = .locked := by
      unfold lossAwaited at hawaited
      simp only [Bool.and_eq_true, decide_eq_true_eq] at hawaited
      exact hawaited.1
    have hlock : ((s.forgetReference d (some s.now)).dom d).lock = .locked := by
      unfold forgetReference
      rw [dom_setDom_same]
      exact hlocked
    exact domainLaw_setDom { forgotten.record d with loss := fun _ => hlock } forgotten
  · exact domainLaw_lockLoss _ d forgotten

theorem domainLaw_lockedAndPlaced (s : State) (d : Dom) (h : DomainLaw s) :
    DomainLaw ((s.setLock d .locked).placeTimer d) :=
  domainLaw_placeTimer _ d (domainLaw_setLock (by decide) (fun hl => by cases hl) h)

theorem domainLaw_returnInPhase (s : State) (d : Dom) (h : DomainLaw s) : DomainLaw (s.returnInPhase d) := by
  unfold returnInPhase
  dsimp only
  split
  · exact domainLaw_lockedAndPlaced s d h
  · exact domainLaw_switchPoint _ d (domainLaw_lockedAndPlaced s d h)

theorem domainLaw_detect (s : State) (d : Dom) (h : DomainLaw s) : DomainLaw (s.detect d) := by
  have settling := domainLaw_setLock (d := d) (l := .settling) (by decide) (fun hl => by cases hl) h
  have flagged : DomainLaw (s.flagDomain d (s.dom d).lock true) := domainLaw_congr (by simp) h
  unfold detect
  dsimp only
  split
  · split
    · exact settling
    · exact flagged
  · split
    · exact settling
    · exact flagged
  · split
    · split
      · exact domainLaw_returnInPhase s d h
      · exact settling
    · exact flagged
  · exact h

theorem domainLaw_settleFrame (s : State) (d : Dom) (h : DomainLaw s) : DomainLaw (s.settleFrame d) := by
  unfold settleFrame
  dsimp only
  split
  · next hsettling =>
    split
    · exact domainLaw_switchPoint _ d (domainLaw_lockedAndPlaced s d h)
    · next hcount =>
      refine domainLaw_setDom { h.record d with settling := ?_ } h
      show if (s.dom d).lock = .settling then (s.dom d).settleProgress + 1 < (s.dom d).settleCount else _
      rw [if_pos hsettling]
      exact Nat.not_le.1 hcount
  · exact h

theorem domainLaw_referenceStart (s : State) (d : Dom) (h : DomainLaw s) : DomainLaw (s.referenceStart d) := by
  unfold referenceStart
  dsimp only
  split
  · exact domainLaw_setDom { h.record d with } h
  · have judged : DomainLaw (s.judgeSpacing (since s.now ‹Time›)).2 := domainLaw_congr (by simp) h
    exact domainLaw_detect _ d (domainLaw_setDom { judged.record d with } judged)
  · exact domainLaw_setDom { h.record d with } h
  · split
    · exact domainLaw_departure s d h
    · split
      · exact domainLaw_detect _ d (domainLaw_setDom { h.record d with } h)
      · exact domainLaw_settleFrame _ d (domainLaw_setDom { h.record d with } h)

theorem domainLaw_holdoverFrame (s : State) (d : Dom) (hheld : (s.dom d).lock = .holdover) (h : DomainLaw s) :
    DomainLaw (s.holdoverFrame d) := by
  unfold holdoverFrame
  dsimp only
  split
  · refine domainLaw_setLock_of_ranges ?_ (fun e he => ?_) (by decide) (fun hl => by cases hl)
    · rw [dom_setDom_same]
      exact { (h.record d).toDomRanges with }
    · rw [dom_setDom, if_neg he]
      exact h.record e
  · next hcount =>
    refine domainLaw_switchPoint _ d (domainLaw_setDom { h.record d with held := ?_ } h)
    show if (s.dom d).lock = .holdover then (s.dom d).holdoverCount + 1 < (s.dom d).holdoverLimit else _
    rw [if_pos hheld]
    exact Nat.not_le.1 hcount

theorem domainLaw_lockedFrame (s : State) (d : Dom) (follows : Bool) (h : DomainLaw s) :
    DomainLaw (s.lockedFrame d follows) := by
  have switched := domainLaw_switchPoint _ d (domainLaw_placeTimer s d h)
  unfold lockedFrame
  dsimp only
  split
  · exact domainLaw_lockLoss _ d switched
  · split
    · exact switched
    · exact domainLaw_loseReference _ d none switched

theorem domainLaw_loseByTimeout (d : Dom) (s : State) (h : DomainLaw s) : DomainLaw (loseByTimeout d s) := by
  unfold loseByTimeout
  split
  · split
    · exact domainLaw_forgetReference s d none h
    · exact domainLaw_loseReference s d none h
  · exact h

theorem domainLaw_timerFrame (d : Dom) (follows : Bool) (s : State) (h : DomainLaw s) :
    DomainLaw (timerFrame d follows s) := by
  unfold timerFrame
  split
  · exact domainLaw_lockedFrame s d follows h
  · next hheld =>
    split
    · exact domainLaw_holdoverFrame s d hheld h
    · exact h
  · exact h

/-! ## The requests of the domains -/

theorem domainLaw_runSetDomain (domain standard settle holdover : Byte) (hold : U16) (s : State) (h : DomainLaw s) :
    DomainLaw (runSetDomain domain standard settle holdover hold s).2 := by
  unfold runSetDomain
  split
  · exact h
  · exact h
  · next d c _ _ =>
    split
    · exact h
    · next hs =>
      split
      · exact h
      · next ho =>
        split
        · exact h
        · next hh =>
          split
          · exact h
          · next hclosed =>
            simp only [within, Bool.not_eq_false, Bool.and_eq_true, decide_eq_true_eq] at hs ho hh
            exact domainLaw_setDom ((h.record d).configure c hs ho.2 hh (not_not.1 hclosed)) h

theorem domainLaw_runOpenDomain (domain : Byte) (s : State) (h : DomainLaw s) :
    DomainLaw (runOpenDomain domain s).2 := by
  unfold runOpenDomain
  split
  · exact h
  · next d _ =>
    split
    · exact h
    · have opened := domainLaw_setLock (d := d) (l := .acquiring) (by decide) (fun hl => by cases hl) h
      exact domainLaw_setDom { opened.record d with } opened

theorem domainLaw_runCloseDomain (domain mode : Byte) (s : State) (h : DomainLaw s) :
    DomainLaw (runCloseDomain domain mode s).2 := by
  obtain e | ⟨d, m, hopen, e⟩ := runCloseDomain_cases domain mode s <;> rw [e]
  · exact h
  · have closing : DomainLaw (s.setDom d { s.dom d with closing := some m }) :=
      domainLaw_setDom { h.record d with closed := fun hc => absurd hc hopen } h
    split <;> exact domainLaw_settled (by simp) closing

theorem domainLaw_runSetTimecode (domain : Byte) (value : U32) (s : State) (h : DomainLaw s) :
    DomainLaw (runSetTimecode domain value s).2 := by
  unfold runSetTimecode
  split
  · exact h
  · next d _ =>
    split
    · next hfits =>
      exact domainLaw_setDom { h.record d with
        pending := fun e he => by cases he; simpa [timecodeFits] using hfits } h
    · exact h

theorem domainLaw_runArmMark (domain mode : Byte) (preset : U32) (event : Byte) (s : State) (h : DomainLaw s) :
    DomainLaw (runArmMark domain mode preset event s).2 := by
  unfold runArmMark
  split
  · exact h
  · exact h
  · next d continuous _ _ =>
    split
    · exact h
    · next hfits =>
      split
      · exact h
      · split
        · exact h
        · have armed : DomainLaw (s.setDom d { s.dom d with
              markPreset := preset.toNat, markStatus := if continuous then .continuous else .armedSingle }) :=
            domainLaw_setDom { h.record d with markPreset := by simpa [timecodeFits] using hfits } h
          exact domainLaw_congr (by simp) armed

theorem domainLaw_runDisarmMark (domain : Byte) (s : State) (h : DomainLaw s) :
    DomainLaw (runDisarmMark domain s).2 := by
  unfold runDisarmMark
  split
  · exact h
  · next d _ =>
    have disarmed : DomainLaw (s.setDom d { s.dom d with
        markStatus := .idle, markCounter := 0
        pendingTimecode := (s.dom d).pendingTimecode.filter (fun e => decide (e.2 ≠ .mark)) }) :=
      domainLaw_setDom { h.record d with
        pending := fun e he => (h.record d).pending e (Option.filter_eq_some_iff.1 he).1 } h
    exact domainLaw_congr (by simp) disarmed

/-! ## Every command keeps it -/

theorem domainLaw_requestEffect (c : Instr) (s : State) (h : DomainLaw s) : DomainLaw (requestEffect c s).2 := by
  cases c with
  | take tag dest source panel c r =>
    show DomainLaw (runTake dest source panel c r s).2
    obtain e | ⟨q, a, t, ha, e⟩ := runTake_cases dest source panel c r s <;> rw [e]
    · exact h
    · obtain ⟨-, -, -, -, -, -, hdomains, -⟩ := admitTake_frame ha
      exact domainLaw_settled hdomains h
  | cancelTake tag slot gen =>
    show DomainLaw (runCancelTake slot gen s).2
    obtain e | ⟨i, t, -, -, e⟩ := runCancelTake_cases slot gen s <;> rw [e]
    · exact h
    · exact domainLaw_settled (by simp) h
  | fireSalvo tag salvo panel mode report =>
    show DomainLaw (runFireSalvo salvo panel mode report s).2
    obtain e | ⟨n, f, e⟩ := runFireSalvo_cases salvo panel mode report s <;> rw [e]
    · exact h
    · exact domainLaw_settled (by simp) h
  | undo tag panel =>
    show DomainLaw (runUndo panel s).2
    obtain e | ⟨u, rest, f, -, e⟩ := runUndo_cases panel s <;> rw [e]
    · exact h
    · exact domainLaw_settled (by simp) h
  | bindRecorder tag port dest policy event guardTime pollTimeout =>
    show DomainLaw (runBindRecorder port dest policy event guardTime pollTimeout s).2
    obtain e | ⟨p, c, -, -, -, -, -, e⟩ := runBindRecorder_cases port dest policy event guardTime pollTimeout s <;> rw [e]
    · exact h
    · exact domainLaw_settled (by simp) h
  | setDomain tag domain standard settle holdover hold => exact domainLaw_runSetDomain domain standard settle holdover hold s h
  | openDomain tag domain => exact domainLaw_runOpenDomain domain s h
  | closeDomain tag domain mode => exact domainLaw_runCloseDomain domain mode s h
  | setTimecode tag domain value => exact domainLaw_runSetTimecode domain value s h
  | armMark tag domain mode preset event => exact domainLaw_runArmMark domain mode preset event s h
  | disarmMark tag domain => exact domainLaw_runDisarmMark domain s h
  | setGpi tag input debounce =>
    show DomainLaw (runSetGpi input debounce s).2
    unfold runSetGpi
    split
    · exact h
    · split
      · exact h
      · exact domainLaw_judgeCandidate _ _ (domainLaw_congr (by simp) h)
  | readAttention tag =>
    show DomainLaw (runReadAttention s).2
    obtain e | ⟨f, e⟩ | ⟨r, l, -, e⟩ | ⟨i, l, x, -, -, e⟩ := runReadAttention_cases s <;> rw [e] <;> exact h
  | restart tag =>
    rw [requestEffect_restart]
    have served : DomainLaw s.restarted.serveClosings := domainLaw_serveClosings _ (domainLaw_congr (s := s) rfl h)
    exact domainLaw_congr (by simp) served
  | _ => exact domainLaw_congr (by simp [requestEffect]) h

theorem domainLaw_answer (s : State) (d : Dest) (x : Option Src) (h : DomainLaw s) : DomainLaw (s.answer d x) := by
  obtain e | ⟨r, -, -, ⟨y, -, e⟩ | ⟨-, e⟩⟩ := answer_cases s d x <;> rw [e]
  · exact h
  · exact domainLaw_settled (by simp) h
  · exact domainLaw_settled (by simp) h

theorem domainLaw_confirmOwn (s : State) (d : Dest) (x : Src) (h : DomainLaw s) : DomainLaw (s.confirmOwn d x) := by
  obtain e | ⟨i, -, e⟩ := confirmOwn_cases s d x <;> rw [e] <;> exact domainLaw_settled (by simp) h

theorem domainLaw_confirmForeign (s : State) (d : Dest) (x : Src) (h : DomainLaw s) :
    DomainLaw (s.confirmForeign d x) :=
  domainLaw_settled (by simp) h

theorem domainLaw_recorderStatus (s : State) (p : Port) (x : RecorderState) (h : DomainLaw s) :
    DomainLaw (s.recorderStatus p x) := by
  obtain e | ⟨-, e⟩ := recorderStatus_cases s p x <;> rw [e]
  · exact h
  · exact domainLaw_raise _ _ (domainLaw_settled (by simp) h)

theorem domainLaw_reset (x : Straps) (g : Vector GpiRec 8) (n : Nat) (l : List Instr) :
    DomainLaw (State.coldReset x g n l) := by
  refine (domainLaw_iff _).2 (fun d => ?_)
  have hdom : (State.coldReset x g n l).dom d = DomRec.reset := look_replicate ..
  rw [hdom]
  exact ⟨⟨by decide, by decide, by decide, by decide, by decide, by decide, by decide, fun e he => by cases he⟩,
    fun _ => rfl, rfl, rfl, fun hl => by cases hl⟩

theorem domainLaw_eventEffect (c : Instr) (s : State) (h : DomainLaw s) : DomainLaw (eventEffect c s) := by
  cases c with
  | coldReset m a b => exact domainLaw_reset _ _ _ _
  | confirmOwn d x => exact domainLaw_confirmOwn s d x h
  | confirmForeign d x => exact domainLaw_confirmForeign s d x h
  | answer d x => exact domainLaw_answer s d x h
  | discardedTransaction bytes =>
    exact hearTransaction_keeps domainLaw_confirmOwn domainLaw_confirmForeign domainLaw_answer bytes s h
  | answerTimeout =>
    show DomainLaw s.answerTimeout
    obtain e | ⟨r, -, e⟩ := answerTimeout_cases s <;> rw [e]
    · exact h
    · exact domainLaw_settled (by simp) h
  | absentTimerExpiry i =>
    show DomainLaw (s.expireAbsent i)
    obtain e | ⟨t, -, -, e⟩ := expireAbsent_cases s i <;> rw [e]
    · exact h
    · exact domainLaw_settled (by simp) h
  | holdLimitExpiry i =>
    show DomainLaw (expireHold i s)
    obtain e | ⟨-, e⟩ := expireHold_cases i s <;> rw [e]
    · exact h
    · exact domainLaw_settled (by simp) h
  | referenceFrameStart d => exact domainLaw_referenceStart s d h
  | referenceLossTimeout d => exact domainLaw_loseByTimeout d s h
  | timerFrameStart d follows => exact domainLaw_timerFrame d follows s h
  | gpiPinChange i high => exact domainLaw_gpiPin s i high h
  | debounceExpiry i => exact domainLaw_judgeCandidate s i h
  | status p x => exact domainLaw_recorderStatus s p x h
  | guardEnd p =>
    show DomainLaw (s.endGuard p)
    obtain e | ⟨-, e⟩ := endGuard_cases s p <;> rw [e]
    · exact h
    · exact domainLaw_raise _ _ (domainLaw_congr (by simp) h)
  | pollTimeout p =>
    show DomainLaw (s.recorderTimeout p)
    obtain e | ⟨f, -, e⟩ := recorderTimeout_cases s p <;> rw [e]
    · exact h
    · exact domainLaw_settled (by simp) h
  | recorderReplyDiscarded p bytes =>
    exact recorderBytes_keep (fun _ _ _ => domainLaw_congr (by simp)) domainLaw_recorderStatus
      (fun _ _ _ _ => domainLaw_congr (by simp)) p bytes s h
  | verifyInterval =>
    obtain e | ⟨-, e⟩ := verifyInterval_cases s <;> rw [e] <;> exact h
  | partnerByteGap l =>
    show DomainLaw (s.partnerGap l)
    rw [partnerGap_eq]
    exact h
  | _ => exact domainLaw_congr (by unfold eventEffect; simp) h

theorem step_keeps_domainLaw (s : State) (h : DomainLaw s) : Keeps DomainLaw (step s) :=
  step_keeps (fun _ _ _ h => h) (fun _ h => h)
    (exec_keeps_of_effects (fun _ _ h => h) domainLaw_requestEffect domainLaw_eventEffect) s h

end Sys2Proof.Machine
end

section
/-! PROOF. The matrix bus keeps its bounds: what takes and the pool leave of the bus, how many writes a window grants, and
what the readbacks and walks do (chapter 6). -/

namespace Sys2Proof.Machine

open State

/-! ## The bus apart from the pool's lists -/

/-- The bus record without what follows the takes: its retry lists, its ABSENT timers and the scrub cursors. -/
def Bus.still (b : Bus) : Bus := { b with retry := Vector.replicate 4 [], absent := [], cursor := Vector.replicate 4 0 }

@[simp] theorem delist_still (s : State) (i : Slot) (d : Dom) : (s.delist i d).bus.still = s.bus.still := rfl

@[simp] theorem endTake_still (s : State) (i : Slot) (o : TakeOutcome) : (s.endTake i o).bus.still = s.bus.still := by
  unfold endTake
  dsimp only
  split
  · rfl
  · split <;> simp

@[simp] theorem endAll_still (s : State) (is : List Slot) (o : TakeOutcome) : (s.endAll is o).bus.still = s.bus.still :=
  foldl_keep (fun t => t.bus.still) _ (fun t i => by simp) is s

@[simp] theorem allocate_still (s : State) (i : Slot) (q : AdmitFields) (p : Option EndedTake) :
    (s.allocate i q p).bus.still = s.bus.still := by
  unfold allocate
  dsimp only
  split <;> simp

theorem admitTake_still {s t : State} {q : AdmitFields} {a : Admitted} (h : s.admitTake q = some (a, t)) :
    t.bus.still = s.bus.still := by
  unfold admitTake at h
  split at h
  · split at h
    · cases h
    · cases h; simp
  · split at h
    · cases h
    · cases h; simp

@[simp] theorem domainStop_still (s : State) (d : Dom) : (s.domainStop d).bus.still = s.bus.still := rfl

@[simp] theorem setLock_still (s : State) (d : Dom) (l : LockState) : (s.setLock d l).bus.still = s.bus.still := by
  unfold setLock
  dsimp only
  split <;> simp

@[simp] theorem closeIfEmpty_still (s : State) (d : Dom) : (s.closeIfEmpty d).bus.still = s.bus.still := by
  unfold closeIfEmpty
  dsimp only
  split <;> simp

@[simp] theorem serveClosing_still (s : State) (d : Dom) : (s.serveClosing d).bus.still = s.bus.still := by
  unfold serveClosing flushDomain
  split
  · rw [closeIfEmpty_still]
    split <;> simp
  · rfl

@[simp] theorem serveClosings_still (s : State) : s.serveClosings.bus.still = s.bus.still := by simp [serveClosings]

@[simp] theorem settle_still (s : State) : s.settle.bus.still = s.bus.still := by simp [settle]

@[simp] theorem admitMember_still (f : Firing) (g : Group) (s : State) (j : Judged) :
    (admitMember f g s j).bus.still = s.bus.still := by
  unfold admitMember
  split
  · next h => exact admitTake_still h
  · rfl

theorem fireEntries_still (s : State) (f : Firing) (content : List (Dest × Src)) :
    (s.fireEntries f content).2.bus.still = s.bus.still := by
  obtain ⟨code, d, e⟩ | ⟨-, e⟩ := fireEntries_cases s f content
  · rw [e]
  · rw [e]
    obtain ⟨code, d, e⟩ | ⟨b, -, e⟩ := admitGroup_cases s f (s.passing f content) (firstFailure (content.map (s.judge f)))
    · rw [e]
    · rw [e]
      exact foldl_keep (fun t => t.bus.still) _ (fun t j => by simp) _ _

theorem fireSalvo_still (s : State) (n : Salvo) (f : Firing) : (s.fireSalvo n f).2.bus.still = s.bus.still := by
  obtain ⟨code, d, e⟩ | ⟨serial, a, b, first, t, he, e⟩ := fireSalvo_cases s n f <;> rw [e]
  have fired := fireEntries_still s f (look s.store.salvos n)
  rw [he] at fired
  simpa using fired

@[simp] theorem faultDest_still (s : State) (i : Slot) (d : Dest) : (s.faultDest i d).bus.still = s.bus.still := by
  unfold faultDest
  dsimp only
  split <;> simp

@[simp] theorem judgeDeadline_still (d : Dom) (s : State) (i : Slot) : (judgeDeadline d s i).bus.still = s.bus.still := by
  unfold judgeDeadline
  dsimp only
  split
  · rfl
  · split
    · split
      · simp
      · rfl
    · rfl

theorem moveCursor_still (s : State) (d : Dom) (l : List Dest) : (s.moveCursor d l).bus.still = s.bus.still := by
  unfold moveCursor
  split <;> rfl

theorem still_keptByWalk (b : Bus) (d : Dom) : KeptByWalk (fun t => t.bus.still = b) d where
  retest _ _ h := by simpa using h
  fail _ _ h := by simpa using h
  issue _ _ h := by simpa using h

/-! ## The budget of a window -/

/-- The writes granted and the budget left stay within the issue budget (R96). -/
def Grant.Within (g : Grant) : Prop := g.writes.length + g.budget ≤ 32

theorem filterMap_within {α β : Type} {f : α → Option β} {l : List α} {n : Nat} (h : l.length ≤ n) :
    (l.filterMap f).length + (n - l.length) ≤ n := by
  have := List.length_filterMap_le f l
  omega

/-- A stage that grants at most one write for each unit of budget it takes stays within. -/
theorem within_of_grant {α : Type} {g : Grant} {s : State} {f : α → Option BusWrite} {l : List α} (hl : l.length ≤ g.budget)
    (h : g.Within) : Grant.Within ⟨s, g.writes ++ l.filterMap f, g.budget - l.length⟩ := by
  have := filterMap_within (f := f) hl
  unfold Grant.Within at *
  rw [List.length_append]
  dsimp only
  omega

theorem forcedDests_length (s : State) (d : Dom) : (s.forcedDests d).length ≤ 18 := by
  unfold forcedDests
  split
  · exact List.length_take_le 18 _
  · exact Nat.zero_le _

theorem forcedScrub_within (s : State) (d : Dom) : (s.forcedScrub d).Within :=
  filterMap_within (n := 32) ((forcedDests_length s d).trans (by decide))

theorem grantRetries_within {g : Grant} (d : Dom) (h : g.Within) : (grantRetries g d).Within :=
  within_of_grant (List.length_take_le _ _) h

theorem issueAll_within {g : Grant} {is : List Slot} (d : Dom) (hl : is.length ≤ g.budget) (h : g.Within) :
    (issueAll d g is).Within :=
  within_of_grant hl h

theorem walkSingle_within {g : Grant} (d : Dom) (i : Slot) (hb : g.budget ≠ 0) (h : g.Within) :
    (walkSingle d g i).Within := by
  unfold walkSingle
  dsimp only
  split
  · exact h
  · split
    · exact h
    · exact issueAll_within d (Nat.one_le_iff_ne_zero.2 hb) h

theorem walkRun_within {g : Grant} (d : Dom) (run : List Slot) (h : g.Within) : (walkRun d g run).1.Within := by
  unfold walkRun
  dsimp only
  split
  · exact h
  · split
    · exact h
    · split
      · next hle => exact issueAll_within d hle h
      · split
        · exact issueAll_within d (List.length_take_le _ _) h
        · exact h

theorem walk_within (d : Dom) (fuel : Nat) (g : Grant) (q : List Slot) (h : g.Within) : (walk d fuel g q).Within := by
  induction fuel generalizing g q with
  | zero => exact h
  | succ fuel ih =>
    cases q with
    | nil => exact h
    | cons i rest =>
      unfold walk
      split
      · exact h
      · next hb =>
        split
        · exact ih _ _ (walkSingle_within d i hb h)
        · next run _ =>
          have ran := walkRun_within d run h
          split
          · next he => rw [he] at ran; exact ih _ _ ran
          · next he => rw [he] at ran; exact ran

theorem ordinaryScrub_within {g : Grant} (d : Dom) (forced : List Dest) (h : g.Within) :
    (ordinaryScrub g d forced).Within := by
  unfold ordinaryScrub
  dsimp only
  generalize hgr : min g.budget (min (2 + 2 * look g.state.bus.debt d) (g.state.scrubOrder d forced).length) = granted
  have hlen : ((g.state.scrubOrder d forced).take granted).length = granted := by
    rw [List.length_take]; omega
  have hle : ((g.state.scrubOrder d forced).take granted).length ≤ g.budget := by omega
  have := within_of_grant (f := g.state.scrubWrite) (s := (g.state.moveCursor d
    ((g.state.scrubOrder d forced).take granted)).setDebt d (debtAfter (look g.state.bus.debt d)
      (g.state.scrubOrder d forced).length granted)) hle h
  rwa [hlen] at this

/-- The state in which a window's deadlines have been judged (R97, R105). -/
def State.judged (s : State) (d : Dom) : State := (s.dropTimers d).judgeDeadlines d

/-- The grants of a window before its ordinary scrub: forced scrub, retries and selection (R96). -/
def State.selected (s : State) (d : Dom) (before : List Tag) : Grant :=
  selectTakes (grantRetries ((s.judged d).forcedScrub d) d) d before

/-- The grants of a window up to its transfer (R96). -/
def State.windowGrant (s : State) (d : Dom) (before : List Tag) : Grant :=
  ordinaryScrub (s.selected d before) d ((s.judged d).forcedDests d)

theorem selected_within (s : State) (d : Dom) (before : List Tag) : (s.selected d before).Within :=
  walk_within d _ _ _ (grantRetries_within d (forcedScrub_within _ d))

theorem windowGrant_within (s : State) (d : Dom) (before : List Tag) : (s.windowGrant d before).Within :=
  ordinaryScrub_within d _ (selected_within s d before)

/-- A window's grants, in one transfer if there are any (R96). -/
theorem issueWindow_eq (s : State) (d : Dom) (before : List Tag) :
    s.issueWindow d before =
      if (s.windowGrant d before).writes = [] then (s.windowGrant d before).state
      else { (s.windowGrant d before).state with bus := { (s.windowGrant d before).state.bus with
        transfers := (s.windowGrant d before).state.bus.transfers ++ [(s.windowGrant d before).writes] } } := by
  unfold issueWindow windowGrant selected judged
  dsimp only

/-! ## The scrub debt -/

theorem debt_still (b : Bus) : b.still.debt = b.debt := rfl

theorem debt_of_still {b c : Bus} (h : b.still = c.still) : b.debt = c.debt := by
  rw [← debt_still, h, debt_still]

theorem judged_still (s : State) (d : Dom) : (s.judged d).bus.still = s.bus.still :=
  foldl_keep (fun t => t.bus.still) _ (fun t i => by simp) _ _

theorem grantRetries_still (g : Grant) (d : Dom) : (grantRetries g d).state.bus.still = g.state.bus.still := by
  have reissued (l : List Tag) : (l.foldl (reissue (g.state.dom d).number) g.state).bus.still = g.state.bus.still :=
    foldl_keep (fun t => t.bus.still) _ (fun t i => by simp) _ _
  exact reissued _

theorem setDebt_still (s : State) (d : Dom) (n : Nat) :
    (s.setDebt d n).bus.still = { s.bus.still with debt := put s.bus.debt d n } := rfl

/-- A forced scrub changes of the bus its domain's debt alone, which it clears (R98). -/
theorem forcedScrub_still (s : State) (d : Dom) :
    (s.forcedScrub d).state.bus.still =
      { s.bus.still with debt := if look s.bus.debt d = 8 then put s.bus.debt d 0 else s.bus.debt } := by
  have moved := moveCursor_still s d (s.forcedDests d)
  have hdebt := debt_of_still moved
  by_cases h8 : look s.bus.debt d = 8
  · have e : (s.forcedScrub d).state = (s.moveCursor d (s.forcedDests d)).setDebt d 0 := if_pos h8
    rw [e, setDebt_still, moved, hdebt, if_pos h8]
  · have e : (s.forcedScrub d).state = s.moveCursor d (s.forcedDests d) := if_neg h8
    rw [e, moved, if_neg h8]
    rfl

/-- Before its ordinary scrub a window has changed of the bus its domain's debt alone, cleared if it was 8. -/
theorem selected_still (s : State) (d : Dom) (before : List Tag) :
    (s.selected d before).state.bus.still =
      { s.bus.still with debt := if look s.bus.debt d = 8 then put s.bus.debt d 0 else s.bus.debt } := by
  refine (still_keptByWalk _ d).selectTakes _ before ?_
  rw [grantRetries_still, forcedScrub_still, judged_still, debt_of_still (judged_still s d)]

/-- The ordinary scrub changes of the bus its domain's debt alone (R100). -/
theorem ordinaryScrub_still (g : Grant) (d : Dom) (forced : List Dest) :
    ∃ eligible granted, (ordinaryScrub g d forced).state.bus.still = { g.state.bus.still with
      debt := put g.state.bus.debt d (debtAfter (look g.state.bus.debt d) eligible granted) } := by
  refine ⟨(g.state.scrubOrder d forced).length,
    min g.budget (min (2 + 2 * look g.state.bus.debt d) (g.state.scrubOrder d forced).length), ?_⟩
  have moved (l : List Dest) := moveCursor_still g.state d l
  unfold ordinaryScrub
  dsimp only
  rw [setDebt_still, moved, debt_of_still (moved _)]

theorem debtAfter_le {debt eligible granted : Nat} (h : debt ≤ 7) : debtAfter debt eligible granted ≤ 8 := by
  unfold debtAfter
  split
  · omega
  · split
    · split <;> omega
    · omega

/-! ## The law over the bus without the pool's lists -/

/-- BusLaw of a bus record. -/
structure BusBounds (b : Bus) : Prop where
  debt : ∀ d, look b.debt d ≤ 8
  discrepancies : b.discrepancies.length ≤ 16
  priority : b.priority.Nodup
  interval : b.interval ≤ 3600
  transfers : ∀ ws ∈ b.transfers, ws ≠ [] ∧ ws.length ≤ 32
  walk : b.walk = .none → b.walkCursor = 0
  readback : ∀ r, b.readback = some r → (r.kind = .walk → b.walk ≠ .none ∧ r.dest = b.walkCursor) ∧
    (r.compare = true → r.kind = .walk ∧ b.walk = .verify ∧ b.discrepancies.length < 16)

theorem busLaw_iff (s : State) : BusLaw s ↔ BusBounds s.bus :=
  ⟨fun ⟨h1, h2, h3, h4, h5, h6, h7⟩ => ⟨h1, h2, h3, h4, h5, h6, h7⟩,
    fun ⟨h1, h2, h3, h4, h5, h6, h7⟩ => ⟨h1, h2, h3, h4, h5, h6, h7⟩⟩

theorem busBounds_still (b : Bus) : BusBounds b.still ↔ BusBounds b :=
  ⟨fun ⟨h1, h2, h3, h4, h5, h6, h7⟩ => ⟨h1, h2, h3, h4, h5, h6, h7⟩,
    fun ⟨h1, h2, h3, h4, h5, h6, h7⟩ => ⟨h1, h2, h3, h4, h5, h6, h7⟩⟩

theorem BusLaw.bounds {s : State} (h : BusLaw s) : BusBounds s.bus := (busLaw_iff s).1 h

theorem busLaw_congr {s t : State} (e : t.bus.still = s.bus.still) (h : BusLaw s) : BusLaw t := by
  rw [busLaw_iff, ← busBounds_still, e, busBounds_still]
  exact h.bounds

theorem busLaw_of_bus {s t : State} (e : t.bus = s.bus) (h : BusLaw s) : BusLaw t := busLaw_congr (by rw [e]) h

/-- The debts before the ordinary scrub are within the limit, and the window's own below it. -/
theorem selected_debt {s : State} (h : BusBounds s.bus) (d : Dom) (before : List Tag) :
    (∀ e, look (s.selected d before).state.bus.debt e ≤ 8) ∧ look (s.selected d before).state.bus.debt d ≤ 7 := by
  have hdebt : (s.selected d before).state.bus.debt = if look s.bus.debt d = 8 then put s.bus.debt d 0 else s.bus.debt := by
    rw [← debt_still, selected_still]
  rw [hdebt]
  split
  · refine ⟨fun e => ?_, by simp⟩
    rw [look_put]
    split
    · exact Nat.zero_le 8
    · exact h.debt e
  · next h8 =>
    have hd := h.debt d
    exact ⟨h.debt, by omega⟩

theorem windowGrant_bounds {s : State} (h : BusBounds s.bus) (d : Dom) (before : List Tag) :
    BusBounds (s.windowGrant d before).state.bus := by
  obtain ⟨hall, hown⟩ := selected_debt h d before
  obtain ⟨eligible, granted, e⟩ := ordinaryScrub_still (s.selected d before) d ((s.judged d).forcedDests d)
  have still : (s.windowGrant d before).state.bus.still = { s.bus.still with
      debt := put (s.selected d before).state.bus.debt d
        (debtAfter (look (s.selected d before).state.bus.debt d) eligible granted) } := by
    unfold windowGrant
    rw [e, selected_still]
  rw [← busBounds_still, still]
  refine { h with debt := fun e => ?_ }
  show look (put _ _ _) e ≤ 8
  rw [look_put]
  split
  · exact debtAfter_le hown
  · exact hall e

/-- A window keeps the bounds: one transfer of at most 32 writes, and a debt that a forced scrub has cleared (R96, R100). -/
theorem busLaw_issueWindow (s : State) (d : Dom) (before : List Tag) (h : BusLaw s) : BusLaw (s.issueWindow d before) := by
  have bounds := windowGrant_bounds h.bounds d before
  have within := windowGrant_within s d before
  rw [busLaw_iff, issueWindow_eq]
  generalize s.windowGrant d before = g at bounds within ⊢
  split
  · exact bounds
  · next hne =>
    refine { bounds with transfers := fun ws hws => ?_ }
    obtain hws | hws := List.mem_append.1 hws
    · exact bounds.transfers ws hws
    · obtain rfl := List.mem_singleton.1 hws
      exact ⟨hne, (Nat.le_add_right _ _).trans within⟩

end Sys2Proof.Machine
end

section
/-! PROOF. The matrix bus through readbacks, walks and answers, and its law through every command (R107 to R118). -/

namespace Sys2Proof.Machine

open State

/-! ## What the own takes and the actions leave of the bus -/

theorem admitOwn_cases {s t : State} {d : Dest} {x : Src} {o : TakeOrigin} {p : Panel} {a : Admitted}
    (h : s.admitOwn d x o p = .ok (a, t)) : ∃ q, s.admitTake q = some (a, t) := by
  unfold admitOwn at h
  split at h
  · cases h
  · split at h
    · cases h
    · next b hb => cases h; exact ⟨_, hb⟩

@[simp] theorem repair_still (s : State) (d : Dest) (y : Src) : (s.repair d y).2.bus.still = s.bus.still := by
  unfold repair
  split
  · rfl
  · split
    · rfl
    · next h =>
      obtain ⟨q, h⟩ := admitOwn_cases h
      exact admitTake_still h

@[simp] theorem restore_still (s : State) (d : Dest) (lock : Protect) (x : Src) (before : Option Src) :
    (s.restore d lock x before).2.bus.still = s.bus.still := by
  unfold restore
  split
  · rfl
  · split
    · rfl
    · split
      · rfl
      · split
        · rfl
        · split
          · rfl
          · next h =>
            obtain ⟨q, h⟩ := admitOwn_cases h
            exact admitTake_still h

@[simp] theorem breach_still (s : State) (d : Dest) (x : Src) (before : Option Src) :
    (s.breach d x before).bus.still = s.bus.still := by
  unfold breach
  split
  · rfl
  · split
    · rfl
    · simp

theorem busLaw_arrive (s : State) (a : Arrival) (h : BusLaw s) : BusLaw (s.arrive a).1 := by
  cases a with
  | window d before => rw [arrive_window]; exact busLaw_issueWindow s d before h
  | action k branch a =>
    have carried : (s.carryOut k a).2.bus.still = s.bus.still := by
      cases a with
      | fireSalvo n => exact fireSalvo_still s n _
      | _ => simp [carryOut]
    show BusLaw (s.runAction k branch a)
    unfold runAction
    dsimp only
    split <;> exact busLaw_congr (by simpa using carried) h
  | _ => exact busLaw_of_bus (by simp [arrive]) h

theorem busLaw_keptByDelivery : KeptByDelivery BusLaw where
  setDom s d r h := busLaw_of_bus (by simp) h
  setLock s d l h := busLaw_congr (by simp) h
  flagDomain s d l m h := busLaw_of_bus (by simp) h
  setGpi s i r h := busLaw_of_bus (by simp) h
  choose s n h := busLaw_of_bus (by simp) h
  event s a h := busLaw_congr (by simp) (busLaw_arrive s a h)

/-! ## Walks -/

theorem walkOn_bus (s : State) (d : Dest) :
    (s.walkOn d).bus = if d = 255 then { s.bus with walk := .none, walkCursor := 0, intervalStart := s.now }
      else { s.bus with walkCursor := d + 1 } := by
  unfold walkOn
  split <;> rfl

/-- A walk with no readback outstanding moves on (R110). -/
theorem walkOn_bounds {s : State} {d : Dest} (hread : s.bus.readback = none) (hwalk : s.bus.walk ≠ .none)
    (h : BusBounds s.bus) : BusBounds (s.walkOn d).bus := by
  rw [walkOn_bus]
  split
  · exact { h with walk := fun _ => rfl, readback := fun r hr => by rw [hread] at hr; cases hr }
  · exact { h with
      walk := fun hn => absurd hn hwalk
      readback := fun r hr => by rw [hread] at hr; cases hr }

theorem walkOn_readback (s : State) (d : Dest) : (s.walkOn d).bus.readback = s.bus.readback := by
  rw [walkOn_bus]; split <;> rfl

/-- The walk is not paused: a compared readback leaves room for its record (R111, R113). -/
theorem walkPaused_eq_false {s : State} :
    s.walkPaused = false ↔ (s.bus.walk = .verify → s.bus.discrepancies.length < 16) := by
  unfold walkPaused
  rw [Bool.and_eq_false_imp]
  simp only [decide_eq_true_eq, decide_eq_false_iff_not, Nat.not_le]
  rfl

theorem walkOn_walkPaused {s : State} (d : Dest) (h : s.walkPaused = false) : (s.walkOn d).walkPaused = false := by
  rw [walkPaused_eq_false] at h ⊢
  rw [walkOn_bus]
  split
  · exact fun hn => by cases hn
  · exact h

/-- A walk's readback reads the cursor, and is compared only with room for a record (R107, R111). -/
theorem sendReadback_walk_bounds {s : State} (hwalk : s.bus.walk ≠ .none) (hroom : s.walkPaused = false)
    (h : BusBounds s.bus) : BusBounds (s.sendReadback s.bus.walkCursor .walk).bus := by
  refine { h with readback := fun r hr => ?_ }
  cases hr
  refine ⟨fun _ => ⟨hwalk, rfl⟩, fun hc => ?_⟩
  simp only [Bool.and_eq_true, decide_eq_true_eq] at hc
  exact ⟨rfl, hc.1.2, walkPaused_eq_false.1 hroom hc.1.2⟩

theorem walkNext_bounds (fuel : Nat) (s : State) (hread : s.bus.readback = none) (hroom : s.walkPaused = false)
    (h : BusBounds s.bus) : BusBounds (walkNext fuel s).bus := by
  induction fuel generalizing s with
  | zero => exact h
  | succ fuel ih =>
    unfold walkNext
    split
    · exact h
    · next hwalk =>
      split
      · exact sendReadback_walk_bounds hwalk hroom h
      · exact ih _ (by rw [walkOn_readback, hread]) (walkOn_walkPaused _ hroom) (walkOn_bounds hread hwalk h)

theorem busLaw_readbackNext (s : State) (h : BusLaw s) : BusLaw s.readbackNext := by
  have bounds := h.bounds
  rw [busLaw_iff]
  unfold readbackNext
  split
  · next hfree =>
    split
    · exact { bounds with
        priority := bounds.priority.filter _
        readback := fun r hr => by
          cases hr
          exact ⟨fun hk => (nomatch hk), fun hc => (nomatch hc)⟩ }
    · split
      · exact bounds
      · next hroom =>
        unfold busFree at hfree
        simp only [Bool.and_eq_true, Option.isNone_iff_eq_none] at hfree
        exact walkNext_bounds _ s hfree.1 (Bool.eq_false_iff.2 hroom) bounds
  · exact bounds

/-! ## Answers -/

/-- The outstanding readback ends; a walk's, which is of a walk in progress, moves it on (R108, R110). -/
theorem endReadback_bounds {s : State} {r : Readback} (hwalk : r.kind = .walk → s.bus.walk ≠ .none)
    (h : BusBounds { s.bus with readback := none }) : BusBounds (s.endReadback r).bus := by
  unfold endReadback
  dsimp only
  split
  · next hk => exact walkOn_bounds (s := s.setBus { s.bus with readback := none }) rfl (hwalk hk) h
  · exact h

theorem BusBounds.ended {b : Bus} {l : List Discrepancy} (h : BusBounds b) (hl : l.length ≤ 16) :
    BusBounds { b with readback := none, discrepancies := l } :=
  { h with discrepancies := hl, readback := fun r hr => by cases hr }

theorem discrepant_compare {s : State} {r : Readback} {x y : Src} (h : s.discrepant r x = some y) : r.compare = true := by
  unfold discrepant at h
  split at h
  · next hc =>
    simp only [Bool.and_eq_true] at hc
    exact hc.1.1
  · cases h

theorem busLaw_answerSource {s : State} {r : Readback} (hr : s.bus.readback = some r) (x : Src) (h : BusLaw s) :
    BusLaw (s.answerSource r x) := by
  have bounds := h.bounds
  obtain ⟨hwalk, hroom⟩ := bounds.readback r hr
  have learned : (s.applyReport r.dest x .learned).bus = s.bus := by simp
  unfold answerSource
  dsimp only
  split
  · rw [busLaw_iff]
    refine endReadback_bounds (by rw [learned]; exact fun hk => (hwalk hk).1) ?_
    rw [learned]
    exact bounds.ended bounds.discrepancies
  · next y hy =>
    have compared := discrepant_compare hy
    have hlen := (hroom compared).2.2
    have still := repair_still (s.applyReport r.dest x .learned) r.dest y
    rw [learned] at still
    have repaired : BusBounds ((s.applyReport r.dest x .learned).repair r.dest y).2.bus := by
      rw [← busBounds_still, still, busBounds_still]; exact bounds
    have walks := congrArg Bus.walk still
    have records := congrArg Bus.discrepancies still
    generalize (s.applyReport r.dest x .learned).repair r.dest y = o at still repaired walks records
    rw [busLaw_iff]
    refine endReadback_bounds (fun hk => ?_) (repaired.ended ?_)
    · show o.2.bus.walk ≠ .none
      exact fun hn => (hwalk hk).1 (walks.symm.trans hn)
    · show (o.2.bus.discrepancies ++ [_]).length ≤ 16
      have hl : o.2.bus.discrepancies = s.bus.discrepancies := records
      rw [List.length_append, hl]
      exact hlen

theorem busLaw_answerNone {s : State} {r : Readback} (hr : s.bus.readback = some r) (h : BusLaw s) :
    BusLaw (s.answerNone r) := by
  have bounds := h.bounds
  obtain ⟨hwalk, -⟩ := bounds.readback r hr
  have applied : (s.applyNoAnswer r.dest).bus = s.bus := by simp
  rw [busLaw_iff]
  refine endReadback_bounds (by rw [applied]; exact fun hk => (hwalk hk).1) ?_
  rw [applied]
  exact bounds.ended bounds.discrepancies

theorem busLaw_settled {s : State} (h : BusLaw s) : BusLaw s.settle := busLaw_congr (by simp) h

theorem busLaw_answer (s : State) (d : Dest) (x : Option Src) (h : BusLaw s) : BusLaw (s.answer d x) := by
  obtain e | ⟨r, hr, -, ⟨y, -, e⟩ | ⟨-, e⟩⟩ := answer_cases s d x <;> rw [e]
  · exact h
  · exact busLaw_settled (busLaw_answerSource hr y h)
  · exact busLaw_settled (busLaw_answerNone hr h)

theorem busLaw_confirmOwn (s : State) (d : Dest) (x : Src) (h : BusLaw s) : BusLaw (s.confirmOwn d x) := by
  obtain e | ⟨i, -, e⟩ := confirmOwn_cases s d x <;> rw [e]
  · exact busLaw_settled (busLaw_of_bus (by simp) h)
  · exact busLaw_settled (busLaw_congr (by simp) h)

theorem busLaw_confirmForeign (s : State) (d : Dest) (x : Src) (h : BusLaw s) : BusLaw (s.confirmForeign d x) :=
  busLaw_settled (busLaw_congr (by simp) h)

/-! ## The priority list, the verify walk and RESTART -/

theorem busLaw_joinPriority (s : State) (d : Dest) (h : BusLaw s) : BusLaw (s.joinPriority d) := by
  unfold joinPriority
  split
  · exact h
  · next hnot =>
    rw [busLaw_iff]
    refine { h.bounds with priority := ?_ }
    refine List.nodup_append.2 ⟨h.bounds.priority, List.nodup_singleton d, fun a ha b hb => ?_⟩
    obtain rfl := List.mem_singleton.1 hb
    exact fun e => hnot (List.contains_iff_mem.2 (e ▸ ha))

/-- A verify walk begins with no walk in progress, whose readback there can be none (R115, R118). -/
theorem busLaw_beginVerify {s : State} (hn : s.bus.walk = .none) (h : BusLaw s) : BusLaw s.beginVerify := by
  have bounds := h.bounds
  rw [busLaw_iff]
  refine { bounds with walk := fun hw => (nomatch hw), readback := fun r hr => ⟨fun hk => ?_, fun hc => ?_⟩ }
  · exact absurd hn ((bounds.readback r hr).1 hk).1
  · rw [((bounds.readback r hr).2 hc).2.1] at hn
    cases hn

theorem faulted_nodup (s : State) : s.faulted.Nodup := by
  have all : (entries s.dests).map Prod.fst = List.finRange 256 := by
    unfold entries
    rw [List.map_fst_zip (by simp)]
  have sub := (List.filter_sublist (p := fun e : Dest × DestRec => decide (e.2.output = .faulted)) (l := entries s.dests)).map
    Prod.fst
  rw [all] at sub
  exact (List.nodup_finRange 256).sublist sub

theorem BusBounds.restart {b : Bus} {faulted : List Dest} (hf : faulted.Nodup) (h : BusBounds b) :
    BusBounds (b.restart faulted) := by
  refine { h with
    discrepancies := Nat.zero_le 16
    priority := List.nodup_append.2 ⟨h.priority, hf.filter _, fun a ha c hc e => ?_⟩
    readback := fun r hr => ⟨(h.readback r hr).1, fun hc => ?_⟩ }
  · obtain ⟨-, hnot⟩ := List.mem_filter.1 hc
    simp only [Bool.not_eq_true', List.contains_eq_mem, decide_eq_false_iff_not] at hnot
    exact hnot (e ▸ ha)
  · obtain ⟨hk, hw, -⟩ := (h.readback r hr).2 hc
    exact ⟨hk, hw, show 0 < 16 by decide⟩

theorem busLaw_restarted (s : State) (h : BusLaw s) : BusLaw s.restarted :=
  (busLaw_iff _).2 (h.bounds.restart (faulted_nodup s))

/-! ## Every command keeps it -/

theorem busLaw_runSetVerify (interval : U16) (policy : Byte) (s : State) (h : BusLaw s) :
    BusLaw (runSetVerify interval policy s).2 := by
  unfold runSetVerify
  split
  · exact h
  · next hle =>
    split
    · exact h
    · rw [busLaw_iff]
      exact { h.bounds with interval := Nat.not_lt.1 hle }

theorem busLaw_requestEffect (c : Instr) (s : State) (h : BusLaw s) : BusLaw (requestEffect c s).2 := by
  cases c with
  | take tag dest source panel c r =>
    show BusLaw (runTake dest source panel c r s).2
    obtain e | ⟨q, a, t, ha, e⟩ := runTake_cases dest source panel c r s <;> rw [e]
    · exact h
    · exact busLaw_settled (busLaw_congr (admitTake_still ha) h)
  | cancelTake tag slot gen =>
    show BusLaw (runCancelTake slot gen s).2
    obtain e | ⟨i, t, -, -, e⟩ := runCancelTake_cases slot gen s <;> rw [e]
    · exact h
    · exact busLaw_congr (by simp) h
  | fireSalvo tag salvo panel mode report =>
    show BusLaw (runFireSalvo salvo panel mode report s).2
    obtain e | ⟨n, f, e⟩ := runFireSalvo_cases salvo panel mode report s <;> rw [e]
    · exact h
    · exact busLaw_settled (busLaw_congr (fireSalvo_still s n f) h)
  | undo tag panel =>
    show BusLaw (runUndo panel s).2
    obtain e | ⟨u, rest, f, -, e⟩ := runUndo_cases panel s <;> rw [e]
    · exact h
    · exact busLaw_settled (busLaw_congr (fireEntries_still s f u.pairs) h)
  | bindRecorder tag port dest policy event guardTime pollTimeout =>
    show BusLaw (runBindRecorder port dest policy event guardTime pollTimeout s).2
    obtain e | ⟨p, c, -, -, -, -, -, e⟩ := runBindRecorder_cases port dest policy event guardTime pollTimeout s <;> rw [e]
    · exact h
    · exact busLaw_congr (by simp) h
  | openDomain tag domain => exact busLaw_keptByDelivery.runOpenDomain domain s h
  | closeDomain tag domain mode =>
    show BusLaw (runCloseDomain domain mode s).2
    obtain e | ⟨d, m, -, e⟩ := runCloseDomain_cases domain mode s <;> rw [e]
    · exact h
    · split <;> exact busLaw_congr (by simp [flushDomain]) h
  | setGpi tag input debounce => exact busLaw_keptByDelivery.runSetGpi input debounce s h
  | setVerify tag interval policy => exact busLaw_runSetVerify interval policy s h
  | startWalk tag =>
    show BusLaw (runStartWalk s).2
    unfold runStartWalk
    split
    · next hn => exact busLaw_beginVerify hn h
    · exact h
  | clearFault tag dest =>
    show BusLaw (runClearFault dest s).2
    unfold runClearFault
    dsimp only
    split
    · have changed : BusLaw (s.outputEvent dest.toFin .clearFault) := busLaw_of_bus (by simp) h
      have joined := busLaw_joinPriority _ dest.toFin changed
      exact busLaw_of_bus (by simp) joined
    · exact h
  | readAttention tag =>
    show BusLaw (runReadAttention s).2
    obtain e | ⟨f, e⟩ | ⟨r, l, hl, e⟩ | ⟨i, l, x, -, -, e⟩ := runReadAttention_cases s <;> rw [e]
    · exact h
    · exact h
    · have bounds := h.bounds
      have hlen : l.length < s.bus.discrepancies.length := by rw [hl]; exact Nat.lt_succ_self _
      refine (busLaw_iff _).2 { bounds with
        discrepancies := hlen.le.trans bounds.discrepancies
        readback := fun r hr => ⟨(bounds.readback r hr).1, fun hc => ?_⟩ }
      obtain ⟨hk, hw, hroom⟩ := (bounds.readback r hr).2 hc
      exact ⟨hk, hw, hlen.trans hroom⟩
    · exact h
  | restart tag =>
    rw [requestEffect_restart]
    exact busLaw_congr (by simp) (busLaw_restarted s h)
  | _ => exact busLaw_of_bus (by simp [requestEffect]) h

theorem busLaw_reset (x : Straps) (g : Vector GpiRec 8) (n : Nat) (l : List Instr) :
    BusLaw (State.coldReset x g n l) := by
  refine (busLaw_iff _).2 ⟨fun d => ?_, Nat.zero_le 16, List.nodup_nil, Nat.zero_le _, fun ws h => (nomatch h),
    fun h => (nomatch h), fun r h => (nomatch h)⟩
  have hdebt : look (State.coldReset x g n l).bus.debt d = 0 := look_replicate ..
  exact hdebt ▸ Nat.zero_le 8

theorem busLaw_recorderStatus (s : State) (p : Port) (x : RecorderState) (h : BusLaw s) :
    BusLaw (s.recorderStatus p x) := by
  obtain e | ⟨-, e⟩ := recorderStatus_cases s p x <;> rw [e]
  · exact h
  · exact busLaw_keptByDelivery.raise _ _ (busLaw_congr (by simp) h)

theorem busLaw_eventEffect (c : Instr) (s : State) (h : BusLaw s) : BusLaw (eventEffect c s) := by
  cases c with
  | coldReset m a b => exact busLaw_reset _ _ _ _
  | confirmOwn d x => exact busLaw_confirmOwn s d x h
  | confirmForeign d x => exact busLaw_confirmForeign s d x h
  | answer d x => exact busLaw_answer s d x h
  | discardedTransaction bytes =>
    exact hearTransaction_keeps busLaw_confirmOwn busLaw_confirmForeign busLaw_answer bytes s h
  | answerTimeout =>
    show BusLaw s.answerTimeout
    obtain e | ⟨r, hr, e⟩ := answerTimeout_cases s <;> rw [e]
    · exact h
    · exact busLaw_settled (busLaw_answerNone hr h)
  | readback => exact busLaw_readbackNext s h
  | transferEnd =>
    refine (busLaw_iff _).2 { h.bounds with transfers := fun ws hws => ?_ }
    exact h.bounds.transfers ws (List.mem_of_mem_tail hws)
  | absentTimerExpiry i =>
    show BusLaw (s.expireAbsent i)
    obtain e | ⟨t, -, -, e⟩ := expireAbsent_cases s i <;> rw [e]
    · exact h
    · exact busLaw_settled (busLaw_joinPriority _ _ (busLaw_congr (by simp) h))
  | holdLimitExpiry i =>
    show BusLaw (expireHold i s)
    obtain e | ⟨-, e⟩ := expireHold_cases i s <;> rw [e]
    · exact h
    · exact busLaw_congr (by simp) h
  | referenceFrameStart d => exact busLaw_keptByDelivery.referenceStart s d h
  | referenceLossTimeout d => exact busLaw_keptByDelivery.loseByTimeout d s h
  | timerFrameStart d follows => exact busLaw_keptByDelivery.timerFrame d follows s h
  | gpiPinChange i high => exact busLaw_keptByDelivery.gpiPin s i high h
  | debounceExpiry i => exact busLaw_keptByDelivery.judgeCandidate s i h
  | status p x => exact busLaw_recorderStatus s p x h
  | guardEnd p =>
    show BusLaw (s.endGuard p)
    obtain e | ⟨-, e⟩ := endGuard_cases s p <;> rw [e]
    · exact h
    · exact busLaw_keptByDelivery.raise _ _ (busLaw_of_bus (by simp) h)
  | pollTimeout p =>
    show BusLaw (s.recorderTimeout p)
    obtain e | ⟨f, -, e⟩ := recorderTimeout_cases s p <;> rw [e]
    · exact h
    · exact busLaw_congr (by simp) h
  | recorderReplyDiscarded p bytes =>
    exact recorderBytes_keep (fun _ _ _ => busLaw_of_bus (by simp)) busLaw_recorderStatus
      (fun _ _ _ _ => busLaw_of_bus (by simp)) p bytes s h
  | verifyInterval =>
    obtain e | ⟨hn, e⟩ := verifyInterval_cases s <;> rw [e]
    · exact h
    · exact busLaw_beginVerify hn h
  | partnerByteGap l =>
    show BusLaw (s.partnerGap l)
    rw [partnerGap_eq]
    exact h
  | _ => exact busLaw_of_bus (by unfold eventEffect; simp) h

theorem step_keeps_busLaw (s : State) (h : BusLaw s) : Keeps BusLaw (step s) :=
  step_keeps (fun _ _ _ h => h) (fun _ h => h)
    (exec_keeps_of_effects (fun _ _ h => h) busLaw_requestEffect busLaw_eventEffect) s h

/-- Settles O58: a step keeps the law of the domains and the law of the bus. -/
theorem stepKeepsDomainAndBusLaws : Obligations.StepKeepsDomainAndBusLaws := ⟨step_keeps_domainLaw, step_keeps_busLaw⟩

end Sys2Proof.Machine
end

section
/-! PROOF. The tally counts of the sources (R10 to R13): a count is a sum over the destinations, and a report, a change of
role, a recorder's report and a binding each move one destination's share of it. -/

namespace Sys2Proof.Machine

open State

/-! ## Counts as sums over the destinations -/

/-- The three counts of a source: programme, preview, record. -/
def SrcRec.counts (r : SrcRec) : Nat × Nat × Nat := (r.programme, r.preview, r.record)

/-- What a destination gives to the counts of source `x`: its share if it carries `x`. -/
def part (a : Option Src) (share : Nat × Nat × Nat) (x : Src) : Nat × Nat × Nat := if a = some x then share else 0

theorem part_none (share : Nat × Nat × Nat) (x : Src) : part none share x = 0 := rfl

theorem part_add (a : Option Src) (g h : Nat × Nat × Nat) (x : Src) : part a (g + h) x = part a g x + part a h x := by
  unfold part
  split <;> simp

/-- The share of a destination that records as `rec` says. -/
def State.shareIf (s : State) (rec : Dest → Bool) (d : Dest) : Nat × Nat × Nat := tallyShare (s.dest d).role (rec d)

/-- The counts a source has when the destinations record as `rec` says. -/
def State.carriedIf (s : State) (rec : Dest → Bool) (x : Src) : Nat × Nat × Nat :=
  ∑ d, part (s.dest d).source (s.shareIf rec d) x

/-- The counts of a source that the destinations account for (R10). -/
def State.carried (s : State) (x : Src) : Nat × Nat × Nat := s.carriedIf s.recording x

theorem length_filter_finRange {n : Nat} (p : Fin n → Bool) :
    ((List.finRange n).filter p).length = ∑ d, if p d then 1 else 0 := by
  rw [← Finset.card_filter]
  have e : (List.finRange n).filter p = (List.finRange n).filter (fun d => decide (p d = true)) := by simp
  rw [e]
  rfl

theorem part_fst (a : Option Src) (r : Role) (b : Bool) (x : Src) :
    (part a (tallyShare r b) x).1 = if decide (a = some x) && decide (r = .programme) then 1 else 0 := by
  by_cases h : a = some x <;> simp [part, tallyShare, h]

theorem part_snd_fst (a : Option Src) (r : Role) (b : Bool) (x : Src) :
    (part a (tallyShare r b) x).2.1 = if decide (a = some x) && decide (r = .preview) then 1 else 0 := by
  by_cases h : a = some x <;> simp [part, tallyShare, h]

theorem part_snd_snd (a : Option Src) (r : Role) (b : Bool) (x : Src) :
    (part a (tallyShare r b) x).2.2 = if decide (a = some x) && b then 1 else 0 := by
  by_cases h : a = some x <;> simp [part, tallyShare, h]

/-- The tally law: each source's counts are what the destinations account for. -/
theorem tallyLaw_iff (s : State) : TallyLaw s ↔ ∀ x, (s.src x).counts = s.carried x := by
  refine forall_congr' (fun x => ?_)
  simp only [length_filter_finRange, SrcRec.counts, carried, carriedIf, shareIf, Prod.ext_iff, Prod.fst_sum, Prod.snd_sum,
    part_fst, part_snd_fst, part_snd_snd]

theorem TallyLaw.counts {s : State} (h : TallyLaw s) (x : Src) : (s.src x).counts = s.carried x := (tallyLaw_iff s).1 h x

/-! ## One destination's share moved -/

theorem carriedIf_split (s : State) (rec : Dest → Bool) (x : Src) (d : Dest) :
    s.carriedIf rec x = part (s.dest d).source (s.shareIf rec d) x +
      ∑ e ∈ Finset.univ.erase d, part (s.dest e).source (s.shareIf rec e) x :=
  (Finset.add_sum_erase _ _ (Finset.mem_univ d)).symm

/-- A law-abiding source has at least the share of each destination that carries it. -/
theorem TallyLaw.has {s : State} (h : TallyLaw s) (d : Dest) (x : Src) :
    ∃ rest, (s.src x).counts = part (s.dest d).source (s.shareIf s.recording d) x + rest :=
  ⟨_, (h.counts x).trans (carriedIf_split s _ x d)⟩

/-- The law survives where one destination's place changes and the counts follow it. -/
theorem tallyLaw_of_one {s t : State} (d : Dest)
    (hrest : ∀ e, e ≠ d → (t.dest e).source = (s.dest e).source ∧ t.shareIf t.recording e = s.shareIf s.recording e)
    (hcounts : ∀ x, (t.src x).counts + part (s.dest d).source (s.shareIf s.recording d) x =
      (s.src x).counts + part (t.dest d).source (t.shareIf t.recording d) x)
    (h : TallyLaw s) : TallyLaw t := by
  refine (tallyLaw_iff t).2 (fun x => ?_)
  have others : ∑ e ∈ Finset.univ.erase d, part (t.dest e).source (t.shareIf t.recording e) x =
      ∑ e ∈ Finset.univ.erase d, part (s.dest e).source (s.shareIf s.recording e) x := by
    refine Finset.sum_congr rfl (fun e he => ?_)
    obtain ⟨hsource, hshare⟩ := hrest e (Finset.ne_of_mem_erase he)
    rw [hsource, hshare]
  have hmoved := hcounts x
  rw [h.counts x, carried, carriedIf_split s _ x d, ← others] at hmoved
  rw [carried, carriedIf_split t _ x d]
  refine add_right_cancel (hmoved.trans ?_)
  abel

theorem counts_enter (r : SrcRec) (share : Nat × Nat × Nat) : (r.enter share).counts = r.counts + share := rfl

theorem counts_leave {r : SrcRec} {share rest : Nat × Nat × Nat} (h : r.counts = share + rest) :
    (r.leave share).counts + share = r.counts := by
  simp only [SrcRec.counts, SrcRec.leave, Prod.ext_iff, Prod.fst_add, Prod.snd_add] at h ⊢
  omega

/-- A share that its old source has leaves it and enters the new one (R11). -/
theorem counts_moveShare {s : State} {a b : Option Src} {share : Nat × Nat × Nat}
    (h : ∀ x, ∃ rest, (s.src x).counts = part a share x + rest) (x : Src) :
    ((s.moveShare a b share).src x).counts + part a share x = (s.src x).counts + part b share x := by
  obtain ⟨rest, hx⟩ := h x
  have left : (if a = some x then (s.src x).leave share else s.src x).counts + part a share x = (s.src x).counts := by
    unfold part at hx ⊢
    split
    · next ha => rw [if_pos ha] at hx; exact counts_leave hx
    · exact add_zero _
  rw [src_moveShare, ← left]
  dsimp only
  generalize (if a = some x then (s.src x).leave share else s.src x) = r
  unfold part
  split
  · rw [counts_enter]; abel
  · abel

/-! ## What the law reads -/

theorem recording_congr {s t : State} (h : ∀ p, (t.port p).dest = (s.port p).dest ∧ (t.port p).reported = (s.port p).reported) :
    t.recording = s.recording := by
  have hof (d : Dest) : t.portOf d = s.portOf d := by simp only [portOf_eq, (h _).1]
  funext d
  simp only [recording, hof, (h _).2]

theorem tallyLaw_congr {s t : State} (hsrcs : ∀ x, (t.src x).counts = (s.src x).counts)
    (hdests : ∀ d, (t.dest d).source = (s.dest d).source ∧ (t.dest d).role = (s.dest d).role)
    (hports : ∀ p, (t.port p).dest = (s.port p).dest ∧ (t.port p).reported = (s.port p).reported) (h : TallyLaw s) :
    TallyLaw t := by
  refine (tallyLaw_iff t).2 (fun x => ?_)
  rw [hsrcs, h.counts x]
  simp only [carried, carriedIf, shareIf, recording_congr hports, (hdests _).1, (hdests _).2]

/-- The law reads the sources, the destinations and the ports alone. -/
theorem tallyLaw_of_eq {s t : State} (hsrcs : t.srcs = s.srcs) (hdests : t.dests = s.dests) (hports : t.ports = s.ports)
    (h : TallyLaw s) : TallyLaw t :=
  tallyLaw_congr (fun x => by rw [src_def, src_def, hsrcs]) (fun d => by simp only [dest_def, hdests, and_self])
    (fun p => by simp only [port_def, hports, and_self]) h

theorem tallyLaw_settled {s : State} (h : TallyLaw s) : TallyLaw s.settle :=
  tallyLaw_of_eq (by simp) (by simp) (by simp) h

/-- A port that keeps its destination and its reported state counts as before. -/
theorem tallyLaw_setPort {s : State} {p : Port} {r : PortRec} (hd : r.dest = (s.port p).dest)
    (hr : r.reported = (s.port p).reported) (h : TallyLaw s) : TallyLaw (s.setPort p r) := by
  refine tallyLaw_congr (s := s) (fun x => rfl) (fun d => ⟨rfl, rfl⟩) (fun q => ?_) h
  rw [port_setPort]
  split
  · next hq => rw [hq]; exact ⟨hd, hr⟩
  · exact ⟨rfl, rfl⟩

/-- A destination that keeps its source and its role counts as before. -/
theorem tallyLaw_setDest {s : State} {d : Dest} {r : DestRec} (hs : r.source = (s.dest d).source)
    (hr : r.role = (s.dest d).role) (h : TallyLaw s) : TallyLaw (s.setDest d r) := by
  refine tallyLaw_congr (s := s) (fun x => rfl) (fun e => ?_) (fun q => ⟨rfl, rfl⟩) h
  have : (s.setDest d r).dest e = if e = d then r else s.dest e := look_put ..
  rw [this]
  split
  · next he => rw [he]; exact ⟨hs, hr⟩
  · exact ⟨rfl, rfl⟩

end Sys2Proof.Machine
end

section
/-! PROOF. Every command keeps the tally law (R10 to R13), each destination being bound to at most one port. -/

namespace Sys2Proof.Machine

open State

/-! ## Reports and roles -/

theorem dest_setDest (s : State) (d e : Dest) (r : DestRec) : (s.setDest d r).dest e = if e = d then r else s.dest e :=
  look_put ..

theorem tallyLaw_hand {s : State} (o : Handed) (h : TallyLaw s) : TallyLaw (s.hand o) :=
  tallyLaw_of_eq (by simp) (by simp) (by simp) h

theorem tallyLaw_recolour {s : State} (before : State) (a b : Option Src) (h : TallyLaw s) :
    TallyLaw (s.recolour before a b) :=
  tallyLaw_of_eq (by simp) (by simp) (by simp) h

/-- The source is reported where it is already: nothing moves. -/
theorem applyReport_same {s : State} {d : Dest} {x : Src} (o : ChangeOrigin) (hx : (s.dest d).source = some x)
    (h : TallyLaw s) : TallyLaw (s.applyReport d x o) := by
  have keep (r : DestRec) (hs : r.source = some x) (hr : r.role = (s.dest d).role) : TallyLaw (s.setDest d r) :=
    tallyLaw_setDest (hs.trans hx.symm) hr h
  unfold applyReport
  simp only [hx, ne_eq, not_true_eq_false, decide_false, Bool.false_eq_true, if_false, Bool.false_or]
  split
  · exact tallyLaw_hand _ (keep _ rfl rfl)
  · exact keep _ rfl rfl

/-- The source is a new one: the destination's share moves to it (R11). -/
theorem applyReport_moved {s : State} {d : Dest} {x : Src} (o : ChangeOrigin) (hx : (s.dest d).source ≠ some x)
    (h : TallyLaw s) : TallyLaw (s.applyReport d x o) := by
  have keep (r : DestRec) (hs : r.source = some x) (hr : r.role = (s.dest d).role) :
      TallyLaw ((s.moveShare (s.dest d).source (some x) (tallyShare (s.dest d).role (s.recording d))).setDest d r) := by
    have hrec : ((s.moveShare (s.dest d).source (some x) (tallyShare (s.dest d).role (s.recording d))).setDest d r).recording =
        s.recording := recording_congr (fun p => by simp [port_def])
    have hdest (e : Dest) := dest_setDest
      (s.moveShare (s.dest d).source (some x) (tallyShare (s.dest d).role (s.recording d))) d e r
    refine tallyLaw_of_one d (fun e he => ?_) (fun y => ?_) h
    · rw [shareIf, shareIf, hrec, hdest, if_neg he]
      simp [dest_def]
    · rw [shareIf, shareIf, hrec, hdest, if_pos rfl, hs, hr]
      exact counts_moveShare (h.has d) y
  unfold applyReport
  simp only [ne_eq, hx, not_false_eq_true, decide_true, if_true, Bool.true_or]
  exact tallyLaw_recolour _ _ _ (tallyLaw_hand _ (keep _ rfl rfl))

theorem tallyLaw_applyReport (s : State) (d : Dest) (x : Src) (o : ChangeOrigin) (h : TallyLaw s) :
    TallyLaw (s.applyReport d x o) := by
  by_cases hx : (s.dest d).source = some x
  · exact applyReport_same o hx h
  · exact applyReport_moved o hx h

theorem tallyLaw_outputEvent (s : State) (d : Dest) (e : OutputEvent) (h : TallyLaw s) : TallyLaw (s.outputEvent d e) := by
  unfold outputEvent
  dsimp only
  split
  · exact h
  · exact tallyLaw_hand _ (tallyLaw_setDest rfl rfl h)

theorem tallyLaw_applyNoAnswer (s : State) (d : Dest) (h : TallyLaw s) : TallyLaw (s.applyNoAnswer d) := by
  unfold applyNoAnswer
  dsimp only
  split
  · exact h
  · exact tallyLaw_hand _ (tallyLaw_setDest rfl rfl h)

theorem tallyLaw_countCompletion (s : State) (d : Dest) (h : TallyLaw s) : TallyLaw (s.countCompletion d) :=
  tallyLaw_setDest (d := d) rfl rfl h

theorem tallyShare_split (r : Role) (b : Bool) :
    tallyShare r b = tallyShare r false + (0, 0, if b then 1 else 0) := by
  simp [tallyShare]

/-- A change of role moves the role's share of the destination within its source (R12). -/
theorem tallyLaw_changeRole (s : State) (d : Dest) (role : Role) (h : TallyLaw s) : TallyLaw (s.changeRole d role) := by
  have hgot (x : Src) : ∃ rest, (s.src x).counts = part (s.dest d).source (tallyShare (s.dest d).role false) x + rest := by
    obtain ⟨rest, hrest⟩ := h.has d x
    rw [shareIf, tallyShare_split, part_add, add_assoc] at hrest
    exact ⟨_, hrest⟩
  have left := counts_moveShare (b := none) hgot
  have entered := counts_moveShare (s := s.moveShare (s.dest d).source none (tallyShare (s.dest d).role false)) (a := none)
    (b := (s.dest d).source) (share := tallyShare role false) (fun x => ⟨_, (zero_add _).symm⟩)
  have changed : TallyLaw (((s.moveShare (s.dest d).source none (tallyShare (s.dest d).role false)).moveShare none
      (s.dest d).source (tallyShare role false)).setDest d { s.dest d with role := role }) := by
    generalize hu : (s.moveShare (s.dest d).source none (tallyShare (s.dest d).role false)).moveShare none
      (s.dest d).source (tallyShare role false) = u at entered
    have hports : u.ports = s.ports := by simp [← hu]
    have hdests : u.dests = s.dests := by simp [← hu]
    have hrec : (u.setDest d { s.dest d with role := role }).recording = s.recording :=
      recording_congr (fun p => by simp [port_def, hports])
    refine tallyLaw_of_one d (fun e he => ?_) (fun x => ?_) h
    · rw [shareIf, shareIf, hrec, dest_setDest, if_neg he]
      simp [dest_def, hdests]
    · rw [shareIf, shareIf, hrec, dest_setDest, if_pos rfl]
      dsimp only
      rw [tallyShare_split role, tallyShare_split (s.dest d).role, part_add, part_add]
      have hl := left x
      have he : ((u.setDest d { s.dest d with role := role }).src x).counts + part none (tallyShare role false) x = _ :=
        entered x
      rw [part_none, add_zero] at hl he
      rw [he, ← hl]
      abel
  exact tallyLaw_recolour _ _ _ changed

theorem tallyLaw_runSetDestConfig (dest : Byte) (name : TextField) (domain zone role : Byte) (s : State) (h : TallyLaw s) :
    TallyLaw (runSetDestConfig dest name domain zone role s).2 := by
  unfold runSetDestConfig
  dsimp only
  split
  · exact h
  · split
    · exact h
    · exact h
    · exact h
    · next m z r _ _ _ =>
      split
      · exact h
      · have changed := tallyLaw_changeRole s dest.toFin r h
        have set : TallyLaw ((s.changeRole dest.toFin r).setDest dest.toFin
            { (s.changeRole dest.toFin r).dest dest.toFin with name := name, domain := m, zone := z }) :=
          tallyLaw_setDest rfl rfl changed
        unfold configureDest
        dsimp only
        split <;> exact tallyLaw_of_eq (by simp) (by simp) (by simp) set

/-! ## Recorders -/

/-- The destination a port records on: its own while it reports RECORDING (R10, R138). -/
def PortRec.records (r : PortRec) : Option Dest := if r.reported = .recording then r.dest else none

theorem records_eq_some {r : PortRec} {d : Dest} : r.records = some d ↔ r.dest = some d ∧ r.reported = .recording := by
  unfold PortRec.records
  split <;> simp [*]

/-- Some port other than `p` records on the destination. -/
def State.recordingOthers (s : State) (p : Port) (d : Dest) : Bool :=
  decide (∃ q, q ≠ p ∧ (s.port q).records = some d)

theorem recording_iff {s : State} (honce : BoundOnce s) (d : Dest) :
    s.recording d = true ↔ ∃ p, (s.port p).records = some d := by
  unfold recording
  cases hof : s.portOf d with
  | none =>
    rw [portOf_eq, List.find?_eq_none] at hof
    simp only [Bool.false_eq_true, false_iff, not_exists, records_eq_some, not_and]
    exact fun p hp => absurd (decide_eq_true hp) (hof p (List.mem_finRange p))
  | some p =>
    rw [portOf_eq, find_finRange_eq_some, decide_eq_true_eq] at hof
    simp only [decide_eq_true_eq, records_eq_some]
    refine ⟨fun h => ⟨p, hof.1, h⟩, fun ⟨q, hq, h⟩ => ?_⟩
    rw [honce p q d hof.1 hq]
    exact h

/-- A destination records through the port `p`, or through another one, and not through both. -/
theorem share_split {s : State} (honce : BoundOnce s) (p : Port) (d : Dest) :
    s.shareIf s.recording d = s.shareIf (s.recordingOthers p) d + (if (s.port p).records = some d then (0, 0, 1) else 0) := by
  unfold shareIf
  by_cases hp : (s.port p).records = some d
  · have hothers : s.recordingOthers p d = false := by
      refine decide_eq_false (fun ⟨q, hne, hq⟩ => hne ?_)
      exact honce q p d (records_eq_some.1 hq).1 (records_eq_some.1 hp).1
    rw [(recording_iff honce d).2 ⟨p, hp⟩, hothers, if_pos hp, tallyShare_split _ true]
    rfl
  · have hothers : s.recording d = s.recordingOthers p d := by
      rw [Bool.eq_iff_iff, recording_iff honce, recordingOthers, decide_eq_true_eq]
      refine ⟨fun ⟨q, hq⟩ => ⟨q, fun e => hp (e ▸ hq), hq⟩, fun ⟨q, _, hq⟩ => ⟨q, hq⟩⟩
    rw [hothers, if_neg hp, add_zero]

/-- The counts of a source are those the other ports account for and the record of the port `p`. -/
theorem carried_split {s : State} (honce : BoundOnce s) (p : Port) (x : Src) :
    s.carried x = s.carriedIf (s.recordingOthers p) x + part (s.sourceOf (s.port p).records) (0, 0, 1) x := by
  have pointwise (d : Dest) : part (s.dest d).source (s.shareIf s.recording d) x =
      part (s.dest d).source (s.shareIf (s.recordingOthers p) d) x +
        if (s.port p).records = some d then part (s.dest d).source (0, 0, 1) x else 0 := by
    rw [share_split honce p d, part_add]
    congr 1
    split
    · rfl
    · unfold part; split <;> rfl
  have own : (∑ d, if (s.port p).records = some d then part (s.dest d).source (0, 0, 1) x else 0) =
      part (s.sourceOf (s.port p).records) (0, 0, 1) x := by
    cases (s.port p).records with
    | none => exact Finset.sum_eq_zero (fun d _ => if_neg (fun h => nomatch h))
    | some d => simp only [Option.some.injEq, Finset.sum_ite_eq, Finset.mem_univ, if_true]; rfl
  unfold carried carriedIf
  rw [Finset.sum_congr rfl (fun d _ => pointwise d), Finset.sum_add_distrib, own]

/-- The law survives where one port comes to record for another destination, or for none, and the record counts follow. -/
theorem tallyLaw_of_port {s t : State} (p : Port) (hs : BoundOnce s) (ht : BoundOnce t) (hdests : t.dests = s.dests)
    (hothers : ∀ q, q ≠ p → (t.port q).records = (s.port q).records)
    (hcounts : ∀ x, (t.src x).counts + part (s.sourceOf (s.port p).records) (0, 0, 1) x =
      (s.src x).counts + part (s.sourceOf (t.port p).records) (0, 0, 1) x)
    (h : TallyLaw s) : TallyLaw t := by
  have hdest (d : Dest) : t.dest d = s.dest d := by rw [dest_def, dest_def, hdests]
  have hrec : t.recordingOthers p = s.recordingOthers p := by
    funext d
    refine decide_eq_decide.2 (exists_congr (fun q => and_congr_right (fun hq => ?_)))
    rw [hothers q hq]
  have hsource : t.sourceOf (t.port p).records = s.sourceOf (t.port p).records := by
    unfold sourceOf
    simp only [hdest]
  refine (tallyLaw_iff t).2 (fun x => ?_)
  have moved := hcounts x
  rw [h.counts x, carried_split hs p] at moved
  rw [carried_split ht p, hsource]
  have same : t.carriedIf (t.recordingOthers p) x = s.carriedIf (s.recordingOthers p) x := by
    simp only [carriedIf, shareIf, hdest, hrec]
  rw [same]
  refine add_right_cancel (moved.trans ?_)
  abel

end Sys2Proof.Machine
end

section
/-! PROOF. A recorder's changed report: the exchange a READY port starts, and what a change of the reported state hands on
(R13, R30, R141, R146). -/

namespace Sys2Proof.Machine

open State

/-! ## What a port starts (R141) -/

section Start

variable {r : PortRec} (now : Time)

theorem start_of_not_ready (h : r.exchange ≠ .ready) : r.start now = r := if_neg h

theorem start_mark (hready : r.exchange = .ready) (hmark : r.markPending = true) :
    r.start now = { r with
      markPending := false, exchange := .busy, inFlight := some ⟨.command .mark, true, now, r.pollTimeout⟩ } := by
  simp only [PortRec.start, hready, hmark, if_true]

theorem start_command {c : RecorderCommand} {rest : List RecorderCommand} (hready : r.exchange = .ready)
    (hmark : r.markPending = false) (hqueue : r.queue = c :: rest) :
    r.start now = { r with
      queue := rest, exchange := .busy, inFlight := some ⟨.command c, false, now, r.pollTimeout⟩ } := by
  simp [PortRec.start, hready, hmark, hqueue]

theorem start_poll (hready : r.exchange = .ready) (hmark : r.markPending = false) (hqueue : r.queue = [])
    (hpoll : r.pollPending = true) :
    r.start now = { r with
      pollPending := false, exchange := .busy, inFlight := some ⟨.poll, false, now, r.pollTimeout⟩ } := by
  simp [PortRec.start, hready, hmark, hqueue, hpoll]

theorem start_nothing (hready : r.exchange = .ready) (hmark : r.markPending = false) (hqueue : r.queue = [])
    (hpoll : r.pollPending = false) : r.start now = r := by
  simp [PortRec.start, hready, hmark, hqueue, hpoll]

end Start

/-! ## A destination's record recounted (R13) -/

theorem recount_of_none {s : State} {d : Dest} (on : Bool) (h : (s.dest d).source = none) : s.recount d on = s := by
  simp only [recount, h]

theorem src_recolour (s before : State) (a b : Option Src) (x : Src) : (s.recolour before a b).src x = s.src x := by
  simp [src_def]

/-- The record count of the destination's source moves by one; no other source's does. -/
theorem src_recount (s : State) (d : Dest) (on : Bool) (y : Src) :
    (s.recount d on).src y = if (s.dest d).source = some y then { s.src y with record :=
      (s.src y).record - (if on then 0 else 1) + (if on then 1 else 0) } else s.src y := by
  unfold recount
  cases hx : (s.dest d).source with
  | none => rfl
  | some x =>
    dsimp only
    rw [src_recolour]
    cases on <;> by_cases hy : x = y <;>
      simp [src_moveShare, hy, SrcRec.leave, SrcRec.enter]

/-- The source is handed over where its colour changes (R14). -/
theorem handed_recount {s : State} {d : Dest} (on : Bool) {x : Src} (h : (s.dest d).source = some x) :
    (s.recount d on).handed =
      s.handed ++ if ((s.recount d on).src x).colour = (s.src x).colour then [] else [.source x] := by
  have handed (t : State) (ht : t.handed = s.handed) : (t.recolour s (some x) none).handed =
      s.handed ++ if ((t.recolour s (some x) none).src x).colour = (s.src x).colour then [] else [.source x] := by
    rw [src_recolour]
    unfold recolour handRecoloured
    dsimp only
    split
    · rw [ht, List.append_nil]
    · simp [hand, ht]
  unfold recount
  rw [h]
  refine handed _ ?_
  split <;> simp

/-! ## A changed reported state handed on (R146) -/

/-- The record of the destination is recounted where the reported state enters or leaves RECORDING (R13). -/
def State.reportRecounted (s : State) (d : Dest) (old new : RecorderState) : State :=
  if decide (new = .recording) = decide (old = .recording) then s else s.recount d (decide (new = .recording))

section Recounted

variable {s : State} {d : Dest} {old new : RecorderState}

theorem reportRecounted_of_none (h : (s.dest d).source = none) : s.reportRecounted d old new = s := by
  unfold State.reportRecounted
  split
  · rfl
  · exact recount_of_none _ h

theorem src_reportRecounted (hne : new ≠ old) (y : Src) : (s.reportRecounted d old new).src y =
    if (s.dest d).source = some y then { s.src y with record :=
      (s.src y).record - (if old = .recording then 1 else 0) + (if new = .recording then 1 else 0) } else s.src y := by
  unfold State.reportRecounted
  by_cases hold : old = .recording
  · have hnew : new ≠ .recording := fun h => hne (h.trans hold.symm)
    simp [hold, hnew, src_recount]
  · by_cases hnew : new = .recording <;> simp [hold, hnew, src_recount]

theorem handed_reportRecounted {x : Src} (h : (s.dest d).source = some x) :
    (s.reportRecounted d old new).handed =
      s.handed ++ if ((s.reportRecounted d old new).src x).colour = (s.src x).colour then [] else [.source x] := by
  unfold State.reportRecounted
  split
  · rw [if_pos rfl, List.append_nil]
  · exact handed_recount _ h

theorem reportRecounted_frame :
    s.reportRecounted d old new =
      { s with srcs := (s.reportRecounted d old new).srcs, handed := (s.reportRecounted d old new).handed } := by
  unfold State.reportRecounted
  split
  · rfl
  · apply State.ext <;> simp

theorem reportRecounted_pool : (s.reportRecounted d old new).pool = s.pool := by
  rw [reportRecounted_frame]

theorem reportRecounted_ports : (s.reportRecounted d old new).ports = s.ports := by
  rw [reportRecounted_frame]

theorem slot_reportRecounted (i : Slot) : (s.reportRecounted d old new).slot i = s.slot i := by
  rw [slot_def, reportRecounted_pool, slot_def]

theorem waitingOf_reportRecounted : (s.reportRecounted d old new).waitingOf d = s.waitingOf d :=
  waitingOf_congr (fun i => by rw [slot_reportRecounted])

end Recounted

section Changed

variable {s : State} {p : Port} {old : RecorderState}

theorem reportedChanged_same (h : (s.port p).reported = old) : s.reportedChanged p old = s := if_pos h

theorem reportedChanged_unbound (h : (s.port p).dest = none) : s.reportedChanged p old = s := by
  unfold reportedChanged
  dsimp only
  split
  · rfl
  · rw [h]

variable {d : Dest} (hd : (s.port p).dest = some d) (hne : (s.port p).reported ≠ old)
include hd hne

/-- A changed state of a bound port recounts its destination and has the hold test applied again. -/
theorem reportedChanged_eq : s.reportedChanged p old = (s.reportRecounted d old (s.port p).reported).retestHold d := by
  unfold reportedChanged
  dsimp only
  rw [if_neg hne, hd]
  rfl

theorem src_reportedChanged (y : Src) : (s.reportedChanged p old).src y =
    if (s.dest d).source = some y then { s.src y with record :=
      (s.src y).record - (if old = .recording then 1 else 0) + (if (s.port p).reported = .recording then 1 else 0) }
    else s.src y := by
  rw [reportedChanged_eq hd hne, ← src_reportRecounted hne]
  simp [src_def]

theorem handed_reportedChanged :
    (s.reportedChanged p old).handed = (s.reportRecounted d old (s.port p).reported).handed := by
  rw [reportedChanged_eq hd hne]
  simp

theorem slot_reportedChanged (i : Slot) : (s.reportedChanged p old).slot i =
    if s.waitingOf d = some i then (s.slot i).retest s.holdTest else s.slot i := by
  rw [reportedChanged_eq hd hne, slot_retestHold, waitingOf_reportRecounted, slot_reportRecounted,
    holdTest_congr reportRecounted_ports]

theorem reportedChanged_frame_eq :
    s.reportedChanged p old = { s with
      srcs := (s.reportedChanged p old).srcs
      pool := { s.pool with slots := (s.reportedChanged p old).pool.slots }
      handed := (s.reportedChanged p old).handed } := by
  have hpool : (s.reportedChanged p old).pool = { s.pool with slots := (s.reportedChanged p old).pool.slots } := by
    rw [reportedChanged_eq hd hne, retestHold_pool, reportRecounted_pool]
  apply State.ext <;> simp [← hpool]

end Changed

/-- Settles O50: a READY port starts its MARK, its first command or its poll, and a changed state recounts its destination's
source and tests its waiting take again. -/
theorem exchangesStartInOrderAndChangesAreHandedOn : Obligations.ExchangesStartInOrderAndChangesAreHandedOn := by
  unfold Obligations.ExchangesStartInOrderAndChangesAreHandedOn
  refine ⟨fun r now => ⟨start_of_not_ready now, fun hready => ⟨start_mark now hready, fun c rest => start_command now hready,
    start_poll now hready, start_nothing now hready⟩⟩,
    fun s p old => ⟨reportedChanged_same, reportedChanged_unbound, fun d hd hne =>
      ⟨reportedChanged_frame_eq hd hne, ?_, ?_, ?_, ?_, ?_, ?_⟩⟩⟩
  · intro y hy
    rw [src_reportedChanged hd hne, if_neg hy]
  · intro x hx
    rw [src_reportedChanged hd hne, if_pos hx]
  · intro hnone
    rw [handed_reportedChanged hd hne, reportRecounted_of_none hnone]
  · intro x hx
    rw [handed_reportedChanged hd hne, handed_reportRecounted hx, src_reportedChanged hd hne, src_reportRecounted hne]
  · intro i hi
    rw [slot_reportedChanged hd hne, if_neg hi]
  · intro i k hi hk
    obtain ⟨l, hl, hdest, -⟩ := take_of_waitingOf hi
    obtain rfl : l = k := Option.some.inj (hl.symm.trans hk)
    rw [slot_reportedChanged hd hne, if_pos hi, retest_of_waitingOf hi hk, hdest]

end Sys2Proof.Machine
end

section
/-! PROOF. Every command keeps the tally law: a recorder's report, a silence and a binding move a port's record (R13, R149,
R154), and nothing else touches a count but a report, a role and the resets. -/

namespace Sys2Proof.Machine

open State

theorem PortLaw.once {s : State} (h : PortLaw s) : BoundOnce s := ((portLaw_iff s).1 h).1

theorem boundOnce_congr {s t : State} (e : t.ports = s.ports) (h : BoundOnce s) : BoundOnce t := by
  intro p q d hp hq
  rw [port_def, e] at hp hq
  exact h p q d hp hq

theorem boundOnce_same {s : State} {p : Port} {r : PortRec} (hd : r.dest = (s.port p).dest) (h : BoundOnce s) :
    BoundOnce (s.setPort p r) := by
  have hdest (q : Port) : ((s.setPort p r).port q).dest = (s.port q).dest := by
    rw [port_setPort]
    split
    · next hq => rw [hq, hd]
    · rfl
  intro a b d ha hb
  rw [hdest] at ha hb
  exact h a b d ha hb

/-- A source of a law-abiding state has the record of the port's destination. -/
theorem TallyLaw.hasRecord {s : State} (honce : BoundOnce s) (h : TallyLaw s) (p : Port) (x : Src) :
    ∃ rest, (s.src x).counts = part (s.sourceOf (s.port p).records) (0, 0, 1) x + rest := by
  rw [h.counts x, carried_split honce p, add_comm]
  exact ⟨_, rfl⟩

theorem records_of_not {r : PortRec} (h : r.reported ≠ .recording) : r.records = none := if_neg h

theorem records_of_recording {r : PortRec} (h : r.reported = .recording) : r.records = r.dest := if_pos h

/-- What a state with the port's new report hands on moves the record of the port (R13). -/
theorem counts_reportedChanged {s : State} {p : Port} {r : PortRec} (hd : r.dest = (s.port p).dest)
    (hgot : ∀ x, ∃ rest, (s.src x).counts = part (s.sourceOf (s.port p).records) (0, 0, 1) x + rest) (x : Src) :
    (((s.setPort p r).reportedChanged p (s.port p).reported).src x).counts +
        part (s.sourceOf (s.port p).records) (0, 0, 1) x =
      (s.src x).counts + part (s.sourceOf r.records) (0, 0, 1) x := by
  have hport : (s.setPort p r).port p = r := by rw [port_setPort, if_pos rfl]
  have hsrc (y : Src) : (s.setPort p r).src y = s.src y := rfl
  by_cases hsame : r.reported = (s.port p).reported
  · rw [reportedChanged_same (by rw [hport, hsame]), hsrc]
    unfold PortRec.records
    rw [hsame, hd]
  · cases hdest : r.dest with
    | none =>
      rw [reportedChanged_unbound (by rw [hport, hdest]), hsrc]
      unfold PortRec.records
      rw [← hd, hdest]
      split <;> split <;> rfl
    | some d =>
      have carries (b : PortRec) (hb : b.dest = some d) : part (s.sourceOf b.records) (0, 0, 1) x =
          if (s.dest d).source = some x then (0, 0, if b.reported = .recording then 1 else 0) else 0 := by
        unfold PortRec.records
        rw [hb]
        split
        · rfl
        · rw [show ((0, 0, 0) : Nat × Nat × Nat) = 0 from rfl, ite_self]; rfl
      have hsource : ((s.setPort p r).dest d).source = (s.dest d).source := rfl
      obtain ⟨rest, hx⟩ := hgot x
      rw [carries _ (hd ▸ hdest)] at hx
      rw [src_reportedChanged (d := d) (by rw [hport, hdest]) (by rw [hport]; exact hsame), hport, hsource, hsrc,
        carries _ (hd ▸ hdest), carries r hdest]
      by_cases hcarry : (s.dest d).source = some x
      · simp only [hcarry, if_true, SrcRec.counts, Prod.ext_iff, Prod.fst_add, Prod.snd_add] at hx ⊢
        obtain ⟨-, -, hrecord⟩ := hx
        exact ⟨trivial, trivial, by omega⟩
      · simp only [hcarry, if_false]

/-- A port's new report, handed on, keeps the law. -/
theorem tallyLaw_reportedChanged {s : State} {p : Port} {r : PortRec} (hd : r.dest = (s.port p).dest)
    (honce : BoundOnce s) (h : TallyLaw s) :
    TallyLaw ((s.setPort p r).reportedChanged p (s.port p).reported) := by
  have hport (q : Port) : ((s.setPort p r).reportedChanged p (s.port p).reported).port q = if q = p then r else s.port q := by
    rw [← port_setPort]; simp [port_def]
  refine tallyLaw_of_port p honce (boundOnce_congr (by simp) (boundOnce_same hd honce)) (by simp) (fun q hq => ?_)
    (fun x => ?_) h
  · rw [hport, if_neg hq]
  · rw [hport, if_pos rfl]
    exact counts_reportedChanged hd (h.hasRecord honce p) x

/-! ## Deliveries -/

theorem tallyLaw_issue (d : Dom) (s : State) (i : Slot) (h : TallyLaw s) : TallyLaw (issue d s i) := by
  unfold issue
  split
  · exact h
  · dsimp only
    split
    · split
      · exact tallyLaw_setPort (start_dest _ _) (start_reported _ _) (tallyLaw_of_eq rfl rfl rfl h)
      · exact tallyLaw_of_eq rfl rfl rfl h
    · exact tallyLaw_of_eq rfl rfl rfl h

theorem tallyLaw_endTake (s : State) (i : Slot) (o : TakeOutcome) (h : TallyLaw s) : TallyLaw (s.endTake i o) :=
  tallyLaw_of_eq (by simp) (by simp) (by simp) h

theorem tallyLaw_faultDest (s : State) (i : Slot) (d : Dest) (h : TallyLaw s) : TallyLaw (s.faultDest i d) := by
  have ended := tallyLaw_endTake s i .faulted h
  unfold faultDest
  dsimp only
  split
  · exact tallyLaw_of_eq rfl rfl rfl (tallyLaw_outputEvent _ d .secondMiss (tallyLaw_endTake _ _ .faulted ended))
  · exact tallyLaw_of_eq rfl rfl rfl (tallyLaw_outputEvent _ d .secondMiss ended)

theorem tallyLaw_judgeDeadline (d : Dom) (s : State) (i : Slot) (h : TallyLaw s) : TallyLaw (judgeDeadline d s i) := by
  unfold judgeDeadline
  dsimp only
  split
  · exact h
  · split
    · split
      · exact tallyLaw_faultDest s i _ h
      · exact tallyLaw_of_eq rfl rfl rfl h
    · exact h

theorem tallyLaw_window (d : Dom) : KeptByWindow TallyLaw d where
  retest _ _ := tallyLaw_of_eq (by simp) (by simp) (by simp)
  fail _ _ := tallyLaw_of_eq (by simp) (by simp) (by simp)
  issue := tallyLaw_issue d
  dropTimers _ := tallyLaw_of_eq (by simp) (by simp) (by simp)
  judge := tallyLaw_judgeDeadline d
  cursor _ _ := tallyLaw_of_eq (by simp) (by simp) (by simp)
  retries _ := tallyLaw_of_eq (by simp) (by simp) (by simp)

theorem tallyLaw_issueWindow (s : State) (d : Dom) (before : List Tag) (h : TallyLaw s) :
    TallyLaw (s.issueWindow d before) :=
  (tallyLaw_window d).window (fun _ h => tallyLaw_of_eq rfl rfl rfl h)
    (fun _ _ h => tallyLaw_of_eq (by simp) (by simp) (by simp) h) (fun _ _ h => tallyLaw_of_eq rfl rfl rfl h) s before h

theorem tallyLaw_queueCommand (s : State) (p : Port) (c : RecorderCommand) (h : TallyLaw s) :
    TallyLaw (s.queueCommand p c).2.2 := by
  unfold State.queueCommand
  dsimp only
  split
  · exact h
  · split
    · exact h
    · exact tallyLaw_setPort (start_dest _ _) (start_reported _ _) h

theorem tallyLaw_arrive (s : State) (a : Arrival) (h : TallyLaw s) : TallyLaw (s.arrive a).1 := by
  cases a with
  | window d before => rw [arrive_window]; exact tallyLaw_issueWindow s d before h
  | poll p => exact tallyLaw_setPort (start_dest _ _) (start_reported _ _) h
  | action k branch a =>
    have carried : TallyLaw (s.carryOut k a).2 := by
      cases a with
      | recorder p c => exact tallyLaw_queueCommand s p c h
      | fireSalvo n => exact tallyLaw_of_eq (by simp [carryOut]) (by simp [carryOut]) (by simp [carryOut]) h
      | none => exact h
      | attention => exact h
    show TallyLaw (s.runAction k branch a)
    unfold runAction
    dsimp only
    split <;> exact tallyLaw_of_eq (by simp) (by simp) (by simp) carried
  | trigger k => exact tallyLaw_of_eq (by simp [arrive]) (by simp [arrive]) (by simp [arrive]) h
  | mark d => exact tallyLaw_of_eq (by simp [arrive]) (by simp [arrive]) (by simp [arrive]) h

theorem tallyLaw_kept : KeptByDelivery TallyLaw where
  setDom _ _ _ := tallyLaw_of_eq (by simp) (by simp) (by simp)
  setLock _ _ _ := tallyLaw_of_eq (by simp) (by simp) (by simp)
  flagDomain _ _ _ _ := tallyLaw_of_eq (by simp) (by simp) (by simp)
  setGpi _ _ _ := tallyLaw_of_eq (by simp) (by simp) (by simp)
  choose _ _ := tallyLaw_of_eq (by simp) (by simp) (by simp)
  event s a h := tallyLaw_settled (tallyLaw_arrive s a h)

/-! ## Recorder ports -/

theorem tallyLaw_recorderStatus (s : State) (p : Port) (x : RecorderState) (honce : BoundOnce s) (h : TallyLaw s) :
    TallyLaw (s.recorderStatus p x) := by
  obtain e | ⟨-, e⟩ := recorderStatus_cases s p x <;> rw [e]
  · exact h
  · have handed := tallyLaw_reportedChanged (r := (s.port p).takeStatus s.now x) (takeStatus_dest _ _ _) honce h
    exact tallyLaw_kept.raise _ _ (tallyLaw_settled (tallyLaw_of_eq (by simp) (by simp) (by simp) handed))

theorem tallyLaw_recorderTimeout (s : State) (p : Port) (honce : BoundOnce s) (h : TallyLaw s) :
    TallyLaw (s.recorderTimeout p) := by
  obtain e | ⟨f, -, e⟩ := recorderTimeout_cases s p <;> rw [e]
  · exact h
  · have timed : TallyLaw (s.setPort p ((s.port p).takeTimeout s.now f.kind)) := tallyLaw_setPort rfl rfl h
    have timedOnce : BoundOnce (s.setPort p ((s.port p).takeTimeout s.now f.kind)) := boundOnce_same rfl honce
    refine tallyLaw_settled ?_
    generalize s.setPort p ((s.port p).takeTimeout s.now f.kind) = u at timed timedOnce
    unfold judgeSilence
    dsimp only
    split
    · exact tallyLaw_of_eq (by simp) (by simp) (by simp)
        (tallyLaw_reportedChanged (r := (u.port p).goOffline) rfl timedOnce timed)
    · exact timed

theorem tallyLaw_recorderAck (s : State) (p : Port) (c : RecorderCommand) (accepted : Bool) (h : TallyLaw s) :
    TallyLaw (s.recorderAck p c accepted) := by
  obtain e | e := recorderAck_cases s p c accepted <;> rw [e]
  · exact h
  · have acked : TallyLaw (s.setPort p ((s.port p).takeAck s.now c accepted)) := tallyLaw_setPort rfl rfl h
    exact tallyLaw_of_eq (by simp) (by simp) (by simp) acked

theorem tallyLaw_endGuard (s : State) (p : Port) (h : TallyLaw s) : TallyLaw (s.endGuard p) := by
  obtain e | ⟨-, e⟩ := endGuard_cases s p <;> rw [e]
  · exact h
  · exact tallyLaw_kept.raise _ _ (tallyLaw_setPort (start_dest _ _) (start_reported _ _) h)

theorem counts_bindRecorder (s : State) (p : Port) (c : PortConfig) (honce : BoundOnce s) (h : TallyLaw s) (x : Src) :
    ((bindRecorder s p c).src x).counts + part (s.sourceOf (s.port p).records) (0, 0, 1) x =
      (s.src x).counts + part (s.sourceOf (if (s.port p).reported = .recording then c.dest else none)) (0, 0, 1) x := by
  by_cases hmoved : (s.port p).dest ≠ c.dest ∧ (s.port p).reported = .recording
  · rw [bindRecorder_src_recounted hmoved, if_pos hmoved.2, records_of_recording hmoved.2]
    have hgot := h.hasRecord honce p
    rw [records_of_recording hmoved.2] at hgot
    have moved := counts_moveShare (s := s.configured p c) (b := s.sourceOf c.dest) (by simpa [State.configured, src_def] using hgot) x
    exact moved
  · obtain ⟨hsrcs, -⟩ := bindRecorder_srcs_handed_of_still hmoved
    rw [src_def, hsrcs, ← src_def]
    unfold PortRec.records
    split
    · next hrec =>
      have hdest : (s.port p).dest = c.dest := by
        by_contra hne
        exact hmoved ⟨hne, hrec⟩
      rw [hdest]
    · rfl

theorem tallyLaw_bindRecorder (s : State) (p : Port) (c : PortConfig) (hfree : boundElsewhere s p c.dest = false)
    (honce : BoundOnce s) (h : TallyLaw s) : TallyLaw (bindRecorder s p c) := by
  have hport (q : Port) : (bindRecorder s p c).port q = if q = p then { s.port p with
      dest := c.dest, policy := c.policy, guardTime := c.guardTime, pollTimeout := c.pollTimeout } else s.port q := by
    rw [port_def, bindRecorder_ports, look_put]; rfl
  have bound : BoundOnce (bindRecorder s p c) := by
    have set := boundOnce_setPort (r := { s.port p with
      dest := c.dest, policy := c.policy, guardTime := c.guardTime, pollTimeout := c.pollTimeout }) hfree honce
    exact boundOnce_congr (bindRecorder_ports s p c) set
  refine tallyLaw_of_port p honce bound (by simp) (fun q hq => ?_) (fun x => ?_) h
  · rw [hport, if_neg hq]
  · rw [hport, if_pos rfl]
    exact counts_bindRecorder s p c honce h x

/-! ## Every command keeps it -/

theorem tallyLaw_restarted (s : State) (h : TallyLaw s) : TallyLaw s.restarted := by
  have hdest (d : Dest) : s.restarted.dest d = (s.dest d).restart := look_mapTable ..
  have hport (p : Port) : s.restarted.port p = (s.port p).restart := look_mapTable ..
  exact tallyLaw_congr (s := s) (fun x => rfl) (fun d => by rw [hdest]; exact ⟨rfl, rfl⟩)
    (fun p => by rw [hport]; exact ⟨rfl, rfl⟩) h

theorem tallyLaw_runSetSourceLabel (source : U16) (label : TextField) (s : State) (h : TallyLaw s) :
    TallyLaw (runSetSourceLabel source label s).2 := by
  unfold runSetSourceLabel
  split
  · exact h
  · next x _ =>
    split
    · have labelled : TallyLaw (s.setSrc x { s.src x with label := label }) := by
        refine tallyLaw_congr (s := s) (fun y => ?_) (fun d => ⟨rfl, rfl⟩) (fun p => ⟨rfl, rfl⟩) h
        rw [src_setSrc]
        split
        · next hy => rw [hy]; rfl
        · rfl
      exact tallyLaw_of_eq (by simp) (by simp) (by simp) labelled
    · exact h

theorem tallyLaw_requestEffect (c : Instr) (s : State) (honce : BoundOnce s) (h : TallyLaw s) :
    TallyLaw (requestEffect c s).2 := by
  cases c with
  | take tag dest source panel c r =>
    show TallyLaw (runTake dest source panel c r s).2
    obtain e | ⟨q, a, t, ha, e⟩ := runTake_cases dest source panel c r s <;> rw [e]
    · exact h
    · obtain ⟨-, -, hdests, hsrcs, -, -, -, -, hports, -⟩ := admitTake_frame ha
      exact tallyLaw_settled (tallyLaw_of_eq hsrcs hdests hports h)
  | setSourceLabel tag source label => exact tallyLaw_runSetSourceLabel source label s h
  | setDestConfig tag dest name domain zone role => exact tallyLaw_runSetDestConfig dest name domain zone role s h
  | clearFault tag dest =>
    show TallyLaw (runClearFault dest s).2
    unfold runClearFault
    dsimp only
    split
    · have changed := tallyLaw_outputEvent s dest.toFin .clearFault h
      exact tallyLaw_of_eq (by simp) (by simp) (by simp) changed
    · exact h
  | bindRecorder tag port dest policy event guardTime pollTimeout =>
    show TallyLaw (runBindRecorder port dest policy event guardTime pollTimeout s).2
    obtain e | ⟨p, c, hfree, -, -, -, -, e⟩ := runBindRecorder_cases port dest policy event guardTime pollTimeout s <;> rw [e]
    · exact h
    · exact tallyLaw_settled (tallyLaw_bindRecorder s p c hfree honce h)
  | recorderCommand tag port command =>
    show TallyLaw (runRecorderCommand port command s).2
    unfold runRecorderCommand
    split
    · exact h
    · exact h
    · next p c _ _ =>
      have queued := tallyLaw_queueCommand s p c h
      split
      · next he => rw [he] at queued; exact queued
      · exact h
  | setGpi tag input debounce => exact tallyLaw_kept.runSetGpi input debounce s h
  | openDomain tag domain => exact tallyLaw_kept.runOpenDomain domain s h
  | readAttention tag =>
    show TallyLaw (runReadAttention s).2
    obtain e | ⟨f, e⟩ | ⟨r, l, -, e⟩ | ⟨i, l, x, -, -, e⟩ := runReadAttention_cases s <;> rw [e] <;> exact h
  | restart tag =>
    rw [requestEffect_restart]
    have served : TallyLaw s.restarted.serveClosings :=
      tallyLaw_of_eq (by simp) (by simp) (by simp) (tallyLaw_restarted s h)
    exact tallyLaw_of_eq (by simp) (by simp) (by simp) served
  | _ => exact tallyLaw_of_eq (by simp [requestEffect]) (by simp [requestEffect]) (by simp [requestEffect]) h

theorem tallyLaw_reset (x : Straps) (g : Vector GpiRec 8) (n : Nat) (l : List Instr) :
    TallyLaw (State.coldReset x g n l) := by
  have hsrc (y : Src) : (State.coldReset x g n l).src y = SrcRec.reset := look_replicate ..
  have hdest (d : Dest) : (State.coldReset x g n l).dest d = DestRec.reset := look_replicate ..
  refine (tallyLaw_iff _).2 (fun y => ?_)
  rw [hsrc]
  unfold State.carried State.carriedIf
  simp only [hdest]
  exact (Finset.sum_eq_zero (fun d _ => if_neg (fun h => nomatch h))).symm

theorem tallyLaw_confirmOwn (s : State) (d : Dest) (x : Src) (h : TallyLaw s) : TallyLaw (s.confirmOwn d x) := by
  obtain e | ⟨i, -, e⟩ := confirmOwn_cases s d x <;> rw [e]
  · exact tallyLaw_settled (tallyLaw_applyReport s d x .own h)
  · exact tallyLaw_settled (tallyLaw_countCompletion _ d (tallyLaw_applyReport _ d x .own (tallyLaw_endTake s i _ h)))

theorem tallyLaw_confirmForeign (s : State) (d : Dest) (x : Src) (h : TallyLaw s) : TallyLaw (s.confirmForeign d x) :=
  tallyLaw_settled (tallyLaw_of_eq (by simp) (by simp) (by simp) (tallyLaw_applyReport s d x .foreign h))

theorem tallyLaw_answerNone (s : State) (r : Readback) (h : TallyLaw s) : TallyLaw (s.answerNone r) :=
  tallyLaw_of_eq (by simp [answerNone]) (by simp [answerNone]) (by simp [answerNone]) (tallyLaw_applyNoAnswer s r.dest h)

theorem tallyLaw_answerSource (s : State) (r : Readback) (x : Src) (h : TallyLaw s) : TallyLaw (s.answerSource r x) := by
  have learned := tallyLaw_applyReport s r.dest x .learned h
  unfold answerSource
  dsimp only
  split <;> exact tallyLaw_of_eq (by simp) (by simp) (by simp) learned

theorem tallyLaw_answer (s : State) (d : Dest) (x : Option Src) (h : TallyLaw s) : TallyLaw (s.answer d x) := by
  obtain e | ⟨r, -, -, ⟨y, -, e⟩ | ⟨-, e⟩⟩ := answer_cases s d x <;> rw [e]
  · exact h
  · exact tallyLaw_settled (tallyLaw_answerSource s r y h)
  · exact tallyLaw_settled (tallyLaw_answerNone s r h)

theorem tallyLaw_eventEffect (c : Instr) (s : State) (hports : PortLaw s) (h : TallyLaw s) :
    TallyLaw (eventEffect c s) := by
  cases c with
  | coldReset m a b => exact tallyLaw_reset _ _ _ _
  | confirmOwn d x => exact tallyLaw_confirmOwn s d x h
  | confirmForeign d x => exact tallyLaw_confirmForeign s d x h
  | answer d x => exact tallyLaw_answer s d x h
  | discardedTransaction bytes =>
    exact hearTransaction_keeps tallyLaw_confirmOwn tallyLaw_confirmForeign tallyLaw_answer bytes s h
  | answerTimeout =>
    show TallyLaw s.answerTimeout
    obtain e | ⟨r, -, e⟩ := answerTimeout_cases s <;> rw [e]
    · exact h
    · exact tallyLaw_settled (tallyLaw_answerNone s r h)
  | absentTimerExpiry i =>
    show TallyLaw (s.expireAbsent i)
    obtain e | ⟨t, -, -, e⟩ := expireAbsent_cases s i <;> rw [e]
    · exact h
    · have changed := tallyLaw_outputEvent _ t.dest .unverified (tallyLaw_endTake s i .unverified h)
      exact tallyLaw_settled (tallyLaw_of_eq (by simp) (by simp) (by simp) changed)
  | holdLimitExpiry i =>
    show TallyLaw (expireHold i s)
    obtain e | ⟨-, e⟩ := expireHold_cases i s <;> rw [e]
    · exact h
    · exact tallyLaw_settled (tallyLaw_endTake s i .expired h)
  | referenceFrameStart d => exact tallyLaw_kept.referenceStart s d h
  | referenceLossTimeout d => exact tallyLaw_kept.loseByTimeout d s h
  | timerFrameStart d follows => exact tallyLaw_kept.timerFrame d follows s h
  | gpiPinChange i high => exact tallyLaw_kept.gpiPin s i high h
  | debounceExpiry i => exact tallyLaw_kept.judgeCandidate s i h
  | status p x => exact tallyLaw_recorderStatus s p x hports.once h
  | cmdAck p c a => exact tallyLaw_recorderAck s p c a h
  | guardEnd p => exact tallyLaw_endGuard s p h
  | pollTimeout p => exact tallyLaw_recorderTimeout s p hports.once h
  | recorderReplyDiscarded p bytes =>
    have kept := recorderBytes_keep (P := fun s => PortLaw s ∧ TallyLaw s)
      (fun _ _ _ h => ⟨portLaw_congr (by simp) h.1, tallyLaw_of_eq (by simp) (by simp) (by simp) h.2⟩)
      (fun s p x h => ⟨portLaw_recorderStatus s p x h.1, tallyLaw_recorderStatus s p x h.1.once h.2⟩)
      (fun s p c a h => ⟨portLaw_recorderAck s p c a h.1, tallyLaw_recorderAck s p c a h.2⟩) p bytes s ⟨hports, h⟩
    exact kept.2
  | verifyInterval =>
    obtain e | ⟨-, e⟩ := verifyInterval_cases s <;> rw [e] <;> exact h
  | partnerByteGap l =>
    show TallyLaw (s.partnerGap l)
    rw [partnerGap_eq]
    exact h
  | _ => exact tallyLaw_of_eq (by unfold eventEffect; simp) (by unfold eventEffect; simp) (by unfold eventEffect; simp) h

/-- Settles O60: the law of the ports rides along, so that a port's record is one destination's. -/
theorem stepKeepsTallyLaw : Obligations.StepKeepsTallyLaw := by
  unfold Obligations.StepKeepsTallyLaw
  intro s hports h
  have kept : Keeps (fun s => PortLaw s ∧ TallyLaw s) (step s) :=
    step_keeps (fun _ _ _ h => h) (fun _ h => h)
      (exec_keeps_of_effects (fun _ _ h => h)
        (fun c s h => ⟨portLaw_requestEffect c s h.1, tallyLaw_requestEffect c s h.1.once h.2⟩)
        (fun c s h => ⟨portLaw_eventEffect c s h.1, tallyLaw_eventEffect c s h.1 h.2⟩)) s ⟨hports, h⟩
  exact fun t ht => (kept t ht).2

end Sys2Proof.Machine
end

section
/-! PROOF. The pool's questions, the slot step and the end of a take, each as one equation (R21 to R28). -/

namespace Sys2Proof.Machine

open State

/-! ## What the searches of the pool ask -/

/-- A search that fails on the lower slots is one whose condition no lower slot meets. -/
theorem findTake_eq_some_iff {s : State} {p : Take → Bool} {P : Slot → Prop} (h : ∀ i, (s.slot i).holds p = true ↔ P i)
    (i : Slot) : s.findTake p = some i ↔ P i ∧ ∀ j < i, ¬ P j := by
  rw [findTake_eq_some, h]
  refine and_congr_right (fun _ => forall₂_congr (fun j _ => ?_))
  rw [← h j, Bool.not_eq_true]

theorem holds_active_iff (s : State) (i : Slot) (d : Dest) :
    (s.slot i).holds (fun t => decide (t.dest = d) && t.state.active) = true ↔
      SlotHas s i d [.queued, .held, .issued, .retry] := by
  simp [SlotRec.holds_iff, SlotHas, TakeState.active_iff]

theorem holds_waiting_iff (s : State) (i : Slot) (d : Dest) :
    (s.slot i).holds (fun t => decide (t.dest = d) && t.state.waiting) = true ↔ SlotHas s i d [.queued, .held] := by
  simp [SlotRec.holds_iff, SlotHas, TakeState.waiting_iff]

theorem holds_outstanding_iff (s : State) (i : Slot) (d : Dest) :
    (s.slot i).holds (fun t => decide (t.dest = d) && t.state.outstanding) = true ↔ SlotHas s i d [.issued, .retry] := by
  simp [SlotRec.holds_iff, SlotHas, TakeState.outstanding_iff]

theorem activeDest_iff (s : State) (d : Dest) :
    s.activeDest d = true ↔ ∃ i, SlotHas s i d [.queued, .held, .issued, .retry] := by
  rw [activeDest, findTake_isSome]
  exact exists_congr (fun i => holds_active_iff s i d)

theorem waitingOf_eq_some (s : State) (d : Dest) (i : Slot) :
    s.waitingOf d = some i ↔ SlotHas s i d [.queued, .held] ∧ ∀ j < i, ¬ SlotHas s j d [.queued, .held] :=
  findTake_eq_some_iff (fun j => holds_waiting_iff s j d) i

theorem outstandingOf_eq_some (s : State) (d : Dest) (i : Slot) :
    s.outstandingOf d = some i ↔ SlotHas s i d [.issued, .retry] ∧ ∀ j < i, ¬ SlotHas s j d [.issued, .retry] :=
  findTake_eq_some_iff (fun j => holds_outstanding_iff s j d) i

theorem freeSlot_eq_some (s : State) (i : Slot) :
    s.freeSlot = some i ↔ (s.slot i).take = none ∧ ∀ j < i, (s.slot j).take ≠ none := by
  have find : s.freeSlot = (List.finRange 128).find? (fun i => (s.slot i).take.isNone) := by
    rw [freeSlot, find_entries]; rfl
  rw [find, find_finRange_eq_some, Option.isNone_iff_eq_none]
  refine and_congr_right (fun _ => forall₂_congr (fun j _ => ?_))
  cases (s.slot j).take <;> simp

theorem portOf_eq_some (s : State) (d : Dest) (p : Port) :
    s.portOf d = some p ↔ (s.port p).dest = some d ∧ ∀ q < p, (s.port q).dest ≠ some d := by
  rw [portOf_eq, find_finRange_eq_some]
  simp

theorem holdTest_iff (s : State) (d : Dest) :
    s.holdTest d = true ↔ ∃ p, s.portOf d = some p ∧ (s.port p).policy = .hold ∧
      ((s.port p).reported = .recording ∨ (s.port p).reported = .unknown) := by
  unfold holdTest
  cases s.portOf d <;> simp

theorem recording_iff_portOf (s : State) (d : Dest) :
    s.recording d = true ↔ ∃ p, s.portOf d = some p ∧ (s.port p).reported = .recording := by
  unfold recording
  cases s.portOf d <;> simp

theorem activeDomain_iff (s : State) (m : Dom) :
    s.activeDomain m = true ↔ ∃ i k, (s.slot i).take = some k ∧ (s.dest k.dest).domain = m ∧
      k.state ∈ [TakeState.queued, .held, .issued, .retry] := by
  rw [activeDomain, findTake_isSome]
  unfold takeDomain
  simp only [SlotRec.holds_iff, Bool.and_eq_true, decide_eq_true_eq, TakeState.active_iff]

theorem onlyHeld_iff (s : State) (m : Dom) :
    s.onlyHeld m = true ↔ s.queue m ≠ [] ∧ ∀ i ∈ s.queue m, ∃ k, (s.slot i).take = some k ∧ k.state = .held := by
  simp [onlyHeld, SlotRec.holds_iff]

theorem salvoBusy_iff (s : State) (n : Salvo) :
    s.salvoBusy n = true ↔ ∃ i k g, (s.slot i).take = some k ∧
      k.state ∈ [TakeState.queued, .held, .issued, .retry] ∧ k.group = some g ∧ g.salvo = some n := by
  have of (k : Take) : (match k.group with
      | some g => decide (g.salvo = some n)
      | none => false) = true ↔ ∃ g, k.group = some g ∧ g.salvo = some n := by
    cases k.group <;> simp
  rw [salvoBusy, findTake_isSome]
  simp only [SlotRec.holds_iff, Bool.and_eq_true, TakeState.active_iff]
  refine exists₂_congr (fun i k => ?_)
  rw [exists_and_left, exists_and_left]
  exact and_congr_right (fun _ => and_congr_right (fun _ => of k))

/-- Settles O19: each question is a search of the slots, or of the ports. -/
theorem poolQuestionsAskTheSlots : Obligations.PoolQuestionsAskTheSlots := by
  unfold Obligations.PoolQuestionsAskTheSlots
  exact fun s d => ⟨activeDest_iff s d, waitingOf_eq_some s d, outstandingOf_eq_some s d, freeSlot_eq_some s,
    portOf_eq_some s d, holdTest_iff s d, recording_iff_portOf s d, activeDomain_iff s, onlyHeld_iff s, salvoBusy_iff s⟩

/-! ## The end of a take -/

/-- The lists and the slot of a take that ends, each list without it (R22). -/
def State.ended (s : State) (i : Slot) (k : Take) (o : TakeOutcome) (handed : List Handed) : State :=
  let m := (s.dest k.dest).domain
  { s with
    pool := { s.pool with
      slots := put s.pool.slots i (endedSlot (s.slot i) i k o)
      queues := put s.pool.queues m ((s.queue m).filter (fun j => j ≠ i))
      issued := s.pool.issued.filter (fun j => j ≠ i)
      reports := if k.report then s.pool.reports ++ [i] else s.pool.reports }
    bus := { s.bus with
      retry := put s.bus.retry m ((look s.bus.retry m).filter (fun g => g.slot ≠ i))
      absent := s.bus.absent.filter (fun a => a.1.slot ≠ i) }
    handed := handed }

theorem handIfIdle_eq (s : State) (d : Dest) : s.handIfIdle d = { s with handed := (s.handIfIdle d).handed } := by
  unfold handIfIdle
  split <;> rfl

section Ended

variable {s : State} {i : Slot} {k : Take}

theorem endTake_eq (o : TakeOutcome) (h : (s.slot i).take = some k) :
    s.endTake i o = (s.ended i k o s.handed).handIfIdle k.dest := by
  unfold endTake
  rw [h]
  dsimp only
  split
  · next hr =>
    simp only [ended, hr]
    rfl
  · next hr =>
    simp only [ended, hr]
    rfl

theorem slot_ended (o : TakeOutcome) (l : List Handed) (j : Slot) :
    (s.ended i k o l).slot j = if j = i then endedSlot (s.slot i) i k o else s.slot j := look_put ..

/-- An ended take is active no more. -/
theorem endedSlot_not_active (r : SlotRec) (o : TakeOutcome) {l : Take} (h : (endedSlot r i k o).take = some l) :
    l.state = .done := by
  unfold endedSlot at h
  split at h <;> cases h
  rfl

/-- After the end the destination is active if another slot has an active take of it (R24). -/
theorem activeDest_ended (o : TakeOutcome) (l : List Handed) (d : Dest) :
    (s.ended i k o l).activeDest d = true ↔ ∃ j, j ≠ i ∧ SlotHas s j d [.queued, .held, .issued, .retry] := by
  rw [activeDest_iff]
  refine exists_congr (fun j => ?_)
  unfold SlotHas
  rw [slot_ended]
  by_cases hj : j = i
  · simp only [hj, if_true, ne_eq, not_true_eq_false, false_and, iff_false]
    rintro ⟨t, ht, -, hmem⟩
    rw [endedSlot_not_active _ o ht] at hmem
    exact absurd hmem (by decide)
  · simp only [hj, if_false, ne_eq, not_false_eq_true, true_and]

end Ended

/-- Settles O22: the take leaves every list, and is freed or stays DONE for its report. -/
theorem endOfTakeFreesOrReports : Obligations.EndOfTakeFreesOrReports := by
  unfold Obligations.EndOfTakeFreesOrReports
  intro s i k o hk m lists other
  have hidle := activeDest_ended (s := s) (i := i) (k := k) o s.handed k.dest
  have ended := (endTake_eq o hk).trans (handIfIdle_eq _ k.dest)
  refine ⟨((s.ended i k o s.handed).handIfIdle k.dest).handed, ⟨fun h => ?_, fun h => ?_⟩, fun hr => ?_, fun hr => ?_⟩
  · unfold handIfIdle
    rw [if_pos (hidle.2 h)]
    rfl
  · unfold handIfIdle
    rw [if_neg (fun ha => h (hidle.1 ha))]
    rfl
  all_goals
    rw [ended]
    simp only [State.ended, endedSlot, hr]
    rfl

/-! ## The slot step (R21, R25, R27, R28) -/

/-- The state with slot `i` allocated to the take of an admission and joined to its domain's queue. -/
def State.allotted (s : State) (i : Slot) (q : AdmitFields) (previous : Option EndedTake) : State :=
  let m := (s.dest q.dest).domain
  { s with
    pool := { s.pool with
      slots := put s.pool.slots i ⟨(s.slot i).gen + 1, some (s.newTake q), previous⟩
      queues := put s.pool.queues m (s.queue m ++ [i]) } }

theorem allocate_eq (s : State) (i : Slot) (q : AdmitFields) (previous : Option EndedTake) :
    s.allocate i q previous = { s.allotted i q previous with
      handed := s.handed ++ if s.activeDest q.dest then [] else [.dest q.dest] } := by
  unfold allocate allotted
  dsimp only
  split
  · rw [List.append_nil]; rfl
  · rfl

section SlotStep

variable {s : State} {q : AdmitFields}

theorem admitTake_full (hw : s.waitingOf q.dest = none) (hf : s.freeSlot = none) : s.admitTake q = none := by
  unfold admitTake
  rw [hw]
  dsimp only
  rw [hf]

theorem admitTake_fresh {i : Slot} (hw : s.waitingOf q.dest = none) (hf : s.freeSlot = some i) :
    s.admitTake q = some (⟨⟨i, (s.slot i).gen + 1⟩, none⟩, s.allocate i q none) := by
  unfold admitTake
  rw [hw]
  dsimp only
  rw [hf]

/-- The waiting take of the destination leaves its lists and its slot is allocated again. -/
theorem admitTake_supersedes {i : Slot} {k : Take} (hw : s.waitingOf q.dest = some i) (hk : (s.slot i).take = some k) :
    s.admitTake q = some (⟨⟨i, (s.slot i).gen + 1⟩, some (s.tagOf i)⟩,
      (s.delist i (s.takeDomain k)).allocate i q (some ⟨s.tagOf i, k.dest, k.source, .superseded⟩)) := by
  unfold admitTake
  rw [hw]
  dsimp only
  rw [hk]
  rfl

theorem admitTake_cases {a : Admitted} {t : State} (h : s.admitTake q = some (a, t)) :
    (∃ i, s.waitingOf q.dest = none ∧ s.freeSlot = some i ∧ t = s.allocate i q none) ∨
    ∃ i k, s.waitingOf q.dest = some i ∧ (s.slot i).take = some k ∧
      t = (s.delist i (s.takeDomain k)).allocate i q (some ⟨s.tagOf i, k.dest, k.source, .superseded⟩) := by
  cases hw : s.waitingOf q.dest with
  | none =>
    cases hf : s.freeSlot with
    | none => rw [admitTake_full hw hf] at h; cases h
    | some i => rw [admitTake_fresh hw hf] at h; cases h; exact .inl ⟨i, rfl, rfl, rfl⟩
  | some i =>
    obtain ⟨k, hk, -⟩ := take_of_waitingOf hw
    rw [admitTake_supersedes hw hk] at h
    cases h
    exact .inr ⟨i, k, rfl, hk, rfl⟩

theorem activeDest_of_waitingOf {d : Dest} {i : Slot} (h : s.waitingOf d = some i) : s.activeDest d = true := by
  obtain ⟨k, hk, hd, hwait⟩ := take_of_waitingOf h
  refine (activeDest_iff s d).2 ⟨i, k, hk, hd, ?_⟩
  rw [← TakeState.active_iff, TakeState.active, hwait, Bool.true_or]

end SlotStep

/-- Settles O21: a free slot, or the slot of the waiting take, is allocated with the next generation. -/
theorem slotStepAllocatesOrSupersedes : Obligations.SlotStepAllocatesOrSupersedes := by
  unfold Obligations.SlotStepAllocatesOrSupersedes
  refine fun s q => ⟨admitTake_full, fun i hw hf => ?_, fun i t hw ht => ?_⟩
  · rw [admitTake_fresh hw hf, allocate_eq]
    rfl
  · obtain ⟨k, hk, hd, -⟩ := take_of_waitingOf hw
    obtain rfl : k = t := Option.some.inj (hk.symm.trans ht)
    have hactive : (s.delist i (s.takeDomain k)).activeDest q.dest = true := activeDest_of_waitingOf hw
    rw [admitTake_supersedes hw hk, allocate_eq, hactive, if_pos rfl, List.append_nil, hd]
    have hm : s.takeDomain k = (s.dest q.dest).domain := by rw [takeDomain, hd]
    rw [hm]
    have hqueue (d : Dom) : (s.delist i d).queue d = (s.queue d).filter (fun j => j ≠ i) := look_put_same ..
    simp only [State.allotted]
    have hdest : ((s.delist i (s.dest q.dest).domain).dest q.dest).domain = (s.dest q.dest).domain := rfl
    rw [hdest, hqueue]
    simp only [State.delist, put, Vector.set_set]
    rfl

end Sys2Proof.Machine
end

section
/-! PROOF. The admission checks, in their order (R26, R46, R47). -/

namespace Sys2Proof.Machine

open State

/-- The level a panel acts with: the router's own panel 0 at the strongest. -/
def State.actingLevel (s : State) (p : Panel) : Level := if p = 0 then 0 else (look s.registry.panels p).level

theorem fieldLevel_val (s : State) (p : Panel) :
    s.fieldLevel p.val = if p ≠ 0 ∧ (look s.registry.panels p).enrolled = false then none else some (p, s.actingLevel p) := by
  unfold fieldLevel panelLevel actingLevel
  rw [below_val]
  dsimp only
  by_cases hp : p = 0
  · simp [hp]
  · cases (look s.registry.panels p).enrolled <;> simp [hp]

theorem outputCheck_eq (s : State) (d : Dest) :
    s.outputCheck d = if (s.dest d).output = .offline then some .noOutput
      else if (s.dest d).output = .faulted then some .destFaulted
      else if (s.dest d).output = .unknown then some .notLearned else none := by
  unfold outputCheck
  cases (s.dest d).output <;> rfl

theorem domainCheck_eq (s : State) (d : Dest) :
    s.domainCheck d = if (s.dom (s.dest d).domain).lock = .closed ∨ (s.dom (s.dest d).domain).closing ≠ none
      then some .domainClosed else none := by
  unfold domainCheck
  simp only [Option.isSome_iff_ne_none]

theorem protectCheck_eq (s : State) (d : Dest) (p : Panel) (l : Level) :
    s.protectCheck d p l =
      if (∃ q, s.protectOf d = some q ∧ q.kind = .lock ∧ q.holder ≠ p) then some .locked
      else if (∃ q, s.protectOf d = some q ∧ q.kind = .protect ∧ q.holder ≠ p ∧ p ≠ 0 ∧ q.level < l) then some .guarded
      else none := by
  unfold protectCheck
  cases s.protectOf d with
  | none => simp
  | some r =>
    by_cases hh : r.holder = p
    · simp [hh]
    · cases hk : r.kind <;> simp [hh, hk]

theorem conditionCheck_eq (s : State) (d : Dest) (c : Option Src) :
    s.conditionCheck d c = if (∃ y, c = some y ∧ (s.dest d).source ≠ some y) then some .condFailed else none := by
  unfold conditionCheck
  cases c with
  | none => simp
  | some x => by_cases h : (s.dest d).source = some x <;> simp [h]

theorem ite_some_or {α : Type} (P : Prop) [Decidable P] (a : α) (o rest : Option α) :
    (if P then some a else o).or rest = if P then some a else o.or rest := by
  split <;> rfl

theorem elim_ite_some {α β : Type} (P : Prop) [Decidable P] (a : α) (o : Option α) (b : β) (f : α → β) :
    (if P then some a else o).elim b f = if P then f a else o.elim b f := by
  split <;> rfl

/-- Checks 4 to 8 on a destination, a source and an acting panel; the first that fails answers. -/
theorem admissionChecks_val (s : State) (d : Dest) (x : Src) (p : Panel) (c : Option Src) :
    s.admissionChecks d.val x.val p.val c =
      if p ≠ 0 ∧ (look s.registry.panels p).enrolled = false then .fail .noPanel
      else ((s.outputCheck d).or ((s.domainCheck d).or ((s.zoneCheck d p (s.actingLevel p)).or
        ((s.protectCheck d p (s.actingLevel p)).or (s.conditionCheck d c))))).elim (.pass d x p) .fail := by
  simp only [admissionChecks, below_val, fieldLevel_val]
  by_cases hp : p ≠ 0 ∧ (look s.registry.panels p).enrolled = false
  · simp only [if_pos hp]
  · simp only [if_neg hp]
    split
    · next h => rw [h]; rfl
    · next h => rw [h]; rfl

/-- Settles O20: the checks run in order on the fields, the first failure's code being the answer. -/
theorem admissionChecksRunInOrder : Obligations.AdmissionChecksRunInOrder := by
  unfold Obligations.AdmissionChecksRunInOrder
  refine fun s c => ⟨fun dest source panel h => ?_, fun d source panel h => ?_, fun d x panel h => ?_, fun d x p => ?_⟩
  · simp only [admissionChecks, below_of_ge h]
  · simp only [admissionChecks, below_val, below_of_ge h]
  · simp only [admissionChecks, below_val, fieldLevel, below_of_ge h]
  · rw [admissionChecks_val, outputCheck_eq, domainCheck_eq, zoneCheck, protectCheck_eq, conditionCheck_eq]
    simp only [ite_some_or, elim_ite_some, Option.none_or, Option.elim_none]
    rfl

end Sys2Proof.Machine
end

section
/-! PROOF. A report of the current source, as an equation for each of its three cases (R4, R5, R11, R14, R15). -/

namespace Sys2Proof.Machine

open State

section Report

variable {s : State} {d : Dest} {x : Src}

theorem setDest_dest (s : State) (d : Dest) : s.setDest d (s.dest d) = s := by
  unfold setDest dest
  rw [put_look]

/-- The source and the output state are as reported. -/
theorem applyReport_unchanged (o : ChangeOrigin) (hx : (s.dest d).source = some x)
    (ho : (s.dest d).output.after .report = (s.dest d).output) : s.applyReport d x o = s := by
  have same : { s.dest d with source := some x, output := (s.dest d).output } = s.dest d := by rw [← hx]
  simp only [applyReport, hx, ho, ne_eq, not_true_eq_false, decide_false, Bool.or_false, Bool.false_eq_true, if_false]
  exact (congrArg (s.setDest d) same).trans (setDest_dest s d)

/-- The output state alone changes. -/
theorem applyReport_output (o : ChangeOrigin) (hx : (s.dest d).source = some x)
    (ho : (s.dest d).output.after .report ≠ (s.dest d).output) :
    s.applyReport d x o = (s.setDest d { s.dest d with
      output := (s.dest d).output.after .report, origin := o, stamp := s.now }).hand (.dest d) := by
  simp only [applyReport, hx, ho, ne_eq, not_true_eq_false, decide_false, Bool.or_true, decide_true, if_true,
    Bool.false_eq_true, if_false, not_false_eq_true]

/-- The source changes: the destination's share moves from the old one to the new one. -/
theorem applyReport_source (o : ChangeOrigin) (hx : (s.dest d).source ≠ some x) :
    s.applyReport d x o = (((s.moveShare (s.dest d).source (some x) (tallyShare (s.dest d).role (s.recording d))).setDest d
      { s.dest d with
        source := some x, output := (s.dest d).output.after .report, origin := o, stamp := s.now }).hand
          (.dest d)).recolour s (s.dest d).source (some x) := by
  simp only [applyReport, hx, ne_eq, not_false_eq_true, decide_true, Bool.true_or, if_true]

theorem after_report (o : OutputState) : o.after .report = if o = .faulted then .faulted else .ready := by
  cases o <;> rfl

theorem src_applyReport (o : ChangeOrigin) (hx : (s.dest d).source ≠ some x) (y : Src) :
    (s.applyReport d x o).src y =
      (s.moveShare (s.dest d).source (some x) (tallyShare (s.dest d).role (s.recording d))).src y := by
  rw [applyReport_source o hx]
  simp [src_def]

/-- A source handed over where its colour differs from before. -/
def State.recoloured (s before : State) (x : Src) : List Handed :=
  if (s.src x).colour = (before.src x).colour then [] else [.source x]

/-- An optional source handed over where its colour differs from before. -/
def State.recolouredOpt (s before : State) : Option Src → List Handed
  | some y => s.recoloured before y
  | none => []

theorem handed_handRecoloured (t before : State) (y : Src) :
    (t.handRecoloured before y).handed = t.handed ++ t.recoloured before y := by
  unfold handRecoloured State.recoloured
  split
  · rw [List.append_nil]
  · rfl

/-- The old source is handed over before the new one (R14). -/
theorem handed_recolour (t before : State) {a : Option Src} {x : Src} (h : a ≠ some x) :
    (t.recolour before a (some x)).handed =
      t.handed ++ (t.recolouredOpt before a ++ t.recoloured before x) := by
  unfold recolour
  cases a with
  | none => simp only [handed_handRecoloured, State.recolouredOpt, List.nil_append, reduceCtorEq, if_false]
  | some y =>
    have hne : some x ≠ some y := fun e => h e.symm
    have hsame : (t.handRecoloured before y).recoloured before x = t.recoloured before x := by
      unfold State.recoloured
      rw [src_handRecoloured]
    simp only [handed_handRecoloured, State.recolouredOpt, if_neg hne, hsame, List.append_assoc]

theorem applyReport_source_eq (o : ChangeOrigin) (hx : (s.dest d).source ≠ some x) :
    s.applyReport d x o = { s with
      dests := put s.dests d { s.dest d with
        source := some x, output := (s.dest d).output.after .report, origin := o, stamp := s.now }
      srcs := (s.applyReport d x o).srcs
      handed := s.handed ++ ([.dest d] ++ ((s.applyReport d x o).recolouredOpt s (s.dest d).source ++
        (s.applyReport d x o).recoloured s x)) } := by
  have handed : (s.applyReport d x o).handed = s.handed ++ ([.dest d] ++ ((s.applyReport d x o).recolouredOpt s (s.dest d).source ++
        (s.applyReport d x o).recoloured s x)) := by
    have colour (y : Src) (u : State) : (u.recolour s (s.dest d).source (some x)).recoloured s y = u.recoloured s y := by
      unfold State.recoloured
      rw [src_recolour]
    have colours (a : Option Src) (u : State) :
        (u.recolour s (s.dest d).source (some x)).recolouredOpt s a = u.recolouredOpt s a := by
      cases a with
      | none => rfl
      | some y => exact colour y u
    rw [applyReport_source o hx, handed_recolour _ _ hx, colour, colours]
    simp
  have dests : (s.applyReport d x o).dests = put s.dests d { s.dest d with
      source := some x, output := (s.dest d).output.after .report, origin := o, stamp := s.now } := by
    rw [applyReport_source o hx]
    simp
  apply State.ext
  case dests => exact dests
  case handed => exact handed
  all_goals simp

end Report

/-- Settles O18: nothing, the output state, or the source with its counts changes. -/
theorem reportSetsTheCurrentSource : Obligations.ReportSetsTheCurrentSource := by
  unfold Obligations.ReportSetsTheCurrentSource
  intro s d x o r out on
  have hout : r.output.after .report = out := after_report r.output
  refine ⟨fun hx ho => applyReport_unchanged o hx (hout.trans ho), fun hx ho => ?_, fun hx => ⟨?_, ?_, fun y hy => ?_,
    fun y hyx hy => ?_⟩⟩
  · rw [applyReport_output o hx (by rw [hout]; exact ho), hout]
    rfl
  · rw [← hout, List.append_assoc]
    exact applyReport_source_eq o hx
  · rw [src_applyReport o hx, src_moveShare, if_neg hx, if_pos rfl]
    rfl
  · have hyx : some x ≠ some y := fun e => hx (hy.trans e.symm)
    rw [src_applyReport o hx, src_moveShare, if_pos hy, if_neg hyx]
    rfl
  · rw [src_applyReport o hx, src_moveShare, if_neg hy, if_neg (fun e => hyx (Option.some.inj e).symm)]

end Sys2Proof.Machine
end

section
/-! PROOF. The law of the Take Pool in a form its moves can keep: each list names the slots whose takes are in its state, and
a move touches one slot (R20, R22, R29, R43, R95). -/

namespace Sys2Proof.Machine

open State

/-! ## Lists that name slots -/

/-- The list names, each once, the slots of which `P` holds. -/
def Names {α : Type} (l : List α) (P : α → Prop) : Prop := l.Nodup ∧ ∀ a, a ∈ l ↔ P a

/-- A list becomes another, the same but for `a`, which it now names if `b` holds. -/
structure Relisted {α : Type} (a : α) (l l' : List α) (b : Prop) : Prop where
  nodup : l'.Nodup
  others : ∀ c, c ≠ a → (c ∈ l' ↔ c ∈ l)
  own : a ∈ l' ↔ b

section Relisted

variable {α : Type} {a : α} {l : List α} {b : Prop}

theorem Relisted.stay (hl : l.Nodup) (h : a ∈ l ↔ b) : Relisted a l l b := ⟨hl, fun _ _ => Iff.rfl, h⟩

theorem Relisted.leave [DecidableEq α] (hl : l.Nodup) (hb : ¬ b) : Relisted a l (l.filter (fun c => c ≠ a)) b :=
  ⟨hl.filter _, fun c hc => by simp [hc], by simp [hb]⟩

theorem Relisted.join (hl : l.Nodup) (ha : a ∉ l) (hb : b) : Relisted a l (l ++ [a]) b :=
  ⟨List.nodup_append.2 ⟨hl, List.nodup_singleton a, fun x hx y hy e => ha (by rw [← List.mem_singleton.1 hy, ← e]; exact hx)⟩,
    fun c hc => by simp [hc], by simp [hb]⟩

theorem Relisted.names {P Q : α → Prop} {l' : List α} (h : Relisted a l l' b) (hl : Names l P) (ha : Q a ↔ b)
    (hothers : ∀ c, c ≠ a → (Q c ↔ P c)) : Names l' Q := by
  refine ⟨h.nodup, fun c => ?_⟩
  by_cases hc : c = a
  · rw [hc, h.own, ha]
  · rw [h.others c hc, hl.2 c, hothers c hc]

end Relisted

theorem Names.congr {α : Type} {l : List α} {P Q : α → Prop} (h : Names l P) (hPQ : ∀ a, Q a ↔ P a) : Names l Q :=
  ⟨h.1, fun a => (h.2 a).trans (hPQ a).symm⟩

/-! ## What the law asks of a take -/

/-- The outcome, the report and the time of issue fit the take's state. -/
structure Take.Sound (k : Take) : Prop where
  done : k.state = .done ↔ k.outcome ≠ none
  reported : k.state = .done → k.report = true
  issued : k.state.outstanding = true → k.issuedAt ≠ none

/-- The slot holds a take of which `p` holds. -/
def State.Has (s : State) (i : Slot) (p : Take → Prop) : Prop := ∃ k, (s.slot i).take = some k ∧ p k

/-- The slot holds a waiting take of the domain. -/
def State.Waits (s : State) (d : Dom) (i : Slot) : Prop :=
  s.Has i (fun k => (s.dest k.dest).domain = d ∧ k.state.waiting = true)

/-- The slot holds an outstanding take. -/
def State.Out (s : State) (i : Slot) : Prop := s.Has i (fun k => k.state.outstanding = true)

/-- The slot holds a RETRY take of the domain. -/
def State.Retries (s : State) (d : Dom) (i : Slot) : Prop :=
  s.Has i (fun k => (s.dest k.dest).domain = d ∧ k.state = .retry)

/-- The slot holds a DONE take. -/
def State.Reports (s : State) (i : Slot) : Prop := s.Has i (fun k => k.state = .done)

/-- The slots on a domain's retry list. -/
def State.retrySlots (s : State) (d : Dom) : List Slot := (look s.bus.retry d).map Tag.slot

/-- The slots whose takes run an ABSENT timer. -/
def State.timedSlots (s : State) : List Slot := s.bus.absent.map (fun a => a.1.slot)

/-- PoolLaw, list by list. -/
structure PoolSound (s : State) : Prop where
  queue : ∀ d, Names (s.queue d) (s.Waits d)
  issued : Names s.pool.issued s.Out
  retry : ∀ d, Names (s.retrySlots d) (s.Retries d)
  retryTag : ∀ d, ∀ g ∈ look s.bus.retry d, g.gen = (s.slot g.slot).gen
  reports : Names s.pool.reports s.Reports
  timed : s.timedSlots.Nodup
  timer : ∀ a ∈ s.bus.absent, a.1.gen = (s.slot a.1.slot).gen ∧ s.Out a.1.slot
  take : ∀ i k, (s.slot i).take = some k → k.Sound
  waiting : ∀ i j k l, (s.slot i).take = some k → (s.slot j).take = some l → k.dest = l.dest →
    k.state.waiting = true → l.state.waiting = true → i = j
  outstanding : ∀ i j k l, (s.slot i).take = some k → (s.slot j).take = some l → k.dest = l.dest →
    k.state.outstanding = true → l.state.outstanding = true → i = j

theorem Tag.ext_slot {g h : Tag} (hs : g.slot = h.slot) (hg : g.gen = h.gen) : g = h := by
  cases g; cases h; cases hs; cases hg; rfl

/-- A list of tags, each the present one of its slot, named by a condition on the slots. -/
theorem names_tags_iff {s : State} {l : List Tag} {P : Slot → Prop} :
    (l.Nodup ∧ ∀ g, g ∈ l ↔ (g.gen = (s.slot g.slot).gen ∧ P g.slot)) ↔
      Names (l.map Tag.slot) P ∧ ∀ g ∈ l, g.gen = (s.slot g.slot).gen := by
  constructor
  · rintro ⟨hl, hmem⟩
    refine ⟨⟨?_, fun i => ?_⟩, fun g hg => ((hmem g).1 hg).1⟩
    · refine hl.map_on (fun g hg h hh e => Tag.ext_slot e ?_)
      rw [((hmem g).1 hg).1, ((hmem h).1 hh).1, e]
    · rw [List.mem_map]
      refine ⟨fun ⟨g, hg, e⟩ => e ▸ ((hmem g).1 hg).2, fun hi => ⟨s.tagOf i, (hmem _).2 ⟨rfl, hi⟩, rfl⟩⟩
  · rintro ⟨⟨hl, hmem⟩, hgen⟩
    refine ⟨hl.of_map, fun g => ⟨fun hg => ⟨hgen g hg, (hmem _).1 (List.mem_map_of_mem hg)⟩, fun ⟨hg, hP⟩ => ?_⟩⟩
    obtain ⟨h, hh, e⟩ := List.mem_map.1 ((hmem _).2 hP)
    rwa [Tag.ext_slot e (by rw [hgen h hh, e, hg])] at hh

theorem poolLaw_iff (s : State) : PoolLaw s ↔ PoolSound s := by
  have hretry (d : Dom) := names_tags_iff (s := s) (l := look s.bus.retry d) (P := s.Retries d)
  have waits (d : Dom) (i : Slot) : s.Waits d i ↔ ∃ k, (s.slot i).take = some k ∧
      (s.dest k.dest).domain = d ∧ (k.state = .queued ∨ k.state = .held) := by
    simp only [State.Waits, State.Has, TakeState.waiting_iff]
  have out (i : Slot) : s.Out i ↔ ∃ k, (s.slot i).take = some k ∧ (k.state = .issued ∨ k.state = .retry) := by
    simp only [State.Out, State.Has, TakeState.outstanding_iff]
  constructor
  · rintro ⟨hqueue, hissued, hretries, hreports, ⟨htimed, htimer⟩, htake, hone⟩
    refine ⟨fun d => ⟨(hqueue d).1, fun i => ((hqueue d).2 i).trans (waits d i).symm⟩,
      ⟨hissued.1, fun i => (hissued.2 i).trans (out i).symm⟩, fun d => ((hretry d).1 (hretries d)).1,
      fun d => ((hretry d).1 (hretries d)).2, hreports, htimed, fun a ha => ?_, fun i k hk => ?_, ?_, ?_⟩
    · obtain ⟨hgen, hout⟩ := htimer a ha
      exact ⟨hgen, (out _).2 hout⟩
    · obtain ⟨hdone, hrep, hiss⟩ := htake i k hk
      exact ⟨hdone, hrep, fun h => hiss ((TakeState.outstanding_iff _).1 h)⟩
    · intro i j k l hk hl hd hw hw'
      exact hone i j k l hk hl hd (.inl ⟨(TakeState.waiting_iff _).1 hw, (TakeState.waiting_iff _).1 hw'⟩)
    · intro i j k l hk hl hd hw hw'
      exact hone i j k l hk hl hd (.inr ⟨(TakeState.outstanding_iff _).1 hw, (TakeState.outstanding_iff _).1 hw'⟩)
  · intro h
    refine ⟨fun d => ⟨(h.queue d).1, fun i => ((h.queue d).2 i).trans (waits d i)⟩,
      ⟨h.issued.1, fun i => (h.issued.2 i).trans (out i)⟩, fun d => (hretry d).2 ⟨h.retry d, h.retryTag d⟩, h.reports,
      ⟨h.timed, fun a ha => ?_⟩, fun i k hk => ?_, fun i j k l hk hl hd ho => ?_⟩
    · obtain ⟨hgen, hout⟩ := h.timer a ha
      exact ⟨hgen, (out _).1 hout⟩
    · obtain ⟨hdone, hrep, hiss⟩ := h.take i k hk
      exact ⟨hdone, hrep, fun ho => hiss ((TakeState.outstanding_iff _).2 ho)⟩
    · obtain ⟨hw, hw'⟩ | ⟨hw, hw'⟩ := ho
      · exact h.waiting i j k l hk hl hd ((TakeState.waiting_iff _).2 hw) ((TakeState.waiting_iff _).2 hw')
      · exact h.outstanding i j k l hk hl hd ((TakeState.outstanding_iff _).2 hw) ((TakeState.outstanding_iff _).2 hw')

end Sys2Proof.Machine
end

section
/-! PROOF. Moves that keep the law of the Take Pool: takes that only wait differently, timers that come and go, and one slot
changed with the lists that name it (R20, R22, R30, R81, R105). -/

namespace Sys2Proof.Machine

open State

/-! ## Takes that count alike -/

/-- Two takes that the law cannot tell apart: they may differ in which of the waiting states they are in. -/
structure Take.Alike (k l : Take) : Prop where
  dest : l.dest = k.dest
  waiting : l.state.waiting = k.state.waiting
  state : l.state.waiting = false → l.state = k.state
  outcome : l.outcome = k.outcome
  report : l.report = k.report
  issuedAt : l.issuedAt = k.issuedAt

theorem Take.Alike.refl (k : Take) : k.Alike k := ⟨rfl, rfl, fun _ => rfl, rfl, rfl, rfl⟩

section TakeAlike

variable {k l : Take} (h : k.Alike l)
include h

/-- A state that is no waiting one is the same in both. -/
theorem Take.Alike.state_iff {x : TakeState} (hx : x.waiting = false) : l.state = x ↔ k.state = x := by
  constructor
  · intro e
    rw [← h.state (by rw [e, hx]), e]
  · intro e
    rw [h.state (by rw [h.waiting, e, hx]), e]

theorem Take.Alike.outstanding : l.state.outstanding = k.state.outstanding := by
  rw [Bool.eq_iff_iff, TakeState.outstanding_iff, TakeState.outstanding_iff, h.state_iff rfl, h.state_iff rfl]

theorem Take.Alike.sound (hk : k.Sound) : l.Sound where
  done := by rw [h.state_iff rfl, h.outcome]; exact hk.done
  reported hl := by rw [h.report]; exact hk.reported ((h.state_iff rfl).1 hl)
  issued hl := by rw [h.issuedAt]; exact hk.issued (by rw [← h.outstanding, hl])

end TakeAlike

/-- Two slot records the law cannot tell apart. -/
structure SlotRec.Alike (r r' : SlotRec) : Prop where
  gen : r'.gen = r.gen
  back : ∀ l, r'.take = some l → ∃ k, r.take = some k ∧ k.Alike l
  forth : ∀ k, r.take = some k → ∃ l, r'.take = some l ∧ k.Alike l

theorem SlotRec.Alike.of_take {r r' : SlotRec} (hgen : r'.gen = r.gen) (h : r'.take = r.take) : r.Alike r' :=
  ⟨hgen, fun l hl => ⟨l, h ▸ hl, Take.Alike.refl l⟩, fun k hk => ⟨k, h ▸ hk, Take.Alike.refl k⟩⟩

theorem SlotRec.Alike.refl (r : SlotRec) : r.Alike r := .of_take rfl rfl

theorem SlotRec.Alike.of_some {r r' : SlotRec} {k l : Take} (hgen : r'.gen = r.gen) (hk : r.take = some k)
    (hl : r'.take = some l) (h : k.Alike l) : r.Alike r' :=
  ⟨hgen, fun m hm => ⟨k, hk, by rw [hl] at hm; cases hm; exact h⟩,
    fun m hm => ⟨l, hl, by rw [hk] at hm; cases hm; exact h⟩⟩

theorem has_alike {s t : State} {i : Slot} {p q : Take → Prop} (h : (s.slot i).Alike (t.slot i))
    (hpq : ∀ k l, (s.slot i).take = some k → k.Alike l → (q l ↔ p k)) : t.Has i q ↔ s.Has i p := by
  constructor
  · rintro ⟨l, hl, hq⟩
    obtain ⟨k, hk, halike⟩ := h.back l hl
    exact ⟨k, hk, (hpq k l hk halike).1 hq⟩
  · rintro ⟨k, hk, hp⟩
    obtain ⟨l, hl, halike⟩ := h.forth k hk
    exact ⟨l, hl, (hpq k l hk halike).2 hp⟩

theorem active_of_waiting {x : TakeState} (h : x.waiting = true) : x.active = true := by
  rw [TakeState.active, h, Bool.true_or]

theorem active_of_outstanding {x : TakeState} (h : x.outstanding = true) : x.active = true := by
  rw [TakeState.active, h, Bool.or_true]

/-! ## States whose slots count alike -/

/-- The slots count alike, and the domain of no active take has changed. -/
structure SlotsAlike (s t : State) : Prop where
  slot : ∀ i, (s.slot i).Alike (t.slot i)
  domain : ∀ i k, (s.slot i).take = some k → k.state.active = true → (t.dest k.dest).domain = (s.dest k.dest).domain

section SlotsAlike

variable {s t : State} (h : SlotsAlike s t)
include h

theorem SlotsAlike.waits (d : Dom) (i : Slot) : t.Waits d i ↔ s.Waits d i := by
  refine has_alike (h.slot i) (fun k l hk halike => ?_)
  rw [halike.dest, halike.waiting]
  refine and_congr_left (fun hw => ?_)
  rw [h.domain i k hk (active_of_waiting hw)]

theorem SlotsAlike.out (i : Slot) : t.Out i ↔ s.Out i :=
  has_alike (h.slot i) (fun _ _ _ halike => by rw [halike.outstanding])

theorem SlotsAlike.retries (d : Dom) (i : Slot) : t.Retries d i ↔ s.Retries d i := by
  refine has_alike (h.slot i) (fun k l hk halike => ?_)
  rw [halike.dest, halike.state_iff rfl]
  refine and_congr_left (fun hr => ?_)
  rw [h.domain i k hk (by rw [hr]; rfl)]

theorem SlotsAlike.reports (i : Slot) : t.Reports i ↔ s.Reports i :=
  has_alike (h.slot i) (fun _ _ _ halike => halike.state_iff rfl)

/-- The law holds of the state whose slots count alike and whose lists are the same, its timers being lawful. -/
theorem PoolSound.alike (hp : PoolSound s) (hqueues : t.pool.queues = s.pool.queues) (hissued : t.pool.issued = s.pool.issued)
    (hreports : t.pool.reports = s.pool.reports) (hretry : t.bus.retry = s.bus.retry) (htimed : t.timedSlots.Nodup)
    (htimer : ∀ a ∈ t.bus.absent, a.1.gen = (s.slot a.1.slot).gen ∧ s.Out a.1.slot) : PoolSound t where
  queue d := by rw [queue_def, hqueues]; exact (hp.queue d).congr (h.waits d)
  issued := by rw [hissued]; exact hp.issued.congr h.out
  retry d := by rw [State.retrySlots, hretry]; exact (hp.retry d).congr (h.retries d)
  retryTag d g hg := by rw [(h.slot _).gen]; rw [hretry] at hg; exact hp.retryTag d g hg
  reports := by rw [hreports]; exact hp.reports.congr h.reports
  timed := htimed
  timer a ha := by rw [(h.slot _).gen, h.out]; exact htimer a ha
  take i l hl := by
    obtain ⟨k, hk, halike⟩ := (h.slot i).back l hl
    exact halike.sound (hp.take i k hk)
  waiting i j k l hk hl hd hw hw' := by
    obtain ⟨k', hk', hka⟩ := (h.slot i).back k hk
    obtain ⟨l', hl', hla⟩ := (h.slot j).back l hl
    rw [hka.dest, hla.dest] at hd
    rw [hka.waiting] at hw
    rw [hla.waiting] at hw'
    exact hp.waiting i j k' l' hk' hl' hd hw hw'
  outstanding i j k l hk hl hd hw hw' := by
    obtain ⟨k', hk', hka⟩ := (h.slot i).back k hk
    obtain ⟨l', hl', hla⟩ := (h.slot j).back l hl
    rw [hka.dest, hla.dest] at hd
    rw [hka.outstanding] at hw
    rw [hla.outstanding] at hw'
    exact hp.outstanding i j k' l' hk' hl' hd hw hw'

/-- The law holds of the state whose slots count alike and whose lists are the same. -/
theorem PoolSound.same (hp : PoolSound s) (hqueues : t.pool.queues = s.pool.queues) (hissued : t.pool.issued = s.pool.issued)
    (hreports : t.pool.reports = s.pool.reports) (hretry : t.bus.retry = s.bus.retry)
    (habsent : t.bus.absent = s.bus.absent) : PoolSound t :=
  hp.alike h hqueues hissued hreports hretry (by rw [State.timedSlots, habsent]; exact hp.timed)
    (by rw [habsent]; exact hp.timer)

end SlotsAlike

/-- The law reads the pool, the bus and the domains of the destinations alone. -/
theorem PoolSound.of_eq {s t : State} (hp : PoolSound s) (hpool : t.pool = s.pool) (hretry : t.bus.retry = s.bus.retry)
    (habsent : t.bus.absent = s.bus.absent) (hdomain : ∀ d, (t.dest d).domain = (s.dest d).domain) : PoolSound t :=
  hp.same ⟨fun i => by rw [slot_def, slot_def, hpool]; exact SlotRec.Alike.refl _, fun i k _ _ => hdomain k.dest⟩
    (by rw [hpool]) (by rw [hpool]) (by rw [hpool]) hretry habsent

/-! ## One slot changed -/

/-- The slot `i` alone has changed, and with it the lists that name it; what it now holds, if anything, is lawful. -/
structure OneSlot (s t : State) (i : Slot) : Prop where
  domain : ∀ d, (t.dest d).domain = (s.dest d).domain
  slot : ∀ j, j ≠ i → t.slot j = s.slot j
  queue : ∀ d, Relisted i (s.queue d) (t.queue d) (t.Waits d i)
  issued : Relisted i s.pool.issued t.pool.issued (t.Out i)
  retry : ∀ d, Relisted i (s.retrySlots d) (t.retrySlots d) (t.Retries d i)
  retryTag : ∀ d, ∀ g ∈ look t.bus.retry d, g ∈ look s.bus.retry d ∧ g.slot ≠ i ∨ g.gen = (t.slot g.slot).gen
  reports : Relisted i s.pool.reports t.pool.reports (t.Reports i)
  timed : t.timedSlots.Nodup
  timer : ∀ a ∈ t.bus.absent, a ∈ s.bus.absent ∧ (a.1.slot = i → (t.slot i).gen = (s.slot i).gen ∧ t.Out i)
  take : ∀ k, (t.slot i).take = some k → k.Sound
  waiting : ∀ k, (t.slot i).take = some k → k.state.waiting = true →
    ∀ j l, j ≠ i → (s.slot j).take = some l → l.state.waiting = true → l.dest ≠ k.dest
  outstanding : ∀ k, (t.slot i).take = some k → k.state.outstanding = true →
    ∀ j l, j ≠ i → (s.slot j).take = some l → l.state.outstanding = true → l.dest ≠ k.dest

theorem has_other {s t : State} {j : Slot} {p q : Take → Prop} (h : t.slot j = s.slot j) (hpq : ∀ k, q k ↔ p k) :
    t.Has j q ↔ s.Has j p := by
  unfold State.Has
  rw [h]
  exact exists_congr (fun k => and_congr_right (fun _ => hpq k))

/-- A take of a kind that no other slot holds for its destination is the only one of its kind there. -/
theorem one_of_kind {s t : State} {i : Slot} {kind : Take → Prop} (hslot : ∀ j, j ≠ i → t.slot j = s.slot j)
    (hi : ∀ k, (t.slot i).take = some k → kind k → ∀ j l, j ≠ i → (s.slot j).take = some l → kind l → l.dest ≠ k.dest)
    (hs : ∀ a b k l, (s.slot a).take = some k → (s.slot b).take = some l → k.dest = l.dest → kind k → kind l → a = b)
    (a b : Slot) (k l : Take) (hk : (t.slot a).take = some k) (hl : (t.slot b).take = some l) (hd : k.dest = l.dest)
    (hkk : kind k) (hkl : kind l) : a = b := by
  by_cases ha : a = i
  · by_cases hb : b = i
    · rw [ha, hb]
    · rw [hslot b hb] at hl
      rw [ha] at hk
      exact absurd hd.symm (hi k hk hkk b l hb hl hkl)
  · rw [hslot a ha] at hk
    by_cases hb : b = i
    · rw [hb] at hl
      exact absurd hd (hi l hl hkl a k ha hk hkk)
    · rw [hslot b hb] at hl
      exact hs a b k l hk hl hd hkk hkl

theorem PoolSound.oneSlot {s t : State} {i : Slot} (hp : PoolSound s) (h : OneSlot s t i) : PoolSound t where
  queue d := (h.queue d).names (hp.queue d) Iff.rfl
    (fun j hj => has_other (h.slot j hj) (fun k => by rw [h.domain]))
  issued := h.issued.names hp.issued Iff.rfl (fun j hj => has_other (h.slot j hj) (fun k => Iff.rfl))
  retry d := (h.retry d).names (hp.retry d) Iff.rfl
    (fun j hj => has_other (h.slot j hj) (fun k => by rw [h.domain]))
  retryTag d g hg := by
    obtain ⟨hgs, hne⟩ | hgen := h.retryTag d g hg
    · rw [h.slot _ hne]; exact hp.retryTag d g hgs
    · exact hgen
  reports := h.reports.names hp.reports Iff.rfl (fun j hj => has_other (h.slot j hj) (fun k => Iff.rfl))
  timed := h.timed
  timer a ha := by
    obtain ⟨has, hi⟩ := h.timer a ha
    obtain ⟨hgen, hout⟩ := hp.timer a has
    by_cases hs : a.1.slot = i
    · obtain ⟨hsame, hin⟩ := hi hs
      rw [hs] at hgen ⊢
      exact ⟨hgen.trans hsame.symm, hin⟩
    · rw [h.slot _ hs]
      exact ⟨hgen, (has_other (h.slot _ hs) (fun k => Iff.rfl)).2 hout⟩
  take j k hk := by
    by_cases hj : j = i
    · exact h.take k (hj ▸ hk)
    · rw [h.slot j hj] at hk
      exact hp.take j k hk
  waiting := one_of_kind h.slot h.waiting hp.waiting
  outstanding := one_of_kind h.slot h.outstanding hp.outstanding

end Sys2Proof.Machine
end

section
/-! PROOF. The moves of the Take Pool keep its law: the end of a take, the slot step, an issue, a deadline, a re-issue
(R22, R27, R35, R97, R99). -/

namespace Sys2Proof.Machine

open State

/-! ## A slot that leaves every list -/

theorem Relisted.of_not {α : Type} {a : α} {l l' : List α} {b c : Prop} (h : Relisted a l l' b) (hbc : c ↔ b) :
    Relisted a l l' c := ⟨h.nodup, h.others, h.own.trans hbc.symm⟩

/-- Of four lists the one that may name `a` loses it. -/
theorem relisted_put_leave {α : Type} [DecidableEq α] {v : Vector (List α) 4} {a : α} {m d : Dom}
    (hl : (look v d).Nodup) (hm : a ∈ look v d → d = m) :
    Relisted a (look v d) (look (put v m ((look v m).filter (fun c => c ≠ a))) d) False := by
  rw [look_put]
  split
  · next hd => rw [hd] at hl ⊢; exact .leave hl id
  · next hd => exact .stay hl ⟨fun h => hd (hm h), False.elim⟩

/-- The state with slot `i` off every list and holding `r`. -/
def State.removed (s : State) (i : Slot) (m : Dom) (r : SlotRec) (reports : List Slot) : State :=
  { s with
    pool := { s.pool with
      slots := put s.pool.slots i r
      queues := put s.pool.queues m ((s.queue m).filter (fun j => j ≠ i))
      issued := s.pool.issued.filter (fun j => j ≠ i)
      reports := reports }
    bus := { s.bus with
      retry := put s.bus.retry m ((look s.bus.retry m).filter (fun g => g.slot ≠ i))
      absent := s.bus.absent.filter (fun a => a.1.slot ≠ i) } }

theorem map_slot_filter (l : List Tag) (i : Slot) :
    (l.filter (fun g => g.slot ≠ i)).map Tag.slot = (l.map Tag.slot).filter (fun j => j ≠ i) := by
  rw [List.filter_map]
  rfl

section Removed

variable {s : State} {i : Slot} {m : Dom} {r : SlotRec} {reports : List Slot}

theorem slot_removed (j : Slot) : (s.removed i m r reports).slot j = if j = i then r else s.slot j := look_put ..

theorem retrySlots_removed (d : Dom) : (s.removed i m r reports).retrySlots d =
    if d = m then (s.retrySlots m).filter (fun j => j ≠ i) else s.retrySlots d := by
  unfold State.retrySlots State.removed
  dsimp only
  rw [look_put]
  split
  · exact map_slot_filter _ i
  · rfl

/-- A slot whose active take is gone, or DONE, keeps the law without its places on the lists. -/
theorem PoolSound.removed {k : Take} (hp : PoolSound s) (hk : (s.slot i).take = some k)
    (hm : m = (s.dest k.dest).domain) (hr : ∀ l, r.take = some l → l.state = .done ∧ l.Sound)
    (hreports : Relisted i s.pool.reports reports (∃ l, r.take = some l)) : PoolSound (s.removed i m r reports) := by
  have hslot : (s.removed i m r reports).slot i = r := by rw [slot_removed, if_pos rfl]
  have hout : ¬ (s.removed i m r reports).Out i := by
    rintro ⟨l, hl, ho⟩
    rw [hslot] at hl
    rw [(hr l hl).1] at ho
    cases ho
  refine hp.oneSlot (i := i) ⟨fun d => rfl, fun j hj => by rw [slot_removed, if_neg hj], fun d => ?_,
    (Relisted.leave hp.issued.1 id).of_not (iff_false_intro hout), fun d => ?_, fun d g hg => .inl ?_, ?_, ?_, ?_,
    fun l hl => ?_, fun l hl hw => ?_, fun l hl hw => ?_⟩
  · refine (relisted_put_leave (hp.queue d).1 (fun hi => ?_)).of_not (iff_false_intro ?_)
    · obtain ⟨l, hl, hd, -⟩ := ((hp.queue d).2 i).1 hi
      obtain rfl : k = l := Option.some.inj (hk.symm.trans hl)
      rw [← hd, hm]
    · rintro ⟨l, hl, -, hw⟩
      rw [hslot] at hl
      rw [(hr l hl).1] at hw
      cases hw
  · have gone : ¬ (s.removed i m r reports).Retries d i := by
      rintro ⟨l, hl, -, hw⟩
      rw [hslot] at hl
      rw [(hr l hl).1] at hw
      cases hw
    rw [retrySlots_removed]
    split
    · next hd => rw [hd]; exact .leave (hp.retry m).1 (hd ▸ gone)
    · next hd =>
      refine .stay (hp.retry d).1 ⟨fun hi => ?_, fun h => absurd h gone⟩
      obtain ⟨l, hl, hdom, -⟩ := ((hp.retry d).2 i).1 hi
      obtain rfl : k = l := Option.some.inj (hk.symm.trans hl)
      exact absurd (hdom.symm.trans hm.symm) hd
  · have hg : g ∈ look (put s.bus.retry m ((look s.bus.retry m).filter (fun g => g.slot ≠ i))) d := hg
    rw [look_put] at hg
    split at hg
    · next hd =>
      obtain ⟨hmem, hne⟩ := List.mem_filter.1 hg
      exact ⟨hd ▸ hmem, of_decide_eq_true hne⟩
    · next hd =>
      refine ⟨hg, fun e => hd ?_⟩
      obtain ⟨l, hl, hdom, -⟩ := ((hp.retry d).2 i).1 (e ▸ List.mem_map_of_mem hg)
      obtain rfl : k = l := Option.some.inj (hk.symm.trans hl)
      exact hdom.symm.trans hm.symm
  · refine hreports.of_not ⟨fun ⟨l, hl, _⟩ => ⟨l, hslot ▸ hl⟩, fun ⟨l, hl⟩ => ⟨l, by rw [hslot, hl], (hr l hl).1⟩⟩
  · exact hp.timed.sublist (List.filter_sublist.map _)
  · intro a ha
    obtain ⟨hmem, hne⟩ := List.mem_filter.1 ha
    exact ⟨hmem, fun e => absurd e (of_decide_eq_true hne)⟩
  · exact (hr l (hslot ▸ hl)).2
  · rw [(hr l (hslot ▸ hl)).1] at hw
    cases hw
  · rw [(hr l (hslot ▸ hl)).1] at hw
    cases hw

end Removed

/-! ## The end of a take -/

theorem endedSlot_done {r : SlotRec} {i : Slot} {k l : Take} {o : TakeOutcome} (h : (endedSlot r i k o).take = some l) :
    l.state = .done ∧ l.Sound := by
  unfold endedSlot at h
  split at h <;> cases h
  next hr => exact ⟨rfl, ⟨by simp, fun _ => hr, fun ho => by cases ho⟩⟩

theorem not_mem_reports {s : State} {i : Slot} {k : Take} (hp : PoolSound s) (hk : (s.slot i).take = some k)
    (ha : k.state.active = true) : i ∉ s.pool.reports := by
  intro hi
  obtain ⟨l, hl, hd⟩ := (hp.reports.2 i).1 hi
  obtain rfl : k = l := Option.some.inj (hk.symm.trans hl)
  rw [hd] at ha
  cases ha

/-- The end of an active take keeps the law (R22). -/
theorem PoolSound.endTake {s : State} {i : Slot} {k : Take} (hp : PoolSound s) (hk : (s.slot i).take = some k)
    (ha : k.state.active = true) (o : TakeOutcome) : PoolSound (s.endTake i o) := by
  have hnot := not_mem_reports hp hk ha
  have ended : PoolSound (s.removed i (s.dest k.dest).domain (endedSlot (s.slot i) i k o)
      (if k.report then s.pool.reports ++ [i] else s.pool.reports)) := by
    refine hp.removed hk rfl (fun l hl => endedSlot_done hl) ?_
    unfold endedSlot
    split
    · exact .join hp.reports.1 hnot ⟨_, rfl⟩
    · exact .stay hp.reports.1 ⟨fun h => absurd h hnot, fun ⟨l, hl⟩ => by cases hl⟩
  rw [endTake_eq o hk, handIfIdle_eq]
  exact ended.of_eq rfl rfl rfl (fun d => rfl)

/-- The end of a take leaves every other slot. -/
theorem slot_endTake (s : State) {i j : Slot} (o : TakeOutcome) (h : j ≠ i) : (s.endTake i o).slot j = s.slot j := by
  cases hk : (s.slot i).take with
  | none => unfold State.endTake; rw [hk]
  | some k => rw [endTake_eq o hk, handIfIdle_eq]; exact (slot_ended o _ j).trans (if_neg h)

/-- Ending the active takes of distinct slots keeps the law. -/
theorem PoolSound.endAll {s : State} {is : List Slot} (hp : PoolSound s) (hnd : is.Nodup)
    (h : ∀ i ∈ is, s.Has i (fun k => k.state.active = true)) (o : TakeOutcome) : PoolSound (s.endAll is o) := by
  induction is generalizing s with
  | nil => exact hp
  | cons i is ih =>
    obtain ⟨hi, hnd⟩ := List.nodup_cons.1 hnd
    obtain ⟨k, hk, ha⟩ := h i List.mem_cons_self
    refine ih (hp.endTake hk ha o) hnd (fun j hj => ?_)
    have hne : j ≠ i := fun e => hi (e ▸ hj)
    unfold State.Has
    rw [slot_endTake s o hne]
    exact h j (List.mem_cons_of_mem i hj)

theorem slot_endAll {s : State} {is : List Slot} {j : Slot} (o : TakeOutcome) (h : j ∉ is) :
    (s.endAll is o).slot j = s.slot j := by
  induction is generalizing s with
  | nil => rfl
  | cons i is ih =>
    obtain ⟨hne, hj⟩ := not_or.1 (List.mem_cons.not.1 h)
    exact (ih hj).trans (slot_endTake s o hne)

/-! ## The slot step -/

section Allotted

variable {s : State} {i : Slot} {q : AdmitFields}

theorem outstanding_of_waiting {x : TakeState} (h : x.waiting = true) : x.outstanding = false := by
  obtain rfl | rfl := (TakeState.waiting_iff x).1 h <;> rfl

theorem newTake_waiting (s : State) (q : AdmitFields) : (s.newTake q).state.waiting = true := waiting_of_test _

theorem newTake_sound (s : State) (q : AdmitFields) : (s.newTake q).Sound := by
  unfold newTake
  cases s.holdTest q.dest <;> exact ⟨by simp, fun h => by simp at h, fun h => by cases h⟩

/-- A free slot allotted to a destination with no waiting take keeps the law (R21, R28). -/
theorem PoolSound.allotted (hp : PoolSound s) (hfree : (s.slot i).take = none)
    (hnone : ∀ j l, (s.slot j).take = some l → l.state.waiting = true → l.dest ≠ q.dest) (previous : Option EndedTake) :
    PoolSound (s.allotted i q previous) := by
  have hslot (j : Slot) : (s.allotted i q previous).slot j =
      if j = i then ⟨(s.slot i).gen + 1, some (s.newTake q), previous⟩ else s.slot j := look_put ..
  have hown : ((s.allotted i q previous).slot i).take = some (s.newTake q) := by rw [hslot, if_pos rfl]
  have hw := newTake_waiting s q
  have hqueue (d : Dom) : (s.allotted i q previous).queue d =
      if d = (s.dest q.dest).domain then s.queue d ++ [i] else s.queue d := by
    have : (s.allotted i q previous).queue d = look (put s.pool.queues (s.dest q.dest).domain
      (s.queue (s.dest q.dest).domain ++ [i])) d := rfl
    rw [this, look_put]
    split
    · next hd => rw [hd]
    · rfl
  have absent {p : Take → Prop} : ¬ s.Has i p := fun ⟨l, hl, _⟩ => by rw [hfree] at hl; cases hl
  have no_kind {p : Take → Prop} (hno : ¬ p (s.newTake q)) : ¬ (s.allotted i q previous).Has i p := by
    rintro ⟨l, hl, hpl⟩
    rw [hown] at hl
    cases hl
    exact hno hpl
  have not_outstanding := Bool.eq_false_iff.1 (outstanding_of_waiting hw)
  have not_retry : (s.newTake q).state ≠ .retry := fun h => by rw [h] at hw; cases hw
  have not_done : (s.newTake q).state ≠ .done := fun h => by rw [h] at hw; cases hw
  refine hp.oneSlot (i := i) ⟨fun d => rfl, fun j hj => by rw [hslot, if_neg hj], fun d => ?_,
    .stay hp.issued.1 ((hp.issued.2 i).trans (iff_of_false absent (no_kind not_outstanding))),
    fun d => .stay (hp.retry d).1 (((hp.retry d).2 i).trans (iff_of_false absent (no_kind (fun h => not_retry h.2)))),
    fun d g hg => .inl ⟨hg, fun e => ?_⟩,
    .stay hp.reports.1 ((hp.reports.2 i).trans (iff_of_false absent (no_kind not_done))), hp.timed,
    fun a ha => ⟨ha, fun e => absurd (e ▸ (hp.timer a ha).2) absent⟩, fun l hl => ?_, fun l hl _ j l' _ hl' hw' => ?_,
    fun l hl ho => ?_⟩
  · rw [hqueue]
    have hni : i ∉ s.queue d := fun hi => absent (((hp.queue d).2 i).1 hi)
    split
    · next hd => exact .join (hp.queue d).1 hni ⟨_, hown, hd.symm, hw⟩
    · next hd =>
      refine .stay (hp.queue d).1 (iff_of_false hni ?_)
      rintro ⟨l, hl, hdom, -⟩
      rw [hown] at hl
      cases hl
      exact hd hdom.symm
  · exact absent (e ▸ ((hp.retry d).2 _).1 (List.mem_map_of_mem hg))
  · rw [hown] at hl; cases hl; exact newTake_sound s q
  · rw [hown] at hl; cases hl; exact hnone j l' hl' hw'
  · rw [hown] at hl; cases hl; exact absurd ho not_outstanding

theorem no_waiting_of_none {d : Dest} (h : s.waitingOf d = none) (j : Slot) (l : Take) (hl : (s.slot j).take = some l)
    (hw : l.state.waiting = true) : l.dest ≠ d := by
  intro hd
  have found : (s.waitingOf d).isSome = true := by
    rw [waitingOf, findTake_isSome]
    exact ⟨j, by rw [SlotRec.holds_iff]; exact ⟨l, hl, by simp [hd, hw]⟩⟩
  rw [h] at found
  cases found

theorem PoolSound.allocate (hp : PoolSound s) (hfree : (s.slot i).take = none)
    (hnone : ∀ j l, (s.slot j).take = some l → l.state.waiting = true → l.dest ≠ q.dest) (previous : Option EndedTake) :
    PoolSound (s.allocate i q previous) := by
  rw [allocate_eq]
  exact (hp.allotted hfree hnone previous).of_eq rfl rfl rfl (fun d => rfl)

/-- An admission keeps the law: a fresh slot, or the slot of the superseded take once that has left its lists (R27). -/
theorem PoolSound.admitTake {a : Admitted} {t : State} (hp : PoolSound s) (h : s.admitTake q = some (a, t)) :
    PoolSound t := by
  obtain ⟨i, hw, hf, rfl⟩ | ⟨i, k, hw, hk, rfl⟩ := admitTake_cases h
  · exact hp.allocate ((freeSlot_eq_some s i).1 hf).1 (no_waiting_of_none hw) none
  · obtain ⟨l, hl, hd, hwait⟩ := take_of_waitingOf hw
    obtain rfl : k = l := Option.some.inj (hk.symm.trans hl)
    have hnot := not_mem_reports hp hk (active_of_waiting hwait)
    have freed : PoolSound (s.removed i (s.dest k.dest).domain ⟨(s.slot i).gen, none, none⟩ s.pool.reports) :=
      hp.removed hk rfl (fun l hl => nomatch hl)
        (.stay hp.reports.1 ⟨fun h => absurd h hnot, fun ⟨l, hl⟩ => nomatch hl⟩)
    have again := freed.allotted (i := i) (q := q) (by rw [slot_removed, if_pos rfl]) (fun j l hl hlw => by
      rw [slot_removed] at hl
      split at hl
      · cases hl
      · next hj => exact fun e => hj (hp.waiting j i l k hl hk (e.trans hd.symm) hlw hwait))
      (some ⟨s.tagOf i, k.dest, k.source, .superseded⟩)
    rw [allocate_eq]
    refine again.of_eq ?_ rfl rfl (fun d => rfl)
    have hslot : ((s.removed i (s.dest k.dest).domain ⟨(s.slot i).gen, none, none⟩ s.pool.reports).slot i).gen =
        (s.slot i).gen := by rw [slot_removed, if_pos rfl]
    simp only [State.allotted, hslot]
    simp only [State.removed, put_put]
    rfl

end Allotted

end Sys2Proof.Machine
end

section
/-! PROOF. A window keeps the law of the Take Pool: deadlines, re-issues and the selection walk (R31 to R36, R97, R99). -/

namespace Sys2Proof.Machine

open State

/-! ## A take that changes its state in its slot -/

section Restated

variable {s : State} {i : Slot} {k l : Take}

theorem slot_setTake (s : State) (i j : Slot) (l : Take) :
    (s.setTake i l).slot j = if j = i then { s.slot i with take := some l } else s.slot j := slot_setSlot ..

/-- What the lists of a state in which slot `i` holds `l` must say of it. -/
structure Placed (s t : State) (i : Slot) (l : Take) : Prop where
  slot : ∀ j, t.slot j = if j = i then { s.slot i with take := some l } else s.slot j
  domain : ∀ d, (t.dest d).domain = (s.dest d).domain
  queue : ∀ d, Relisted i (s.queue d) (t.queue d) ((s.dest l.dest).domain = d ∧ l.state.waiting = true)
  issued : Relisted i s.pool.issued t.pool.issued (l.state.outstanding = true)
  retry : ∀ d, Relisted i (s.retrySlots d) (t.retrySlots d) ((s.dest l.dest).domain = d ∧ l.state = .retry)
  retryTag : ∀ d, ∀ g ∈ look t.bus.retry d, g ∈ look s.bus.retry d ∨ g = s.tagOf i
  reports : Relisted i s.pool.reports t.pool.reports (l.state = .done)
  absent : t.bus.absent = s.bus.absent

/-- A take that stays with its destination, its generation and its timer keeps the law in a new state that its lists know. -/
theorem PoolSound.placed {t : State} (hp : PoolSound s) (hk : (s.slot i).take = some k) (h : Placed s t i l)
    (hdest : l.dest = k.dest) (hsound : l.Sound) (htimer : k.state.outstanding = true → l.state.outstanding = true)
    (hwaits : l.state.waiting = true → k.state.waiting = true)
    (hclear : l.state.outstanding = true → k.state.outstanding = true ∨
      ∀ j m, (s.slot j).take = some m → m.state.outstanding = true → m.dest ≠ k.dest) : PoolSound t := by
  have hown : (t.slot i).take = some l := by rw [h.slot, if_pos rfl]
  have has {p : Take → Prop} : t.Has i p ↔ p l :=
    ⟨fun ⟨m, hm, hpm⟩ => by rw [hown] at hm; cases hm; exact hpm, fun hpl => ⟨l, hown, hpl⟩⟩
  have gen (j : Slot) : (t.slot j).gen = (s.slot j).gen := by
    rw [h.slot]
    split
    · next hj => rw [hj]
    · rfl
  refine hp.oneSlot (i := i) ⟨h.domain, fun j hj => by rw [h.slot, if_neg hj],
    fun d => (h.queue d).of_not (has.trans (by rw [h.domain])), h.issued.of_not has,
    fun d => (h.retry d).of_not (has.trans (by rw [h.domain])), fun d g hg => .inr ?_, h.reports.of_not has, ?_,
    fun a ha => ?_, fun m hm => ?_, fun m hm hw j m' hj hm' hw' => ?_, fun m hm ho j m' hj hm' ho' => ?_⟩
  · rw [gen]
    obtain hg | rfl := h.retryTag d g hg
    · exact hp.retryTag d g hg
    · rfl
  · rw [State.timedSlots, h.absent]; exact hp.timed
  · rw [h.absent] at ha
    refine ⟨ha, fun e => ⟨gen i, has.2 (htimer ?_)⟩⟩
    obtain ⟨-, m, hm, ho⟩ := hp.timer a ha
    rw [e, hk] at hm
    cases hm
    exact ho
  · rw [hown] at hm; cases hm; exact hsound
  · rw [hown] at hm; cases hm
    exact fun e => hj (hp.waiting j i m' k hm' hk (e.trans hdest) hw' (hwaits hw))
  · rw [hown] at hm; cases hm
    rw [hdest]
    obtain hko | hno := hclear ho
    · exact fun e => hj (hp.outstanding j i m' k hm' hk e ho' hko)
    · exact hno j m' hm' ho'

end Restated

/-! Where a slot stands, by the state of its take. -/

section Stands

variable {s : State} {i : Slot} {k : Take} (hp : PoolSound s) (hk : (s.slot i).take = some k)
include hk

theorem has_iff_of_take {p : Take → Prop} : s.Has i p ↔ p k :=
  ⟨fun ⟨m, hm, hpm⟩ => by rw [hk] at hm; cases hm; exact hpm, fun h => ⟨k, hk, h⟩⟩

include hp

theorem mem_queue_iff (d : Dom) : i ∈ s.queue d ↔ (s.dest k.dest).domain = d ∧ k.state.waiting = true :=
  ((hp.queue d).2 i).trans (has_iff_of_take hk)

theorem mem_issued_iff : i ∈ s.pool.issued ↔ k.state.outstanding = true := (hp.issued.2 i).trans (has_iff_of_take hk)

theorem mem_retrySlots_iff (d : Dom) : i ∈ s.retrySlots d ↔ (s.dest k.dest).domain = d ∧ k.state = .retry :=
  ((hp.retry d).2 i).trans (has_iff_of_take hk)

theorem mem_reports_iff : i ∈ s.pool.reports ↔ k.state = .done := (hp.reports.2 i).trans (has_iff_of_take hk)

end Stands

/-! ## Issue (R35) -/

/-- The state in which the take of slot `i` has been issued, but for the MARK of its recorder port. -/
def State.issuedIn (s : State) (d : Dom) (i : Slot) (k : Take) : State :=
  { s with pool := { s.pool with
    slots := put s.pool.slots i { s.slot i with take := some { k with state := .issued, issuedAt := some (s.dom d).number } }
    queues := put s.pool.queues d ((s.queue d).filter (fun j => j ≠ i))
    issued := s.pool.issued ++ [i] } }

theorem issue_eq {s : State} {d : Dom} {i : Slot} {k : Take} (hk : (s.slot i).take = some k) :
    issue d s i = { s.issuedIn d i k with ports := (issue d s i).ports } := by
  unfold issue
  rw [hk]
  dsimp only
  split
  · split <;> rfl
  · rfl

/-- No take of the destination of the slot's take is outstanding. -/
def State.Clear (s : State) (i : Slot) : Prop :=
  ∀ k, (s.slot i).take = some k → ∀ j m, (s.slot j).take = some m → m.state.outstanding = true → m.dest ≠ k.dest

section Issue

variable {s : State} {d : Dom} {i : Slot}

/-- The issue of a waiting take with no outstanding take in its way keeps the law. -/
theorem PoolSound.issue (hp : PoolSound s) (hw : s.Waits d i) (hc : s.Clear i) : PoolSound (issue d s i) := by
  obtain ⟨k, hk, hdom, hwait⟩ := hw
  have not_out := outstanding_of_waiting hwait
  have issued : PoolSound (s.issuedIn d i k) := by
    refine hp.placed hk (l := { k with state := .issued, issuedAt := some (s.dom d).number })
      ⟨fun j => look_put .., fun e => rfl, fun e => ?_, ?_, fun e => ?_, fun e g hg => .inl hg, ?_, rfl⟩ rfl
      ⟨?_, fun h => (by cases h), fun _ => by simp⟩ (fun h => by rw [not_out] at h; cases h) (fun h => by cases h)
      (fun _ => .inr (hc k hk))
    · exact (relisted_put_leave (hp.queue e).1 (fun hi => ((mem_queue_iff hp hk e).1 hi).1.symm.trans hdom)).of_not
        (iff_false_intro (fun h => by cases h.2))
    · exact .join hp.issued.1 (fun hi => by rw [(mem_issued_iff hp hk).1 hi] at not_out; cases not_out) rfl
    · refine .stay (hp.retry e).1 ((mem_retrySlots_iff hp hk e).trans (iff_of_false (fun h => ?_) (fun h => by cases h.2)))
      rw [h.2] at hwait
      cases hwait
    · refine .stay hp.reports.1 ((mem_reports_iff hp hk).trans (iff_of_false (fun h => ?_) (fun h => by cases h)))
      rw [h] at hwait
      cases hwait
    · have hnone : k.outcome = none := by
        by_contra hne
        rw [(hp.take i k hk).done.2 hne] at hwait
        cases hwait
      simp [hnone]
  rw [issue_eq hk]
  exact issued.of_eq rfl rfl rfl (fun e => rfl)

theorem slot_issue (s : State) (d : Dom) {i j : Slot} (h : j ≠ i) : (issue d s i).slot j = s.slot j := by
  cases hk : (s.slot i).take with
  | none => unfold State.issue; rw [hk]
  | some k => rw [issue_eq hk]; exact look_put_other _ _ h

theorem dest_issue (s : State) (d : Dom) (i : Slot) (e : Dest) : (issue d s i).dest e = s.dest e := by
  simp [dest_def]

/-- Waiting takes of distinct slots, none with an outstanding one in its way, are issued one after another. -/
theorem PoolSound.issues {is : List Slot} (hp : PoolSound s) (hnd : is.Nodup) (hw : ∀ i ∈ is, s.Waits d i)
    (hc : ∀ i ∈ is, s.Clear i) : PoolSound (is.foldl (State.issue d) s) := by
  induction is generalizing s with
  | nil => exact hp
  | cons i is ih =>
    obtain ⟨hi, hnd⟩ := List.nodup_cons.1 hnd
    have hwi := hw i List.mem_cons_self
    have issued := hp.issue hwi (hc i List.mem_cons_self)
    have other {j : Slot} (hj : j ∈ is) : (State.issue d s i).slot j = s.slot j :=
      slot_issue s d (fun e => hi (e ▸ hj))
    refine ih issued hnd (fun j hj => ?_) (fun j hj k hk a m hm ho => ?_)
    · obtain ⟨k, hk, hdom, hwait⟩ := hw j (List.mem_cons_of_mem i hj)
      exact ⟨k, by rw [other hj, hk], by rw [dest_issue, hdom], hwait⟩
    · rw [other hj] at hk
      by_cases ha : a = i
      · obtain ⟨ki, hki, -, hwait⟩ := hwi
        obtain ⟨kj, hkj, -, hwait'⟩ := hw j (List.mem_cons_of_mem i hj)
        obtain rfl : k = kj := Option.some.inj (hk.symm.trans hkj)
        have hdest : m.dest = ki.dest := by
          rw [ha, issue_eq hki] at hm
          have : (s.issuedIn d i ki).slot i = { s.slot i with take := some { ki with
            state := .issued, issuedAt := some (s.dom d).number } } := look_put_same ..
          have hm : ((s.issuedIn d i ki).slot i).take = some m := hm
          rw [this] at hm
          cases hm
          rfl
        rw [hdest]
        exact fun e => hi (hp.waiting i j ki k hki hkj e hwait hwait' ▸ hj)
      · rw [slot_issue s d ha] at hm
        exact hc j (List.mem_cons_of_mem i hj) k hk a m hm ho

theorem slot_issues {is : List Slot} {j : Slot} (h : j ∉ is) : (is.foldl (State.issue d) s).slot j = s.slot j := by
  induction is generalizing s with
  | nil => rfl
  | cons i is ih =>
    obtain ⟨hne, hj⟩ := not_or.1 (List.mem_cons.not.1 h)
    exact (ih hj).trans (slot_issue s d hne)

end Issue

/-! ## Deadlines (R97) -/

theorem domain_setDest {s : State} {d : Dest} {r : DestRec} (h : r.domain = (s.dest d).domain) (x : Dest) :
    ((s.setDest d r).dest x).domain = (s.dest x).domain := by
  rw [dest_setDest]
  split
  · next hx => rw [h, hx]
  · rfl

theorem domain_outputEvent (s : State) (d : Dest) (e : OutputEvent) (x : Dest) :
    ((s.outputEvent d e).dest x).domain = (s.dest x).domain := by
  unfold outputEvent
  dsimp only
  split
  · rfl
  · exact domain_setDest (r := { s.dest d with output := (s.dest d).output.after e }) rfl x

/-- The retry lists with slot `i` joined to that of domain `d`. -/
theorem retrySlots_push (s : State) (d e : Dom) (i : Slot) :
    State.retrySlots { s with bus := { s.bus with retry := put s.bus.retry d (look s.bus.retry d ++ [s.tagOf i]) } } e =
      if e = d then s.retrySlots d ++ [i] else s.retrySlots e := by
  unfold State.retrySlots
  dsimp only
  rw [look_put]
  split
  · rw [List.map_append]; rfl
  · rfl

section Deadlines

variable {s : State} {d : Dom} {i : Slot}

theorem active_of_waitingOf {e : Dest} (h : s.waitingOf e = some i) :
    ∃ k, (s.slot i).take = some k ∧ k.state.active = true := by
  obtain ⟨k, hk, -, hw⟩ := take_of_waitingOf h
  exact ⟨k, hk, active_of_waiting hw⟩

theorem PoolSound.faultDest {k : Take} (hp : PoolSound s) (hk : (s.slot i).take = some k) (ha : k.state.active = true)
    (e : Dest) : PoolSound (s.faultDest i e) := by
  have ended := hp.endTake hk ha .faulted
  have faulted (t : State) (ht : PoolSound t) (g : Tag) : PoolSound ((t.outputEvent e .secondMiss).flagDestFault e g) := by
    exact ht.of_eq (by simp) (by simp) (by simp) (fun x => domain_outputEvent t e .secondMiss x)
  unfold State.faultDest
  dsimp only
  split
  · next j hj =>
    obtain ⟨l, hl, hla⟩ := active_of_waitingOf hj
    exact faulted _ (ended.endTake hl hla .faulted) _
  · exact faulted _ ended _

/-- A take at its deadline becomes RETRY, or ends with its destination FAULTED. -/
theorem PoolSound.judgeDeadline (hp : PoolSound s) (d : Dom) (i : Slot) : PoolSound (judgeDeadline d s i) := by
  unfold State.judgeDeadline
  dsimp only
  split
  · exact hp
  · next k hk =>
    split
    · next hdue =>
      obtain ⟨hissued, hdom, -⟩ := hdue
      split
      · exact hp.faultDest hk (by rw [hissued]; rfl) k.dest
      · have sound := hp.take i k hk
        refine hp.placed hk (l := { k with state := .retry })
          ⟨fun j => slot_setTake .., fun e => rfl, fun e => ?_, ?_, fun e => ?_, fun e g hg => ?_, ?_, rfl⟩ rfl
          ⟨?_, fun h => (by cases h), fun _ => sound.issued (by rw [hissued]; rfl)⟩ (fun _ => rfl) (fun h => by cases h)
          (fun _ => .inl (by rw [hissued]; rfl))
        · refine .stay (hp.queue e).1 ((mem_queue_iff hp hk e).trans ?_)
          rw [hissued]
          exact Iff.rfl
        · refine .stay hp.issued.1 ((mem_issued_iff hp hk).trans ?_)
          rw [hissued]
          exact Iff.rfl
        · have hretry : retrySlots _ e = _ := retrySlots_push (s := s.setTake i { k with state := .retry }) d e i
          rw [hretry]
          split
          · next he =>
            rw [he]
            refine .join (hp.retry d).1 (fun hi => ?_) ⟨hdom, rfl⟩
            have hr := ((mem_retrySlots_iff hp hk d).1 hi).2
            rw [hissued] at hr
            cases hr
          · next he =>
            refine .stay (hp.retry e).1 ((mem_retrySlots_iff hp hk e).trans (iff_of_false (fun h => ?_) (fun h => ?_)))
            · exact he (h.1.symm.trans hdom)
            · exact he (h.1.symm.trans hdom)
        · have hg : g ∈ look (put s.bus.retry d (look s.bus.retry d ++ [⟨i, _⟩])) e := hg
          rw [look_put] at hg
          split at hg
          · next he =>
            obtain hg | hg := List.mem_append.1 hg
            · exact .inl (he ▸ hg)
            · refine .inr ((List.mem_singleton.1 hg).trans ?_)
              simp [tagOf, slot_setTake]
          · exact .inl hg
        · refine .stay hp.reports.1 ((mem_reports_iff hp hk).trans (iff_of_false ?_ (fun h => by cases h)))
          rw [hissued]
          exact fun h => by cases h
        · have hnone : k.outcome = none := by
            by_contra hne
            rw [sound.done.2 hne] at hissued
            cases hissued
          simp [hnone]
    · exact hp

end Deadlines

end Sys2Proof.Machine
end

section
/-! PROOF. The re-issues and the selection walk of a window keep the law of the Take Pool (R31 to R36, R99). -/

namespace Sys2Proof.Machine

open State

/-! ## Re-issues (R99) -/

/-- A re-issue does not look at the bus. -/
theorem reissue_bus (n : U32) (s : State) (b : Bus) (g : Tag) :
    reissue n { s with bus := b } g = { reissue n s g with bus := b } := by
  have hslot : State.slot { s with bus := b } g.slot = s.slot g.slot := rfl
  unfold reissue
  rw [hslot]
  split <;> rfl

theorem foldl_reissue_bus (n : U32) (l : List Tag) (s : State) (b : Bus) :
    l.foldl (reissue n) { s with bus := b } = { l.foldl (reissue n) s with bus := b } := by
  induction l generalizing s with
  | nil => rfl
  | cons g l ih => rw [List.foldl_cons, reissue_bus, ih, List.foldl_cons]

theorem foldl_reissue_bus_eq (n : U32) (l : List Tag) (s : State) : (l.foldl (reissue n) s).bus = s.bus :=
  foldl_keep State.bus _ (fun t g => by simp) l s

/-- The state with a domain's retry list replaced. -/
def State.setRetry (s : State) (d : Dom) (l : List Tag) : State :=
  { s with bus := { s.bus with retry := put s.bus.retry d l } }

theorem retrySlots_setRetry (s : State) (d e : Dom) (l : List Tag) :
    (s.setRetry d l).retrySlots e = if e = d then l.map Tag.slot else s.retrySlots e := by
  unfold State.retrySlots State.setRetry
  dsimp only
  rw [look_put]
  split <;> rfl

section Reissue

variable {s : State} {d : Dom}

theorem reissue_eq {n : U32} {g : Tag} {k : Take} (hk : (s.slot g.slot).take = some k) :
    reissue n s g = s.setTake g.slot { k with state := .issued, reissued := true, issuedAt := some n } := by
  unfold reissue
  rw [hk]

/-- The head of a retry list is re-issued and leaves the list. -/
theorem PoolSound.reissueHead {g : Tag} {rest : List Tag} (hp : PoolSound s) (hl : look s.bus.retry d = g :: rest) (n : U32) :
    PoolSound ((reissue n s g).setRetry d rest) := by
  have hslots : s.retrySlots d = g.slot :: rest.map Tag.slot := by unfold State.retrySlots; rw [hl]; rfl
  obtain ⟨hni, hnd⟩ := List.nodup_cons.1 (hslots ▸ (hp.retry d).1)
  obtain ⟨k, hk, hdom, hstate⟩ := ((hp.retry d).2 g.slot).1 (by rw [hslots]; exact List.mem_cons_self)
  have sound := hp.take _ k hk
  rw [reissue_eq hk]
  refine hp.placed hk (l := { k with state := .issued, reissued := true, issuedAt := some n })
    ⟨fun j => slot_setTake .., fun e => rfl, fun e => ?_, ?_, fun e => ?_, fun e x hx => .inl ?_, ?_, rfl⟩ rfl
    ⟨?_, fun h => (by cases h), fun _ => by simp⟩ (fun _ => rfl) (fun h => by cases h)
    (fun _ => .inl (by rw [hstate]; rfl))
  · refine .stay (hp.queue e).1 ((mem_queue_iff hp hk e).trans ?_)
    rw [hstate]
    exact Iff.rfl
  · refine .stay hp.issued.1 ((mem_issued_iff hp hk).trans ?_)
    rw [hstate]
    exact Iff.rfl
  · rw [retrySlots_setRetry]
    have hsame : (s.setTake g.slot { k with state := .issued, reissued := true, issuedAt := some n }).retrySlots e =
        s.retrySlots e := rfl
    rw [hsame]
    split
    · next he =>
      rw [he, hslots]
      exact ⟨hnd, fun j hj => by simp [hj], iff_of_false hni (fun h => by cases h.2)⟩
    · next he =>
      refine .stay (hp.retry e).1 ((mem_retrySlots_iff hp hk e).trans (iff_of_false (fun h => ?_) (fun h => ?_)))
      · exact he (h.1.symm.trans hdom)
      · exact he (h.1.symm.trans hdom)
  · have hx : x ∈ look (put s.bus.retry d rest) e := hx
    rw [look_put] at hx
    split at hx
    · next he => rw [he, hl]; exact List.mem_cons_of_mem g hx
    · exact hx
  · refine .stay hp.reports.1 ((mem_reports_iff hp hk).trans (iff_of_false ?_ (fun h => by cases h)))
    rw [hstate]
    exact fun h => by cases h
  · have hnone : k.outcome = none := by
      by_contra hne
      rw [sound.done.2 hne] at hstate
      cases hstate
    simp [hnone]

theorem setRetry_look (s : State) (d : Dom) : s.setRetry d (look s.bus.retry d) = s := by
  unfold State.setRetry
  rw [put_look]

theorem setRetry_setRetry (s : State) (d : Dom) (l l' : List Tag) : (s.setRetry d l).setRetry d l' = s.setRetry d l' := by
  unfold State.setRetry
  simp only [put_put]

/-- Re-issues from the head of a retry list keep the law. -/
theorem PoolSound.reissues (m : Nat) (hp : PoolSound s) (n : U32) :
    PoolSound ((((look s.bus.retry d).take m).foldl (reissue n) s).setRetry d ((look s.bus.retry d).drop m)) := by
  induction m generalizing s with
  | zero => rw [List.take_zero, List.foldl_nil, List.drop_zero, setRetry_look]; exact hp
  | succ m ih =>
    cases hl : look s.bus.retry d with
    | nil =>
      rw [List.take_nil, List.foldl_nil, List.drop_nil, ← hl, setRetry_look]
      exact hp
    | cons g rest =>
      have step := ih (hp.reissueHead hl n)
      have hhead : look ((reissue n s g).setRetry d rest).bus.retry d = rest := look_put_same ..
      rw [hhead] at step
      have commute : (rest.take m).foldl (reissue n) ((reissue n s g).setRetry d rest) =
          ((rest.take m).foldl (reissue n) (reissue n s g)).setRetry d rest := by
        unfold State.setRetry
        rw [foldl_reissue_bus, foldl_reissue_bus_eq]
      rw [commute, setRetry_setRetry] at step
      exact step

theorem PoolSound.grantRetries {g : Grant} (hp : PoolSound g.state) (d : Dom) : PoolSound (grantRetries g d).state :=
  hp.reissues g.budget _

end Reissue

/-! ## The hold test applied again (R30) -/

theorem alike_waiting {k : Take} {x : TakeState} (hk : k.state.waiting = true) (hx : x.waiting = true) :
    k.Alike { k with state := x } :=
  ⟨rfl, hx.trans hk.symm, fun h => (by rw [hx] at h; cases h), rfl, rfl, rfl⟩

section Retest

variable {s : State} {i : Slot} {k : Take}

/-- A waiting take stays lawful in either waiting state. -/
theorem PoolSound.setWaiting {x : TakeState} (hp : PoolSound s) (hk : (s.slot i).take = some k)
    (hw : k.state.waiting = true) (hx : x.waiting = true) : PoolSound (s.setTake i { k with state := x }) := by
  refine PoolSound.same (s := s) ⟨fun j => ?_, fun j l _ _ => rfl⟩ hp rfl rfl rfl rfl rfl
  rw [slot_setTake]
  split
  · next hj => rw [hj]; exact .of_some rfl hk rfl (alike_waiting hw hx)
  · exact .refl _

theorem PoolSound.retestSlot (hp : PoolSound s) (i : Slot) : PoolSound (s.retestSlot i) := by
  unfold State.retestSlot
  split
  · next k hk =>
    split
    · next hw => exact hp.setWaiting hk hw (waiting_of_test _)
    · exact hp
  · exact hp

theorem PoolSound.retestHold (hp : PoolSound s) (d : Dest) : PoolSound (s.retestHold d) := by
  unfold State.retestHold
  split
  · exact hp
  · next i hi =>
    obtain ⟨k, hk, -, hw⟩ := take_of_waitingOf hi
    rw [hk]
    exact hp.setWaiting hk hw (waiting_of_test _)

theorem setSlot_slot (s : State) (i : Slot) : s.setSlot i (s.slot i) = s := by
  unfold setSlot slot
  rw [put_look]

theorem retestSlot_eq (s : State) (i : Slot) : s.retestSlot i = s.setSlot i ((s.slot i).retest s.holdTest) := by
  have stays (h : (s.slot i).retest s.holdTest = s.slot i) : s = s.setSlot i ((s.slot i).retest s.holdTest) := by
    rw [h, setSlot_slot]
  unfold State.retestSlot
  split
  · next k hk =>
    split
    · next hw => simp only [setTake, SlotRec.retest, Take.retest, hk, Option.map_some, hw, if_true]
    · next hw => exact stays (by simp only [SlotRec.retest, Take.retest, hk, Option.map_some, hw]; rw [if_neg Bool.false_ne_true, ← hk])
  · next hk => exact stays (by simp only [SlotRec.retest, hk, Option.map_none]; rw [← hk])

theorem slot_retestSlot (s : State) (i j : Slot) :
    (s.retestSlot i).slot j = if j = i then (s.slot i).retest s.holdTest else s.slot j := by
  rw [retestSlot_eq, slot_setSlot]

theorem waits_retestSlot {d : Dom} (j : Slot) : (s.retestSlot i).Waits d j ↔ s.Waits d j := by
  unfold State.Waits State.Has
  have hdest (e : Dest) : (s.retestSlot i).dest e = s.dest e := by simp [dest_def]
  rw [slot_retestSlot]
  simp only [hdest]
  split
  · next hj =>
    rw [hj]
    unfold SlotRec.retest
    cases (s.slot i).take with
    | none => simp
    | some k => simp
  · exact Iff.rfl

theorem waits_retestAll {d : Dom} (l : List Slot) (s : State) (j : Slot) :
    (l.foldl State.retestSlot s).Waits d j ↔ s.Waits d j := by
  induction l generalizing s with
  | nil => exact Iff.rfl
  | cons i l ih => exact (ih _).trans (waits_retestSlot j)

theorem PoolSound.retestAll (hp : PoolSound s) (l : List Slot) : PoolSound (l.foldl State.retestSlot s) :=
  foldl_keeps (P := PoolSound) (fun _ i h => PoolSound.retestSlot h i) l s hp

end Retest

end Sys2Proof.Machine
end

section
/-! PROOF. The selection walk and the whole window keep the law of the Take Pool (R31 to R36, R96). -/

namespace Sys2Proof.Machine

open State

/-! ## The walk -/

theorem waits_other {s t : State} {d : Dom} {j : Slot} (hslot : t.slot j = s.slot j) (hdests : t.dests = s.dests) :
    t.Waits d j ↔ s.Waits d j :=
  has_other hslot (fun k => by rw [dest_def, hdests, ← dest_def])

theorem active_of_waits {s : State} {d : Dom} {i : Slot} (h : s.Waits d i) : s.Has i (fun k => k.state.active = true) := by
  obtain ⟨k, hk, -, hw⟩ := h
  exact ⟨k, hk, active_of_waiting hw⟩

/-- A take that is not passed over has no outstanding take in its way (R32). -/
theorem clear_of_not_passedOver {s : State} {i : Slot} (h : s.passedOver i = false) : s.Clear i := by
  intro k hk j m hm ho hd
  have found : (s.outstandingOf k.dest).isSome = true := by
    rw [outstandingOf, findTake_isSome]
    exact ⟨j, by rw [SlotRec.holds_iff]; exact ⟨m, hm, by simp [hd, ho]⟩⟩
  unfold passedOver at h
  rw [SlotRec.holds, hk] at h
  simp [found] at h

theorem clear_of_none_passedOver {s : State} {l : List Slot} (h : ¬ l.any s.passedOver = true) {i : Slot} (hi : i ∈ l) :
    s.Clear i :=
  clear_of_not_passedOver (by
    rw [List.any_eq_true, not_exists] at h
    exact Bool.eq_false_iff.2 (fun hp => h i ⟨hi, hp⟩))

section Walk

variable {g : Grant} {d : Dom}

/-- An entry treated by itself keeps the law, and the other waiting takes wait on (R33). -/
theorem PoolSound.walkSingle {i : Slot} (hp : PoolSound g.state) (hw : g.state.Waits d i) :
    PoolSound (walkSingle d g i).state ∧ ∀ j, j ≠ i → ((walkSingle d g i).state.Waits d j ↔ g.state.Waits d j) := by
  have tested := hp.retestSlot i
  have waits := (waits_retestSlot (s := g.state) (i := i) (d := d) i).2 hw
  have others (j : Slot) : (g.state.retestSlot i).Waits d j ↔ g.state.Waits d j := waits_retestSlot j
  unfold State.walkSingle
  dsimp only
  split
  · exact ⟨tested, fun j _ => others j⟩
  · next hpass =>
    split
    · obtain ⟨k, hk, ha⟩ := active_of_waits waits
      exact ⟨tested.endTake hk ha .condFailed,
        fun j hj => (waits_other (slot_endTake _ _ hj) (by simp)).trans (others j)⟩
    · exact ⟨tested.issue waits (clear_of_not_passedOver (Bool.eq_false_iff.2 hpass)),
        fun j hj => (waits_other (slot_issue _ d hj) (by simp)).trans (others j)⟩

/-- A run keeps the law, and the waiting takes outside it wait on (R34). -/
theorem PoolSound.walkRun {run : List Slot} (hp : PoolSound g.state) (hnd : run.Nodup) (hw : ∀ i ∈ run, g.state.Waits d i) :
    PoolSound (walkRun d g run).1.state ∧
      ∀ j, j ∉ run → ((walkRun d g run).1.state.Waits d j ↔ g.state.Waits d j) := by
  have tested := hp.retestAll run
  have waits (i : Slot) (hi : i ∈ run) := (waits_retestAll (d := d) run g.state i).2 (hw i hi)
  have others (j : Slot) : (run.foldl State.retestSlot g.state).Waits d j ↔ g.state.Waits d j := waits_retestAll run _ j
  have dests (l : List Slot) (s : State) : (l.foldl (State.issue d) s).dests = s.dests :=
    foldl_keep State.dests _ (fun t i => by simp) l s
  unfold State.walkRun
  dsimp only
  split
  · exact ⟨tested, fun j _ => others j⟩
  · next hpass =>
    have clear (i : Slot) (hi : i ∈ run) := clear_of_none_passedOver hpass hi
    split
    · exact ⟨tested.endAll hnd (fun i hi => active_of_waits (waits i hi)) .condFailed,
        fun j hj => (waits_other (slot_endAll _ hj) (by simp)).trans (others j)⟩
    · split
      · exact ⟨tested.issues hnd waits clear, fun j hj => (waits_other (slot_issues hj) (dests _ _)).trans (others j)⟩
      · split
        · refine ⟨tested.issues (hnd.sublist (List.take_sublist _ _)) (fun i hi => waits i (List.mem_of_mem_take hi))
            (fun i hi => clear i (List.mem_of_mem_take hi)), fun j hj => ?_⟩
          exact (waits_other (slot_issues (fun hj' => hj (List.mem_of_mem_take hj'))) (dests _ _)).trans (others j)
        · exact ⟨tested, fun j _ => others j⟩

/-- A run is the head of the entries and those that follow it in its group. -/
theorem runOf_eq_some {s : State} {i : Slot} {rest run : List Slot} (h : s.runOf i rest = some run) :
    ∃ p, run = i :: rest.takeWhile p := by
  unfold runOf at h
  split at h
  · cases h
  · split at h
    · cases h
    · cases h; exact ⟨_, rfl⟩

/-- The walk over waiting entries keeps the law (R33, R34). -/
theorem PoolSound.walk (fuel : Nat) {q : List Slot} (hp : PoolSound g.state) (hnd : q.Nodup)
    (hw : ∀ i ∈ q, g.state.Waits d i) : PoolSound (walk d fuel g q).state := by
  induction fuel generalizing g q with
  | zero => exact hp
  | succ fuel ih =>
    cases q with
    | nil => exact hp
    | cons i rest =>
      obtain ⟨hi, hrest⟩ := List.nodup_cons.1 hnd
      unfold State.walk
      split
      · exact hp
      · split
        · obtain ⟨walked, others⟩ := hp.walkSingle (hw i List.mem_cons_self)
          refine ih walked hrest (fun j hj => (others j (fun e => hi (e ▸ hj))).2 (hw j (List.mem_cons_of_mem i hj)))
        · next run hrun =>
          obtain ⟨p, rfl⟩ := runOf_eq_some hrun
          have split := List.prefix_iff_eq_append.1 (List.takeWhile_prefix (l := rest) p)
          have hsub : ∀ j ∈ i :: rest.takeWhile p, j ∈ i :: rest :=
            fun j hj => ((List.takeWhile_sublist p).cons_cons i).subset hj
          obtain ⟨ran, others⟩ := hp.walkRun (hnd.sublist ((List.takeWhile_sublist p).cons_cons i)) (fun j hj => hw j (hsub j hj))
          have after : PoolSound (State.walkRun d g (i :: rest.takeWhile p)).1.state →
              ∀ j ∈ rest.drop (rest.takeWhile p).length,
                (State.walkRun d g (i :: rest.takeWhile p)).1.state.Waits d j := by
            intro _ j hj
            have hjr := List.mem_of_mem_drop hj
            refine (others j (fun hmem => ?_)).2 (hw j (List.mem_cons_of_mem i hjr))
            obtain rfl | hmem := List.mem_cons.1 hmem
            · exact hi hjr
            · rw [← split] at hrest
              exact (List.nodup_append.1 hrest).2.2 j hmem j hj rfl
          split
          · next he =>
            rw [he] at ran after
            rw [List.length_cons, Nat.add_sub_cancel]
            exact ih ran (hrest.sublist (List.drop_sublist _ _)) (after ran)
          · next he => rw [he] at ran; exact ran

theorem PoolSound.selectTakes (hp : PoolSound g.state) (before : List Tag) : PoolSound (selectTakes g d before).state := by
  refine hp.walk _ ((hp.queue d).1.filter _) (fun i hi => ?_)
  exact ((hp.queue d).2 i).1 (List.mem_filter.1 hi).1

end Walk

/-! ## The window -/

theorem PoolSound.dropTimers {s : State} (hp : PoolSound s) (d : Dom) : PoolSound (s.dropTimers d) :=
  PoolSound.alike (s := s) ⟨fun _ => .refl _, fun _ _ _ _ => rfl⟩ hp rfl rfl rfl rfl
    (hp.timed.sublist (List.filter_sublist.map _)) (fun a ha => hp.timer a (List.mem_filter.1 ha).1)

theorem PoolSound.judged {s : State} (hp : PoolSound s) (d : Dom) : PoolSound (s.judged d) :=
  foldl_keeps (P := PoolSound) (fun _ i h => PoolSound.judgeDeadline h d i) _ _ (hp.dropTimers d)

theorem PoolSound.moveCursor {s : State} (hp : PoolSound s) (d : Dom) (l : List Dest) : PoolSound (s.moveCursor d l) := by
  unfold State.moveCursor
  split
  · exact hp.of_eq rfl rfl rfl (fun d => rfl)
  · exact hp

theorem PoolSound.forcedScrub {s : State} (hp : PoolSound s) (d : Dom) : PoolSound (s.forcedScrub d).state := by
  have moved := hp.moveCursor d (s.forcedDests d)
  unfold State.forcedScrub
  dsimp only
  split
  · exact moved.of_eq rfl rfl rfl (fun d => rfl)
  · exact moved

theorem PoolSound.ordinaryScrub {g : Grant} (hp : PoolSound g.state) (d : Dom) (forced : List Dest) :
    PoolSound (ordinaryScrub g d forced).state := by
  have moved (l : List Dest) (n : Nat) : PoolSound ((g.state.moveCursor d l).setDebt d n) :=
    (hp.moveCursor d l).of_eq rfl rfl rfl (fun d => rfl)
  exact moved _ _

theorem PoolSound.issueWindow {s : State} (hp : PoolSound s) (d : Dom) (before : List Tag) :
    PoolSound (s.issueWindow d before) := by
  have granted : PoolSound (s.selected d before).state := ((hp.judged d).forcedScrub d).grantRetries d |>.selectTakes before
  have scrubbed : PoolSound (s.windowGrant d before).state :=
    granted.ordinaryScrub d _
  rw [issueWindow_eq]
  generalize s.windowGrant d before = g at scrubbed ⊢
  split
  · exact scrubbed
  · exact scrubbed.of_eq rfl rfl rfl (fun d => rfl)

end Sys2Proof.Machine
end

section
/-! PROOF. Stops, closings, fires and deliveries keep the law of the Take Pool (R39, R66, R81, R90, R105). -/

namespace Sys2Proof.Machine

open State

/-! ## Stops (R81, R105) -/

theorem stopAge_alike (r : SlotRec) (now : Time) (p : Take → Bool) : r.Alike (r.stopAge now p) := by
  unfold SlotRec.stopAge
  split
  · next k hk =>
    split
    · exact .of_some rfl hk rfl ⟨rfl, rfl, fun _ => rfl, rfl, rfl, rfl⟩
    · exact .refl r
  · exact .refl r

theorem mem_untimed {s : State} {d : Dom} {i : Slot} : i ∈ s.untimed d ↔
    s.Has i (fun k => k.state.outstanding = true ∧ (s.dest k.dest).domain = d) ∧ i ∉ s.timedSlots := by
  have listed : s.untimed d = (List.finRange 128).filter (fun i =>
      (s.slot i).holds (fun t => t.state.outstanding && decide (s.takeDomain t = d)) &&
        !(s.bus.absent.any (fun a => decide (a.1.slot = i)))) := by
    unfold untimed
    rw [filter_entries]
    rfl
  rw [listed, List.mem_filter, Bool.and_eq_true, SlotRec.holds_iff]
  refine (and_iff_right (List.mem_finRange i)).trans (and_congr ?_ ?_)
  · refine exists_congr (fun k => and_congr_right (fun _ => ?_))
    rw [Bool.and_eq_true, decide_eq_true_eq]
    rfl
  · simp [State.timedSlots]

theorem untimed_nodup (s : State) (d : Dom) : (s.untimed d).Nodup := by
  unfold untimed
  rw [filter_entries]
  exact (List.nodup_finRange _).filter _

/-- A stop starts the ABSENT timer of each outstanding take of the domain that has none. -/
theorem PoolSound.domainStop {s : State} (hp : PoolSound s) (d : Dom) : PoolSound (s.domainStop d) := by
  have hslot (i : Slot) : (s.domainStop d).slot i =
      (s.slot i).stopAge s.now (fun t => decide (s.takeDomain t = d)) := look_mapTable ..
  have timers : (s.domainStop d).timedSlots = s.timedSlots ++ s.untimed d := by
    unfold State.timedSlots
    have : (s.domainStop d).bus.absent = s.bus.absent ++ (s.untimed d).map (fun i => (s.tagOf i, s.now)) := rfl
    rw [this, List.map_append, List.map_map]
    congr 1
    exact List.map_id _
  refine PoolSound.alike (s := s) ⟨fun i => by rw [hslot]; exact stopAge_alike _ _ _, fun _ _ _ _ => rfl⟩ hp rfl rfl rfl rfl
    ?_ (fun a ha => ?_)
  · rw [timers]
    exact List.nodup_append.2 ⟨hp.timed, untimed_nodup s d, fun i hi j hj e => (mem_untimed.1 hj).2 (e ▸ hi)⟩
  · obtain ha | ha := List.mem_append.1 ha
    · exact hp.timer a ha
    · obtain ⟨i, hi, rfl⟩ := List.mem_map.1 ha
      obtain ⟨⟨k, hk, ho, -⟩, -⟩ := mem_untimed.1 hi
      exact ⟨rfl, k, hk, ho⟩

/-- What leaves the pool, the bus and the destinations keeps the law. -/
theorem PoolSound.of_frame {s t : State} (hp : PoolSound s) (hpool : t.pool = s.pool) (hbus : t.bus = s.bus)
    (hdests : t.dests = s.dests) : PoolSound t :=
  hp.of_eq hpool (by rw [hbus]) (by rw [hbus]) (fun d => by rw [dest_def, hdests, ← dest_def])

theorem PoolSound.setLock {s : State} (hp : PoolSound s) (d : Dom) (l : LockState) : PoolSound (s.setLock d l) := by
  unfold State.setLock
  dsimp only
  split
  · refine PoolSound.domainStop (hp.of_frame ?_ ?_ ?_) d <;> simp
  · refine hp.of_frame ?_ ?_ ?_ <;> simp

/-! ## Closings (R39, R90) -/

theorem PoolSound.flushDomain {s : State} (hp : PoolSound s) (d : Dom) : PoolSound (s.flushDomain d) :=
  hp.endAll (hp.queue d).1 (fun i hi => active_of_waits (((hp.queue d).2 i).1 hi)) .flushed

theorem PoolSound.closeIfEmpty {s : State} (hp : PoolSound s) (d : Dom) : PoolSound (s.closeIfEmpty d) := by
  unfold State.closeIfEmpty
  dsimp only
  split
  · exact hp
  · exact (hp.setLock d .closed).of_frame (by simp) (by simp) (by simp)

theorem PoolSound.serveClosing {s : State} (hp : PoolSound s) (d : Dom) : PoolSound (s.serveClosing d) := by
  unfold State.serveClosing
  split
  · split
    · exact (hp.flushDomain d).closeIfEmpty d
    · exact hp.closeIfEmpty d
  · exact hp

theorem PoolSound.settle {s : State} (hp : PoolSound s) : PoolSound s.settle := by
  have served : PoolSound s.serveClosings := (((hp.serveClosing 0).serveClosing 1).serveClosing 2).serveClosing 3
  exact served.of_frame (by simp [State.settle]) (by simp [State.settle]) (by simp [State.settle])

/-! ## Fires (R66) -/

theorem PoolSound.admitMember {s : State} (hp : PoolSound s) (f : Firing) (g : Group) (j : Judged) :
    PoolSound (admitMember f g s j) := by
  unfold State.admitMember
  split
  · next h => exact hp.admitTake h
  · exact hp

theorem PoolSound.fireEntries {s : State} (hp : PoolSound s) (f : Firing) (content : List (Dest × Src)) :
    PoolSound (s.fireEntries f content).2 := by
  obtain ⟨code, d, e⟩ | ⟨-, e⟩ := fireEntries_cases s f content <;> rw [e]
  · exact hp
  · obtain ⟨code, d, e⟩ | ⟨b, -, e⟩ := admitGroup_cases s f (s.passing f content) (firstFailure (content.map (s.judge f))) <;>
      rw [e]
    · exact hp
    · exact foldl_keeps (P := PoolSound) (fun _ j h => PoolSound.admitMember h f _ j) _ _ (hp.of_eq rfl rfl rfl (fun d => rfl))

theorem PoolSound.fireSalvo {s : State} (hp : PoolSound s) (n : Salvo) (f : Firing) : PoolSound (s.fireSalvo n f).2 := by
  have fired := hp.fireEntries f (look s.store.salvos n)
  obtain ⟨code, d, e⟩ | ⟨serial, a, b, first, t, he, e⟩ := fireSalvo_cases s n f <;> rw [e]
  · exact hp
  · rw [he] at fired
    exact fired.of_frame (by simp) (by simp) (by simp)

/-! ## Deliveries -/

theorem PoolSound.arrive {s : State} (hp : PoolSound s) (a : Arrival) : PoolSound (s.arrive a).1 := by
  cases a with
  | window d before => rw [arrive_window]; exact hp.issueWindow d before
  | action k branch a =>
    have carried : PoolSound (s.carryOut k a).2 := by
      cases a with
      | fireSalvo n => exact hp.fireSalvo n _
      | recorder p c => exact hp.of_frame (by simp [carryOut]) (by simp [carryOut]) (by simp [carryOut])
      | none => exact hp
      | attention => exact hp
    show PoolSound (s.runAction k branch a)
    unfold runAction
    dsimp only
    split <;> exact carried.of_frame (by simp) (by simp) (by simp)
  | _ => exact hp.of_frame (by simp [State.arrive]) (by simp [State.arrive]) (by simp [State.arrive])

theorem poolSound_kept : KeptByDelivery PoolSound where
  setDom _ _ _ h := h.of_frame (by simp) (by simp) (by simp)
  setLock _ d l h := h.setLock d l
  flagDomain _ _ _ _ h := h.of_frame (by simp) (by simp) (by simp)
  setGpi _ _ _ h := h.of_frame (by simp) (by simp) (by simp)
  choose _ _ h := h.of_frame (by simp) (by simp) (by simp)
  event _ a h := (h.arrive a).settle

end Sys2Proof.Machine
end

section
/-! PROOF. Every command keeps the law of the Take Pool (R20 to R44, R180). -/

namespace Sys2Proof.Machine

open State

/-! ## The domain of a destination -/

theorem domain_applyReport (s : State) (d : Dest) (x : Src) (o : ChangeOrigin) (e : Dest) :
    ((s.applyReport d x o).dest e).domain = (s.dest e).domain := by
  by_cases hx : (s.dest d).source = some x
  · by_cases ho : (s.dest d).output.after .report = (s.dest d).output
    · rw [applyReport_unchanged o hx ho]
    · rw [applyReport_output o hx ho]
      exact domain_setDest (s := s) (d := d) (r := { s.dest d with
        output := (s.dest d).output.after .report, origin := o, stamp := s.now }) rfl e
  · rw [applyReport_source_eq o hx]
    exact domain_setDest (s := s) (d := d) (r := { s.dest d with
      source := some x, output := (s.dest d).output.after .report, origin := o, stamp := s.now }) rfl e

theorem domain_applyNoAnswer (s : State) (d e : Dest) : ((s.applyNoAnswer d).dest e).domain = (s.dest e).domain := by
  unfold State.applyNoAnswer
  dsimp only
  split
  · rfl
  · exact domain_setDest (s := s) (d := d) (r := { s.dest d with
      output := (s.dest d).output.after .noAnswer, origin := .learned, stamp := s.now }) rfl e

theorem PoolSound.applyReport {s : State} (hp : PoolSound s) (d : Dest) (x : Src) (o : ChangeOrigin) :
    PoolSound (s.applyReport d x o) :=
  hp.of_eq (by simp) (by simp) (by simp) (domain_applyReport s d x o)

theorem PoolSound.applyNoAnswer {s : State} (hp : PoolSound s) (d : Dest) : PoolSound (s.applyNoAnswer d) :=
  hp.of_eq (by simp) (by simp) (by simp) (domain_applyNoAnswer s d)

theorem PoolSound.outputEvent {s : State} (hp : PoolSound s) (d : Dest) (e : OutputEvent) : PoolSound (s.outputEvent d e) :=
  hp.of_eq (by simp) (by simp) (by simp) (domain_outputEvent s d e)

theorem PoolSound.countCompletion {s : State} (hp : PoolSound s) (d : Dest) : PoolSound (s.countCompletion d) :=
  hp.of_eq (by simp) (by simp) (by simp) (domain_setDest rfl)

/-! ## Confirms and answers -/

theorem matchedTake_active {s : State} {d : Dest} {x : Src} {i : Slot} (h : s.matchedTake d x = some i) :
    ∃ k, (s.slot i).take = some k ∧ k.state.active = true := by
  unfold matchedTake at h
  split at h
  · next j hj =>
    split at h
    · cases h
      obtain ⟨⟨k, hk, -, hmem⟩, -⟩ := (outstandingOf_eq_some s d i).1 hj
      refine ⟨k, hk, active_of_outstanding ((TakeState.outstanding_iff _).2 ?_)⟩
      simpa using hmem
    · cases h
  · cases h

theorem PoolSound.confirmOwn {s : State} (hp : PoolSound s) (d : Dest) (x : Src) : PoolSound (s.confirmOwn d x) := by
  obtain e | ⟨i, hi, e⟩ := confirmOwn_cases s d x <;> rw [e]
  · exact (hp.applyReport d x .own).settle
  · obtain ⟨k, hk, ha⟩ := matchedTake_active hi
    exact (((hp.endTake hk ha .completed).applyReport d x .own).countCompletion d).settle

theorem PoolSound.admitOwn {s t : State} {d : Dest} {x : Src} {o : TakeOrigin} {p : Panel} {a : Admitted} (hp : PoolSound s)
    (h : s.admitOwn d x o p = .ok (a, t)) : PoolSound t := by
  obtain ⟨q, h⟩ := admitOwn_cases h
  exact hp.admitTake h

theorem PoolSound.breach {s : State} (hp : PoolSound s) (d : Dest) (x : Src) (before : Option Src) :
    PoolSound (s.breach d x before) := by
  have restored (lock : Protect) : PoolSound (s.restore d lock x before).2 := by
    unfold restore
    split
    · exact hp
    · split
      · exact hp
      · split
        · exact hp
        · split
          · exact hp
          · split
            · exact hp
            · next h => exact hp.admitOwn h
  unfold State.breach
  split
  · exact hp
  · split
    · exact hp
    · exact PoolSound.of_frame (restored _) rfl rfl rfl

theorem PoolSound.confirmForeign {s : State} (hp : PoolSound s) (d : Dest) (x : Src) : PoolSound (s.confirmForeign d x) :=
  ((hp.applyReport d x .foreign).breach d x _).settle

theorem PoolSound.endReadback {s : State} (hp : PoolSound s) (r : Readback) : PoolSound (s.endReadback r) := by
  have hbus : (s.endReadback r).bus.retry = s.bus.retry ∧ (s.endReadback r).bus.absent = s.bus.absent := by
    unfold State.endReadback
    dsimp only
    split
    · rw [walkOn_bus]; split <;> exact ⟨rfl, rfl⟩
    · exact ⟨rfl, rfl⟩
  exact hp.of_eq (by simp) hbus.1 hbus.2 (fun d => by simp [dest_def])

theorem PoolSound.answerSource {s : State} (hp : PoolSound s) (r : Readback) (x : Src) : PoolSound (s.answerSource r x) := by
  have learned := hp.applyReport r.dest x .learned
  unfold State.answerSource
  dsimp only
  split
  · exact learned.endReadback r
  · next y _ =>
    have repaired : PoolSound ((s.applyReport r.dest x .learned).repair r.dest y).2 := by
      unfold repair
      split
      · exact learned
      · split
        · exact learned
        · next h => exact learned.admitOwn h
    refine PoolSound.endReadback ?_ r
    exact repaired.of_eq rfl rfl rfl (fun d => rfl)

theorem PoolSound.answerNone {s : State} (hp : PoolSound s) (r : Readback) : PoolSound (s.answerNone r) :=
  (hp.applyNoAnswer r.dest).endReadback r

theorem PoolSound.answer {s : State} (hp : PoolSound s) (d : Dest) (x : Option Src) : PoolSound (s.answer d x) := by
  obtain e | ⟨r, -, -, ⟨y, -, e⟩ | ⟨-, e⟩⟩ := answer_cases s d x <;> rw [e]
  · exact hp
  · exact (hp.answerSource r y).settle
  · exact (hp.answerNone r).settle

theorem PoolSound.joinPriority {s : State} (hp : PoolSound s) (d : Dest) : PoolSound (s.joinPriority d) := by
  unfold State.joinPriority
  split
  · exact hp
  · exact hp.of_eq rfl rfl rfl (fun d => rfl)

theorem PoolSound.walkNext {s : State} (fuel : Nat) (hp : PoolSound s) : PoolSound (walkNext fuel s) := by
  induction fuel generalizing s with
  | zero => exact hp
  | succ fuel ih =>
    unfold State.walkNext
    split
    · exact hp
    · split
      · exact hp.of_eq rfl rfl rfl (fun d => rfl)
      · refine ih (hp.of_eq (by simp) ?_ ?_ (fun d => by simp [dest_def]))
        all_goals
          rw [walkOn_bus]
          split <;> rfl

theorem PoolSound.readbackNext {s : State} (hp : PoolSound s) : PoolSound s.readbackNext := by
  unfold State.readbackNext
  split
  · split
    · exact hp.of_eq rfl rfl rfl (fun d => rfl)
    · split
      · exact hp
      · exact hp.walkNext 256
  · exact hp

/-! ## Timers of the takes -/

theorem PoolSound.expireAbsent {s : State} (hp : PoolSound s) (i : Slot) : PoolSound (s.expireAbsent i) := by
  obtain e | ⟨k, hk, hdue, e⟩ := expireAbsent_cases s i <;> rw [e]
  · exact hp
  · unfold absentDue at hdue
    obtain ⟨a, ha, hd⟩ := List.any_eq_true.1 hdue
    rw [Bool.and_eq_true, decide_eq_true_eq] at hd
    have hout := (hp.timer a ha).2
    rw [hd.1] at hout
    have ended := (hp.endTake hk (active_of_outstanding ((has_iff_of_take hk).1 hout)) .unverified).outputEvent k.dest
      .unverified
    exact (ended.joinPriority k.dest).settle

theorem PoolSound.expireHold {s : State} (hp : PoolSound s) (i : Slot) : PoolSound (expireHold i s) := by
  obtain e | ⟨hdue, e⟩ := expireHold_cases i s <;> rw [e]
  · exact hp
  · unfold holdLimitDue at hdue
    obtain ⟨k, hk, hdue⟩ := (SlotRec.holds_iff _ _).1 hdue
    simp only [Bool.and_eq_true] at hdue
    exact (hp.endTake hk (active_of_waiting hdue.1.1) .expired).settle

/-! ## Recorder ports -/

theorem PoolSound.retestOpt {s : State} (hp : PoolSound s) (d : Option Dest) : PoolSound (s.retestOpt d) := by
  cases d with
  | none => exact hp
  | some x => exact hp.retestHold x

theorem PoolSound.bindRecorder {s : State} (hp : PoolSound s) (p : Port) (c : PortConfig) :
    PoolSound (bindRecorder s p c) := by
  have rebound : PoolSound (s.rebound p c) := by
    unfold State.rebound State.recounted State.configured
    split
    · exact hp.of_frame (by simp) (by simp) (by simp)
    · exact hp.of_frame (by simp) (by simp) (by simp)
  rw [bindRecorder_eq]
  split
  · exact (rebound.retestOpt _).retestOpt _
  · exact rebound

theorem PoolSound.reportedChanged {s : State} (hp : PoolSound s) (p : Port) (old : RecorderState) :
    PoolSound (s.reportedChanged p old) := by
  by_cases hsame : (s.port p).reported = old
  · rw [reportedChanged_same hsame]; exact hp
  · cases hd : (s.port p).dest with
    | none => rw [reportedChanged_unbound hd]; exact hp
    | some d =>
      rw [reportedChanged_eq hd hsame]
      refine PoolSound.retestHold ?_ d
      rw [reportRecounted_frame]
      exact hp.of_frame rfl rfl rfl

theorem PoolSound.recorderStatus {s : State} (hp : PoolSound s) (p : Port) (x : RecorderState) :
    PoolSound (s.recorderStatus p x) := by
  obtain e | ⟨-, e⟩ := recorderStatus_cases s p x <;> rw [e]
  · exact hp
  · have taken : PoolSound (s.setPort p ((s.port p).takeStatus s.now x)) := hp.of_frame rfl rfl rfl
    have handed := taken.reportedChanged p (s.port p).reported
    exact poolSound_kept.raise _ _ (PoolSound.settle (handed.of_frame (by simp) (by simp) (by simp)))

theorem PoolSound.recorderTimeout {s : State} (hp : PoolSound s) (p : Port) : PoolSound (s.recorderTimeout p) := by
  obtain e | ⟨f, -, e⟩ := recorderTimeout_cases s p <;> rw [e]
  · exact hp
  · have timed : PoolSound (s.setPort p ((s.port p).takeTimeout s.now f.kind)) := hp.of_frame rfl rfl rfl
    refine PoolSound.settle ?_
    generalize s.setPort p ((s.port p).takeTimeout s.now f.kind) = u at timed
    unfold judgeSilence
    dsimp only
    split
    · have offline : PoolSound (u.setPort p (u.port p).goOffline) := timed.of_frame rfl rfl rfl
      exact (offline.reportedChanged p (u.port p).reported).of_frame rfl rfl rfl
    · exact timed

/-! ## Reports, RESTART and the configuration of a destination -/

/-- A slot whose report has been delivered is free (R43). -/
theorem PoolSound.delivered {s : State} {i : Slot} {l : List Slot} (hp : PoolSound s) (hl : s.pool.reports = i :: l)
    (e : Option EndedTake) : PoolSound { s with pool := { s.pool with
      slots := put s.pool.slots i ⟨(s.slot i).gen, none, e⟩, reports := l } } := by
  obtain ⟨k, hk, hdone⟩ := (hp.reports.2 i).1 (by rw [hl]; exact List.mem_cons_self)
  obtain ⟨hi, hnd⟩ := List.nodup_cons.1 (hl ▸ hp.reports.1)
  generalize ht : ({ s with pool := { s.pool with
      slots := put s.pool.slots i ⟨(s.slot i).gen, none, e⟩, reports := l } } : State) = t
  have hslot (j : Slot) : t.slot j = if j = i then ⟨(s.slot i).gen, none, e⟩ else s.slot j := by
    rw [← ht]; exact look_put ..
  have hown : (t.slot i).take = none := by rw [hslot, if_pos rfl]
  have nothing {p : Take → Prop} : ¬ t.Has i p := fun ⟨m, hm, _⟩ => by rw [hown] at hm; cases hm
  have not_active (h : k.state.active = true) : False := by rw [hdone] at h; cases h
  have never {p q : Take → Prop} (h : p k → k.state.active = true) : s.Has i p ↔ t.Has i q :=
    iff_of_false (fun hh => not_active (h ((has_iff_of_take hk).1 hh))) nothing
  have hdom (d : Dest) : (t.dest d).domain = (s.dest d).domain := by rw [← ht]; rfl
  have hpool : t.pool = { s.pool with slots := put s.pool.slots i ⟨(s.slot i).gen, none, e⟩, reports := l } := by
    rw [← ht]
  have hbus : t.bus = s.bus := by rw [← ht]
  have hqueue (d : Dom) : t.queue d = s.queue d := by rw [← ht]; rfl
  have hretry (d : Dom) : t.retrySlots d = s.retrySlots d := by rw [← ht]; rfl
  refine hp.oneSlot (i := i) ⟨hdom, fun j hj => by rw [hslot, if_neg hj], fun d => ?_, ?_, fun d => ?_,
    fun d g hg => .inl ?_, ?_, ?_, fun a ha => ?_, fun m hm => ?_, fun m hm => ?_, fun m hm => ?_⟩
  · rw [hqueue]
    exact .stay (hp.queue d).1 (((hp.queue d).2 i).trans (never (fun ⟨_, hw⟩ => active_of_waiting hw)))
  · rw [hpool]
    exact .stay hp.issued.1 ((hp.issued.2 i).trans (never active_of_outstanding))
  · rw [hretry]
    exact .stay (hp.retry d).1 (((hp.retry d).2 i).trans (never (fun ⟨_, hr⟩ => by rw [hr]; rfl)))
  · rw [hbus] at hg
    refine ⟨hg, fun e' => ?_⟩
    have hr := (has_iff_of_take hk).1 (e' ▸ ((hp.retry d).2 _).1 (List.mem_map_of_mem hg))
    rw [hdone] at hr
    cases hr.2
  · rw [hpool, hl]
    exact ⟨hnd, fun j hj => by simp [hj], iff_of_false hi nothing⟩
  · rw [State.timedSlots, hbus]; exact hp.timed
  · rw [hbus] at ha
    refine ⟨ha, fun e' => ?_⟩
    exact (not_active (active_of_outstanding ((has_iff_of_take hk).1 (e' ▸ (hp.timer a ha).2)))).elim
  all_goals
    rw [hown] at hm
    cases hm

/-- A pool with every slot free and every list empty is lawful. -/
theorem poolSound_of_empty {s : State} (hslot : ∀ i, (s.slot i).take = none) (hqueue : ∀ d, s.queue d = [])
    (hissued : s.pool.issued = []) (hreports : s.pool.reports = []) (hretry : ∀ d, look s.bus.retry d = [])
    (habsent : s.bus.absent = []) : PoolSound s := by
  have nothing {i : Slot} {p : Take → Prop} : ¬ s.Has i p := fun ⟨m, hm, _⟩ => by rw [hslot] at hm; cases hm
  have names {l : List Slot} {p : Slot → Prop} (hl : l = []) (hp : ∀ i, ¬ p i) : Names l p := by
    rw [hl]; exact ⟨List.nodup_nil, fun i => iff_of_false List.not_mem_nil (hp i)⟩
  refine ⟨fun d => names (hqueue d) (fun i => nothing), names hissued (fun i => nothing),
    fun d => names (by rw [State.retrySlots, hretry]; rfl) (fun i => nothing), fun d g hg => ?_,
    names hreports (fun i => nothing), by rw [State.timedSlots, habsent]; exact List.nodup_nil, fun a ha => ?_,
    fun i k hk => ?_, fun i j k l hk => ?_, fun i j k l hk => ?_⟩
  · rw [hretry] at hg; cases hg
  · rw [habsent] at ha; cases ha
  all_goals
    rw [hslot] at hk
    cases hk

theorem poolSound_restarted (s : State) : PoolSound s.restarted :=
  poolSound_of_empty (fun i => by
      have : s.restarted.slot i = ⟨(s.slot i).gen, none, none⟩ := look_mapTable ..
      rw [this])
    (fun d => look_replicate ..) rfl rfl (fun d => look_replicate ..) rfl

theorem poolSound_reset (x : Straps) (g : Vector GpiRec 8) (n : Nat) (l : List Instr) :
    PoolSound (State.coldReset x g n l) :=
  poolSound_of_empty (fun i => by
      have : (State.coldReset x g n l).slot i = SlotRec.reset := look_replicate ..
      rw [this]; rfl)
    (fun d => look_replicate ..) rfl rfl (fun d => look_replicate ..) rfl

theorem domain_configureDest (s : State) (d : Dest) (c : DestConfig) (e : Dest) :
    ((configureDest s d c).dest e).domain = if e = d then c.domain else (s.dest e).domain := by
  have roled : ((s.changeRole d c.role).dest e).domain = (s.dest e).domain := by
    have hdests : (s.changeRole d c.role).dests = put s.dests d { s.dest d with role := c.role } := by
      simp [changeRole]
    rw [dest_def, hdests]
    exact domain_setDest (s := s) (d := d) (r := { s.dest d with role := c.role }) rfl e
  have configured (r : DestRec) (hr : r.domain = c.domain) : (((s.changeRole d c.role).setDest d r).dest e).domain =
      if e = d then c.domain else (s.dest e).domain := by
    rw [dest_setDest]
    split
    · exact hr
    · exact roled
  unfold configureDest
  dsimp only
  split <;> exact configured _ rfl

/-- A destination keeps its domain while a take of it is active (R17). -/
theorem PoolSound.configureDest {s : State} (hp : PoolSound s) {d : Dest} {c : DestConfig}
    (h : s.activeDest d = true → c.domain = (s.dest d).domain) : PoolSound (configureDest s d c) := by
  have hpool : (Machine.configureDest s d c).pool = s.pool := by simp
  have hbus : (Machine.configureDest s d c).bus = s.bus := by simp
  refine PoolSound.same (s := s) ⟨fun i => ?_, fun i k hk ha => ?_⟩ hp (by rw [hpool]) (by rw [hpool]) (by rw [hpool])
    (by rw [hbus]) (by rw [hbus])
  · have hslot : (Machine.configureDest s d c).slot i = s.slot i := by rw [slot_def, hpool, slot_def]
    rw [hslot]
    exact .refl _
  · rw [domain_configureDest]
    split
    · next hd =>
      rw [hd]
      exact h ((activeDest_iff s d).2 ⟨i, k, hk, hd, (TakeState.active_iff _).1 ha⟩)
    · rfl

theorem PoolSound.runSetDestConfig {s : State} (hp : PoolSound s) (dest : Byte) (name : TextField) (domain zone role : Byte) :
    PoolSound (runSetDestConfig dest name domain zone role s).2 := by
  unfold Machine.runSetDestConfig
  dsimp only
  split
  · exact hp
  · split
    · exact hp
    · exact hp
    · exact hp
    · next m z r _ _ _ =>
      split
      · exact hp
      · next hidle =>
        have configured : PoolSound (Machine.configureDest s dest.toFin ⟨name, m, z, r⟩) :=
          hp.configureDest (fun ha => by_contra (fun hne => hidle ⟨hne, ha⟩))
        exact configured.of_frame (by simp) (by simp) (by simp)

/-! ## Every command keeps it -/

theorem poolSound_requestEffect (c : Instr) (s : State) (hp : PoolSound s) : PoolSound (requestEffect c s).2 := by
  cases c with
  | take tag dest source panel c r =>
    show PoolSound (runTake dest source panel c r s).2
    obtain e | ⟨q, a, t, ha, e⟩ := runTake_cases dest source panel c r s <;> rw [e]
    · exact hp
    · exact (hp.admitTake ha).settle
  | cancelTake tag slot gen =>
    show PoolSound (runCancelTake slot gen s).2
    obtain e | ⟨i, k, hk, hw, e⟩ := runCancelTake_cases slot gen s <;> rw [e]
    · exact hp
    · exact (hp.endTake hk (active_of_waiting hw) .cancelled).settle
  | fireSalvo tag salvo panel mode report =>
    show PoolSound (runFireSalvo salvo panel mode report s).2
    obtain e | ⟨n, f, e⟩ := runFireSalvo_cases salvo panel mode report s <;> rw [e]
    · exact hp
    · exact (hp.fireSalvo n f).settle
  | undo tag panel =>
    show PoolSound (runUndo panel s).2
    obtain e | ⟨u, rest, f, -, e⟩ := runUndo_cases panel s <;> rw [e]
    · exact hp
    · exact PoolSound.settle ((hp.fireEntries f u.pairs).of_frame rfl rfl rfl)
  | setDestConfig tag dest name domain zone role => exact hp.runSetDestConfig dest name domain zone role
  | bindRecorder tag port dest policy event guardTime pollTimeout =>
    show PoolSound (runBindRecorder port dest policy event guardTime pollTimeout s).2
    obtain e | ⟨p, c, -, -, -, -, -, e⟩ := runBindRecorder_cases port dest policy event guardTime pollTimeout s <;> rw [e]
    · exact hp
    · exact (hp.bindRecorder p c).settle
  | openDomain tag domain => exact poolSound_kept.runOpenDomain domain s hp
  | closeDomain tag domain mode =>
    show PoolSound (runCloseDomain domain mode s).2
    obtain e | ⟨d, m, -, e⟩ := runCloseDomain_cases domain mode s <;> rw [e]
    · exact hp
    · have closing : PoolSound (s.setDom d { s.dom d with closing := some m }) := hp.of_frame rfl rfl rfl
      split
      · exact (closing.flushDomain d).settle
      · exact closing.settle
  | setGpi tag input debounce => exact poolSound_kept.runSetGpi input debounce s hp
  | setVerify tag interval policy =>
    show PoolSound (runSetVerify interval policy s).2
    unfold runSetVerify
    split
    · exact hp
    · split
      · exact hp
      · exact hp.of_eq rfl rfl rfl (fun d => rfl)
  | startWalk tag =>
    show PoolSound (runStartWalk s).2
    unfold runStartWalk
    split
    · exact hp.of_eq rfl rfl rfl (fun d => rfl)
    · exact hp
  | clearFault tag dest =>
    show PoolSound (runClearFault dest s).2
    unfold runClearFault
    dsimp only
    split
    · have joined := (hp.outputEvent dest.toFin .clearFault).joinPriority dest.toFin
      exact joined.of_frame (by simp) (by simp) (by simp)
    · exact hp
  | readAttention tag =>
    show PoolSound (runReadAttention s).2
    obtain e | ⟨f, e⟩ | ⟨r, l, -, e⟩ | ⟨i, l, x, hl, -, e⟩ := runReadAttention_cases s <;> rw [e]
    · exact hp
    · exact hp.of_frame rfl rfl rfl
    · exact hp.of_eq rfl rfl rfl (fun d => rfl)
    · exact hp.delivered hl _
  | restart tag =>
    rw [requestEffect_restart]
    have restarted := poolSound_restarted s
    have served : PoolSound s.restarted.serveClosings :=
      (((restarted.serveClosing 0).serveClosing 1).serveClosing 2).serveClosing 3
    exact served.of_frame (by simp) (by simp) (by simp)
  | _ => exact hp.of_frame (by simp [requestEffect]) (by simp [requestEffect]) (by simp [requestEffect])

theorem poolSound_eventEffect (c : Instr) (s : State) (hp : PoolSound s) : PoolSound (eventEffect c s) := by
  cases c with
  | coldReset m a b => exact poolSound_reset _ _ _ _
  | confirmOwn d x => exact hp.confirmOwn d x
  | confirmForeign d x => exact hp.confirmForeign d x
  | answer d x => exact hp.answer d x
  | discardedTransaction bytes =>
    exact hearTransaction_keeps (P := PoolSound) (fun _ d x h => h.confirmOwn d x) (fun _ d x h => h.confirmForeign d x)
      (fun _ d x h => h.answer d x) bytes s hp
  | answerTimeout =>
    show PoolSound s.answerTimeout
    obtain e | ⟨r, -, e⟩ := answerTimeout_cases s <;> rw [e]
    · exact hp
    · exact (hp.answerNone r).settle
  | readback => exact hp.readbackNext
  | transferEnd => exact hp.of_eq rfl rfl rfl (fun d => rfl)
  | absentTimerExpiry i => exact hp.expireAbsent i
  | holdLimitExpiry i => exact hp.expireHold i
  | referenceFrameStart d => exact poolSound_kept.referenceStart s d hp
  | referenceLossTimeout d => exact poolSound_kept.loseByTimeout d s hp
  | timerFrameStart d follows => exact poolSound_kept.timerFrame d follows s hp
  | gpiPinChange i high => exact poolSound_kept.gpiPin s i high hp
  | debounceExpiry i => exact poolSound_kept.judgeCandidate s i hp
  | status p x => exact hp.recorderStatus p x
  | guardEnd p =>
    show PoolSound (s.endGuard p)
    obtain e | ⟨-, e⟩ := endGuard_cases s p <;> rw [e]
    · exact hp
    · exact poolSound_kept.raise _ _ (hp.of_frame rfl rfl rfl)
  | pollTimeout p => exact hp.recorderTimeout p
  | recorderReplyDiscarded p bytes =>
    exact recorderBytes_keep (P := PoolSound) (fun _ _ _ h => h.of_frame (by simp) (by simp) (by simp))
      (fun _ p x h => h.recorderStatus p x) (fun _ _ _ _ h => h.of_frame (by simp) (by simp) (by simp)) p bytes s hp
  | verifyInterval =>
    obtain e | ⟨-, e⟩ := verifyInterval_cases s <;> rw [e]
    · exact hp
    · exact hp.of_eq rfl rfl rfl (fun d => rfl)
  | partnerByteGap l =>
    show PoolSound (s.partnerGap l)
    rw [partnerGap_eq]
    exact hp.of_frame rfl rfl rfl
  | _ => exact hp.of_frame (by unfold eventEffect; simp) (by unfold eventEffect; simp) (by unfold eventEffect; simp)

/-- Settles O59: each list of the pool names the slots in its state, and every command moves one slot at a time between them,
or frees them all. -/
theorem stepKeepsPoolLaw : Obligations.StepKeepsPoolLaw := by
  unfold Obligations.StepKeepsPoolLaw
  intro s h
  have kept : Keeps PoolSound (step s) :=
    step_keeps (fun _ _ _ h => h.of_frame rfl rfl rfl) (fun _ h => h.of_frame rfl rfl rfl)
      (exec_keeps_of_effects (fun _ _ h => h.of_frame rfl rfl rfl) poolSound_requestEffect poolSound_eventEffect) s
      ((poolLaw_iff s).1 h)
  exact fun t ht => (poolLaw_iff t).2 (kept t ht)

end Sys2Proof.Machine
end

section
/-! PROOF. The state after a cold reset: its records' values, and every law. -/

namespace Sys2Proof.Machine

open State

/-- Settles O54: each law's own reset lemma. -/
theorem resetObeysEveryLaw : Obligations.ResetObeysEveryLaw :=
  ⟨linkLaw_coldReset _ _ _ _, storeLaw_reset _ _ _ _, protectLaw_of_no_record rfl, wallLaw_reset _ _ _ _,
    portLaw_reset _ _ _ _, domainLaw_reset _ _ _ _, busLaw_reset _ _ _ _, (poolLaw_iff _).2 (poolSound_reset _ _ _ _),
    tallyLaw_reset _ _ _ _⟩

/-! The tables of the reset state hold one record throughout. -/

theorem reset_dest (d : Dest) : State.reset.dest d = DestRec.reset := look_replicate ..
theorem reset_src (x : Src) : State.reset.src x = SrcRec.reset := look_replicate ..
theorem reset_slot (i : Slot) : State.reset.slot i = SlotRec.reset := look_replicate ..
theorem reset_queue (d : Dom) : State.reset.queue d = [] := look_replicate ..
theorem reset_panel (p : Panel) : look State.reset.registry.panels p = ⟨false, 0⟩ := look_replicate ..
theorem reset_dom (d : Dom) : State.reset.dom d = DomRec.reset := look_replicate ..
theorem reset_wall (w : Wall) : State.reset.wall w = WallRec.reset := look_replicate ..
theorem reset_port (p : Port) : State.reset.port p = PortRec.reset := look_replicate ..
theorem reset_gpi (i : Gpi) : State.reset.gpi i = GpiRec.reset false := look_replicate ..
theorem reset_cmp (k : Cmp) : State.reset.cmp k = CmpRec.reset := look_replicate ..

theorem countPending_replicate {α : Type} (n : Nat) : countPending (Vector.replicate n (none : Option α)) = 0 := by
  simp [countPending]

theorem reset_instances : State.reset.instances = 0 := by
  have hflags : State.reset.flags = Flags.reset := rfl
  have hdiscrepancies : State.reset.bus.discrepancies = [] := rfl
  have hreports : State.reset.pool.reports = [] := rfl
  simp only [State.instances, hflags, hdiscrepancies, hreports, Flags.reset, countPending_replicate, List.length_nil]

/-- Settles O3: the value of each record, table by table. -/
theorem resetValues : Obligations.ResetValues := by
  unfold Obligations.ResetValues
  refine ⟨rfl, reset_dest, fun x => ⟨reset_src x, by rw [reset_src]; rfl⟩, reset_slot, reset_queue, rfl,
    fun p => by rw [reset_panel], fun z => look_replicate .., fun d => look_replicate .., fun n => look_replicate .., rfl, rfl,
    fun d => ?_, fun d => ⟨look_replicate .., look_replicate .., look_replicate ..⟩, rfl, rfl, rfl, rfl, rfl, rfl, rfl, rfl,
    rfl, rfl, fun w => ?_, reset_port, fun k => look_replicate .., fun p => look_replicate .., fun d => look_replicate ..,
    fun i => ?_, reset_cmp, rfl, rfl, rfl, ?_, ?_, rfl⟩
  · rw [reset_dom]
    exact ⟨rfl, rfl, rfl, rfl, rfl, rfl, rfl, rfl, rfl, rfl, rfl, rfl, rfl, rfl, rfl, rfl⟩
  · rw [reset_wall]
    exact ⟨fun t => look_replicate .., rfl, rfl, rfl, rfl⟩
  · rw [reset_gpi]
    exact ⟨rfl, rfl, rfl⟩
  · exact reset_instances
  · unfold State.attn
    rw [reset_instances]
    rfl

end Sys2Proof.Machine
end

section
/-! PROOF. Request frames: what a request's own frame decodes to, and what its bytes do (chapter 11, R171 to R174). -/

namespace Sys2Proof.Machine

open State

/-! ## Numbers and texts read back -/

theorem u16_bytes (x : U16) : u16 (x.extractLsb' 8 8) (x.extractLsb' 0 8) = x := by
  unfold u16
  exact BitVec.extractLsb'_append_extractLsb'_eq_extractLsb' (by decide) |>.trans (by simp)

theorem u32_bytes (x : U32) :
    u32 (x.extractLsb' 24 8) (x.extractLsb' 16 8) (x.extractLsb' 8 8) (x.extractLsb' 0 8) = x := by
  unfold u32
  rw [BitVec.extractLsb'_append_extractLsb'_eq_extractLsb' (by decide), BitVec.extractLsb'_append_extractLsb'_eq_extractLsb'
    (by decide), BitVec.extractLsb'_append_extractLsb'_eq_extractLsb' (by decide)]
  exact BitVec.extractLsb'_eq_self

theorem takeText_textBytes {label : TextField} (h : textFits label = true) (rest : List Byte) :
    takeText (textBytes label ++ rest) = some (label, rest) := by
  cases label with
  | none => rfl
  | some cs =>
    have hlen : cs.length ≤ 254 := of_decide_eq_true h
    have hn : (BitVec.ofNat 8 cs.length).toNat = cs.length := by
      rw [BitVec.toNat_ofNat]; exact Nat.mod_eq_of_lt (by omega)
    have hne : BitVec.ofNat 8 cs.length ≠ 255#8 := fun e => by
      have := congrArg BitVec.toNat e
      rw [hn] at this
      simp at this
      omega
    simp [textBytes, takeText, hne, hn]

theorem takeEntries_flatMap (content : List (Byte × U16)) :
    takeEntries (content.flatMap (fun e => e.1 :: bytes16 e.2)) = content := by
  induction content with
  | nil => rfl
  | cons e content ih =>
    obtain ⟨d, x⟩ := e
    simp only [List.flatMap_cons, bytes16, List.cons_append, List.nil_append, takeEntries, u16_bytes]
    exact congrArg _ ih

theorem length_flatMap_entries (content : List (Byte × U16)) :
    (content.flatMap (fun e => e.1 :: bytes16 e.2)).length = 3 * content.length := by
  induction content with
  | nil => rfl
  | cons e content ih => 
    rw [List.flatMap_cons, List.length_append, ih, List.length_cons, List.length_cons]
    simp only [bytes16, List.length_cons, List.length_nil]
    omega

/-! ## A request's own frame -/

theorem mem_requestKinds {kind : Byte} {n : Nat} (h : kind.toNat = n) (hn : BitVec.ofNat 8 n ∈ requestKinds) :
    kind ∈ requestKinds := by
  rw [← h, BitVec.ofNat_toNat, BitVec.setWidth_eq] at hn
  exact hn

/-- A kind of no request is BAD_KIND whatever follows it. -/
theorem decodeRequest_badKind {kind : Byte} (h : kind ∉ requestKinds) (tag : Byte) (body : List Byte) :
    decodeRequest ⟨kind, tag, body⟩ = .badKind := by
  unfold decodeRequest
  dsimp only
  split
  case h_42 => rfl
  all_goals
    next hk => exact absurd (mem_requestKinds hk (by decide)) h

theorem wellFormed_badKind {t kind : Byte} {body : List Byte} :
    wellFormed (.badKind t kind body) = true ↔ kind ∉ requestKinds ∧ body.length ≤ 1020 := by
  unfold wellFormed
  rw [Bool.and_eq_true, decide_eq_true_eq, Bool.not_eq_true', List.contains_eq_mem, decide_eq_false_iff_not]
  rfl

/-- A request that is no BAD_KIND is what its own frame decodes to. -/
theorem decode_encode {c : Instr} {f : ReqFrame} (hw : wellFormed c = true) (hf : encodeRequest c = some f)
    (hc : ∀ t k b, c ≠ .badKind t k b) : decodeRequest f = .request c := by
  cases c with
  | badKind t k b => exact absurd rfl (hc t k b)
  | setSourceLabel tag source label =>
    cases hf
    have htext := takeText_textBytes (label := label) hw []
    rw [List.append_nil] at htext
    simp [decodeRequest, decodeSetSourceLabel, bytes16, htext, u16_bytes]
  | setDestConfig tag dest name domain zone role =>
    cases hf
    have htext := takeText_textBytes (label := name) hw [domain, zone, role]
    simp [decodeRequest, decodeSetDestConfig, htext]
  | take tag dest source panel condition report =>
    cases condition with
    | none =>
      cases hf
      simp [decodeRequest, decodeTake, bytes16, u16_bytes]
    | some c =>
      obtain ⟨flag, value⟩ := c
      have hflag : flag ≠ 0#8 := bne_iff_ne.1 hw
      cases hf
      simp [decodeRequest, decodeTake, bytes16, u16_bytes, hflag]
  | storeSalvo tag salvo content =>
    have hlen : content.length ≤ 255 := of_decide_eq_true hw
    have hn : (BitVec.ofNat 8 content.length).toNat = content.length := by
      rw [BitVec.toNat_ofNat]; exact Nat.mod_eq_of_lt (by omega)
    have hcount := length_flatMap_entries content
    have hentries := takeEntries_flatMap content
    cases hf
    simp only [decodeRequest, decodeStoreSalvo, hn, hcount, hentries]
    exact if_pos trivial
  | readWall tag wall tile =>
    cases tile with
    | none => cases hf; rfl
    | some x =>
      obtain ⟨flag, value⟩ := x
      have hflag : flag ≠ 0#8 := bne_iff_ne.1 hw
      cases hf
      simp [decodeRequest, decodeReadWall, hflag]
  | bindRecorder tag port dest policy event guardTime pollTimeout =>
    cases dest with
    | none => cases hf; rfl
    | some x =>
      obtain ⟨flag, value⟩ := x
      have hflag : flag ≠ 0#8 := bne_iff_ne.1 hw
      cases hf
      simp [decodeRequest, decodeBindRecorder, hflag]
  | readSource tag source => cases hf; simp [decodeRequest, body2, bytes16, u16_bytes]
  | setDomain tag domain standard settle holdover hold =>
    cases hf; simp [decodeRequest, decodeSetDomain, bytes16, u16_bytes]
  | setTimecode tag domain value => cases hf; simp [decodeRequest, decodeSetTimecode, bytes32, u32_bytes]
  | armMark tag domain mode preset event => cases hf; simp [decodeRequest, decodeArmMark, bytes32, u32_bytes]
  | setVerify tag interval policy => cases hf; simp [decodeRequest, decodeSetVerify, bytes16, u16_bytes]
  | bindTile tag wall tile kind value => cases hf; simp [decodeRequest, decodeBindTile, bytes16, u16_bytes]
  | setComparator tag k domain origin margin period strict mode trigger panel tk ta tb fk fa fb =>
    cases hf
    simp [decodeRequest, decodeSetComparator, bytes16, bytes32, u16_bytes, u32_bytes]
  | _ => cases hf <;> rfl

/-- Settles O4: a field's bytes read back as the field, and no request kind is left to a BAD_KIND frame. -/
theorem decodeOfEncodeIsTheRequest : Obligations.DecodeOfEncodeIsTheRequest := by
  unfold Obligations.DecodeOfEncodeIsTheRequest
  refine fun c f hw hf => ⟨decode_encode hw hf, fun t k b hc => ?_⟩
  subst hc
  cases hf
  exact decodeRequest_badKind (wellFormed_badKind.1 hw).1 t b

end Sys2Proof.Machine
end

section
/-! PROOF. The control link: a request arriving whole or byte by byte, the receiver's rows, and the frames sent
(R171 to R175). -/

namespace Sys2Proof.Machine

open State

/-! ## A request command is the completion of its frame -/

theorem exec_request {c : Instr} {f : ReqFrame} (hf : encodeRequest c = some f) (s : State) :
    exec c s = requestArrives c (requestEffect c) s := by
  obtain he | ⟨b, e, rfl, -⟩ | ⟨rfl, -⟩ | ⟨rfl, -⟩ | he := exec_cases c s
  · exact he
  · cases hf
  · cases hf
  · cases hf
  · cases c <;> first | rfl | cases hf

theorem frameEffect_encode {c : Instr} {f : ReqFrame} (hw : wellFormed c = true) (hf : encodeRequest c = some f) :
    frameEffect f = requestEffect c := by
  funext s
  by_cases hc : ∃ t k b, c = .badKind t k b
  · obtain ⟨t, k, b, rfl⟩ := hc
    cases hf
    rw [frameEffect, decodeRequest_badKind (wellFormed_badKind.1 hw).1]
    rfl
  · rw [frameEffect, decode_encode hw hf (fun t k b h => hc ⟨t, k, b, h⟩)]

theorem exec_of_frame {c : Instr} {f : ReqFrame} (hw : wellFormed c = true) (hf : encodeRequest c = some f) (s : State) :
    exec c s = .next (s.frameComplete f) := by
  rw [exec_request hf, frameComplete, frameEffect_encode hw hf]
  simp only [requestArrives, hf, hw, if_true]

theorem sendImmediate_eq (s : State) (f : TxFrame) : s.sendImmediate f = withImmediate s f := rfl

/-- Only a request can have fields that no frame spells. -/
theorem encode_of_illFormed {c : Instr} (h : wellFormed c = false) : ∃ f, encodeRequest c = some f := by
  cases c with
  | badKind t k b => exact ⟨_, rfl⟩
  | setSourceLabel tag source label => exact ⟨_, rfl⟩
  | setDestConfig tag dest name domain zone role => exact ⟨_, rfl⟩
  | take tag dest source panel condition report => cases condition <;> exact ⟨_, rfl⟩
  | storeSalvo tag salvo content => exact ⟨_, rfl⟩
  | readWall tag wall tile => cases tile <;> exact ⟨_, rfl⟩
  | bindRecorder tag port dest policy event guardTime pollTimeout => cases dest <;> exact ⟨_, rfl⟩
  | _ => cases h

theorem exec_illFormed {c : Instr} (h : wellFormed c = false) (s : State) : exec c s = .refused .illFormed := by
  obtain ⟨f, hf⟩ := encode_of_illFormed h
  rw [exec_request hf]
  simp only [requestArrives, hf, h, Bool.false_eq_true, if_false]

/-- Settles O6: a frame the link cannot execute joins the queue while it has room. -/
theorem requestIsQueuedOrAnsweredBusy : Obligations.RequestIsQueuedOrAnsweredBusy := by
  unfold Obligations.RequestIsQueuedOrAnsweredBusy
  refine fun c s => ⟨fun h => exec_illFormed h s, fun f hw hf hlink => ⟨fun hroom => ?_, fun hfull => ?_⟩⟩
  · rw [exec_of_frame hw hf, frameComplete, hlink, if_neg Bool.false_ne_true, joinQueue]
    exact congrArg _ (if_pos hroom)
  · rw [exec_of_frame hw hf, frameComplete, hlink, if_neg Bool.false_ne_true, joinQueue]
    exact congrArg _ (if_neg (Nat.not_lt.2 hfull))

/-! ## The receiver (R171, R172) -/

/-- The state that has just heard a byte and holds the receiver `r`. -/
def State.hearing (s : State) (r : Receiver) : State :=
  { s with link := { s.link with receiver := r, lastByteAt := s.now } }

theorem toNat_u16 (a b : Byte) : (u16 a b).toNat = 256 * a.toNat + b.toNat := by
  unfold u16
  rw [BitVec.toNat_append, ← Nat.shiftLeft_add_eq_or_of_lt b.isLt, Nat.shiftLeft_eq, Nat.mul_comm]

theorem receive_quiet {s : State} {b : Byte} {r : Receiver} (h : s.link.receiver.feed b = (r, .none)) :
    s.receive b = s.hearing r := by
  unfold receive
  rw [h]
  rfl

theorem receive_rejected {s : State} {b : Byte} {r : Receiver} {reason : Nat}
    (h : s.link.receiver.feed b = (r, .rejected reason)) : s.receive b = (s.hearing r).reject reason := by
  unfold receive
  rw [h]
  rfl

theorem receive_frame {s : State} {b : Byte} {r : Receiver} {f : ReqFrame}
    (h : s.link.receiver.feed b = (r, .frame f)) : s.receive b = (s.hearing r).frameComplete f := by
  unfold receive
  rw [h]
  rfl

theorem exec_byte (b : Byte) (s : State) : exec (.ctlRxByte b false) s = .next (s.receive b) := rfl

/-- Settles O7: each row of the table is one feed of the receiver. -/
theorem receiverFollowsItsTableAndTruncates : Obligations.ReceiverFollowsItsTableAndTruncates := by
  unfold Obligations.ReceiverFollowsItsTableAndTruncates
  refine ⟨fun s b => ?_, fun s b => ?_⟩
  · intro at_ out
    have quiet {r r' : Receiver} (hr : s.link.receiver = r) (h : r.feed b = (r', .none)) : out = .next (at_ r') :=
      congrArg _ (receive_quiet (hr ▸ h))
    have rejected {r r' : Receiver} {reason : Nat} (hr : s.link.receiver = r) (h : r.feed b = (r', .rejected reason)) :
        out = .next ((s.hearing r').reject reason) := congrArg _ (receive_rejected (hr ▸ h))
    refine ⟨fun hr hb => quiet hr ?_, fun hr hb => quiet hr ?_, fun hr => quiet hr rfl, fun a hr => ⟨fun hlong => ?_, fun hfits => ?_⟩,
      fun len hr => quiet hr rfl, fun len kind hr => ⟨fun hz => quiet hr ?_, fun hz => quiet hr ?_⟩,
      fun len kind tag held hr => ⟨fun hl => quiet hr ?_, fun hl => quiet hr ?_⟩, fun len kind tag held hr => quiet hr rfl,
      fun len kind tag held a hr hcrc => ?_⟩
    · simp only [Receiver.feed, hb, if_true]
    · simp only [Receiver.feed, hb, if_false]
    · exact rejected hr (by simp only [Receiver.feed, Config.bodyLimit, toNat_u16]; exact if_pos hlong)
    · exact quiet hr (by simp only [Receiver.feed, Config.bodyLimit, toNat_u16]; exact if_neg (Nat.not_lt.2 hfits))
    · simp only [Receiver.feed, hz, if_true]
    · simp only [Receiver.feed, hz, if_false]
    · simp only [Receiver.feed, List.length_append, List.length_singleton, hl, if_true]
    · simp only [Receiver.feed, List.length_append, List.length_singleton, hl, if_false]
    · exact rejected hr (congrArg (Prod.mk Receiver.hunt) (if_neg hcrc))
  · intro cut
    have hcut : s.truncate = cut := rfl
    refine ⟨fun hr => ?_, fun hr => ?_, fun hr hgap => ?_, fun hquiet => ?_⟩
    · exact congrArg _ ((if_neg hr).trans hcut)
    · exact congrArg _ (if_pos hr)
    · have hdue : s.truncationDue = true := by
        unfold truncationDue
        rw [Bool.and_eq_true, decide_eq_true_eq, decide_eq_true_eq]
        exact ⟨hr, hgap⟩
      exact congrArg _ ((if_pos hdue).trans hcut)
    · have hdue : ¬ s.truncationDue = true := by
        unfold truncationDue
        rw [Bool.and_eq_true, decide_eq_true_eq, decide_eq_true_eq]
        rintro ⟨hne, hgap⟩
        exact hquiet.elim hne (fun hlt => absurd hgap (Nat.not_le.2 hlt))
      exact congrArg _ (if_neg hdue)

/-! ## Frames sent (R174, R175) -/

theorem replyHeld_eq_false (s : State) : s.replyHeld = false ↔ ∀ g ∈ s.link.transmit, g.sort ≠ .reply := by
  unfold replyHeld
  simp

/-- Settles O8: once the head frame has gone, the head request is executed unless a reply is still held. -/
theorem frameSentExecutesTheHeadRequest : Obligations.FrameSentExecutesTheHeadRequest := by
  unfold Obligations.FrameSentExecutesTheHeadRequest
  refine fun s => ⟨fun hempty => ?_, fun f rest htransmit => ?_, fun c f hw hf hfree => ?_⟩
  · have h : s.frameSent = s := by simp only [frameSent, hempty]
    exact congrArg _ h
  · have hsent : s.frameSent = (s.setLink { s.link with transmit := rest }).executeHead := by
      simp only [frameSent, htransmit]
    refine ⟨fun hwait => ?_, fun g q hqueue hnone => ?_⟩
    · refine congrArg _ (hsent.trans ?_)
      unfold executeHead
      split
      · rfl
      · next g q hqueue =>
        have hqueue : s.link.queue = g :: q := hqueue
        obtain hnil | ⟨h, hmem, hreply⟩ := hwait
        · rw [hnil] at hqueue
          cases hqueue
        · have held : (s.setLink { s.link with transmit := rest }).replyHeld = true := by
            unfold replyHeld
            exact List.any_eq_true.2 ⟨h, hmem, decide_eq_true hreply⟩
          exact if_pos held
    · refine congrArg _ (hsent.trans ?_)
      have free : (s.setLink { s.link with transmit := rest }).replyHeld = false := (replyHeld_eq_false _).2 hnone
      have hq : (s.setLink { s.link with transmit := rest }).link.queue = g :: q := hqueue
      unfold executeHead
      rw [hq]
      dsimp only
      rw [free, if_neg Bool.false_ne_true]
      rfl
  · rw [exec_of_frame hw hf, frameComplete, if_pos hfree]
    rfl

/-! ## A frame byte by byte -/

theorem rxBytes_cons (b : Byte) (bs : List Byte) (s : State) : rxBytes (b :: bs) s = rxBytes bs (s.receive b) := rfl

theorem rxBytes_append (l l' : List Byte) (s : State) : rxBytes (l ++ l') s = rxBytes l' (l.foldl State.receive s) := by
  induction l generalizing s with
  | nil => rfl
  | cons b l ih => exact ih _

/-- A byte that completes nothing moves a listening receiver on. -/
theorem receive_hearing (s : State) {r r' : Receiver} {b : Byte} (h : r.feed b = (r', .none)) :
    (s.hearing r).receive b = s.hearing r' := receive_quiet h

/-- The body's bytes are held until the last of them (R171). -/
theorem receive_body (s : State) (len : U16) (kind tag : Byte) (held rest : List Byte) (hne : rest ≠ [])
    (hlen : (held ++ rest).length = len.toNat) :
    rest.foldl State.receive (s.hearing (.body len kind tag held)) = s.hearing (.crc len kind tag (held ++ rest) none) := by
  induction rest generalizing held with
  | nil => exact absurd rfl hne
  | cons b rest ih =>
    rw [List.length_append, List.length_cons] at hlen
    rw [List.foldl_cons]
    cases rest with
    | nil =>
      refine receive_hearing s ?_
      have hl : (held ++ [b]).length = len.toNat := by rw [List.length_append]; exact hlen
      simp only [Receiver.feed, hl, if_true]
    | cons c rest =>
      rw [List.length_cons] at hlen
      have hl : (held ++ [b]).length ≠ len.toNat := by
        rw [List.length_append, List.length_singleton]
        omega
      have fed : (s.hearing (.body len kind tag held)).receive b = s.hearing (.body len kind tag (held ++ [b])) :=
        receive_hearing s (by simp only [Receiver.feed, hl, if_false])
      rw [fed, ih (held ++ [b]) (by simp) (by simp only [List.length_append, List.length_cons, List.length_nil]; omega),
        List.append_assoc]
      rfl

/-- A frame's bytes, heard from HUNT, complete the frame (11.1, R171). -/
theorem rxBytes_controlFrame {s : State} (hhunt : s.link.receiver = .hunt) (kind tag : Byte) {body : List Byte}
    (hbody : body.length ≤ 1020) :
    rxBytes (controlFrame kind tag body) s = .next ((s.hearing .hunt).frameComplete ⟨kind, tag, body⟩) := by
  have hlen : (BitVec.ofNat 16 body.length).toNat = body.length := by
    rw [BitVec.toNat_ofNat]; exact Nat.mod_eq_of_lt (by omega)
  generalize hL : BitVec.ofNat 16 body.length = len at hlen
  have started : s.receive 0xA5 = s.hearing (.length none) := receive_quiet (by rw [hhunt]; rfl)
  have header : (((s.hearing (.length none)).receive (len.extractLsb' 8 8)).receive (len.extractLsb' 0 8)) =
      s.hearing (.header len none) := by
    rw [receive_hearing s (r' := .length (some (len.extractLsb' 8 8))) rfl]
    refine receive_hearing s ?_
    have hfits : ¬ Config.bodyLimit < len.toNat := by rw [hlen]; exact Nat.not_lt.2 hbody
    simp only [Receiver.feed, u16_bytes, hfits, if_false]
  have counted (crc : U16) (hcrc : crc16 (bytes16 len ++ (kind :: tag :: body)) = crc) :
      rxBytes (bytes16 crc) (s.hearing (.crc len kind tag body none)) =
        .next ((s.hearing .hunt).frameComplete ⟨kind, tag, body⟩) := by
    unfold bytes16 at *
    rw [rxBytes_cons, rxBytes_cons, receive_hearing s (r' := .crc len kind tag body (some (crc.extractLsb' 8 8))) rfl]
    refine congrArg _ (receive_frame (s := s.hearing (.crc len kind tag body (some (crc.extractLsb' 8 8)))) (r := .hunt) ?_)
    have : (s.hearing (.crc len kind tag body (some (crc.extractLsb' 8 8)))).link.receiver =
        .crc len kind tag body (some (crc.extractLsb' 8 8)) := rfl
    rw [this]
    simp only [Receiver.feed, u16_bytes]
    exact congrArg (Prod.mk Receiver.hunt) (if_pos hcrc)
  have body_heard : body.foldl State.receive (((s.hearing (.header len none)).receive kind).receive tag) =
      s.hearing (.crc len kind tag body none) := by
    rw [receive_hearing s (r' := .header len (some kind)) rfl]
    cases body with
    | nil =>
      have hz : len = 0 := BitVec.eq_of_toNat_eq hlen
      exact receive_hearing s (by simp only [Receiver.feed, hz, if_true])
    | cons b rest =>
      have hz : len ≠ 0 := by rintro rfl; cases hlen
      rw [receive_hearing s (r' := .body len kind tag []) (by simp only [Receiver.feed, hz, if_false])]
      exact receive_body s len kind tag [] (b :: rest) (by simp) hlen.symm
  have split : controlFrame kind tag body = [0xA5, len.extractLsb' 8 8, len.extractLsb' 0 8, kind, tag] ++ (body ++
      bytes16 (crc16 (bytes16 len ++ (kind :: tag :: body)))) := by
    unfold controlFrame controlCovered
    rw [hL]
    simp [bytes16]
  rw [split, rxBytes_append, rxBytes_append]
  simp only [List.foldl_cons, List.foldl_nil]
  rw [started, header, body_heard]
  exact counted _ rfl

/-- A text field is at most 255 bytes. -/
theorem textBytes_length_le {label : TextField} (hw : textFits label = true) : (textBytes label).length ≤ 255 := by
  cases label with
  | none => exact Nat.le_of_ble_eq_true rfl
  | some cs =>
    have hcs : cs.length ≤ 254 := of_decide_eq_true hw
    exact Nat.succ_le_succ hcs

/-- A request's body is within the limit of a frame: only a text, a salvo's content and a BAD_KIND body grow. -/
theorem encode_body_length {c : Instr} {f : ReqFrame} (hw : wellFormed c = true) (hf : encodeRequest c = some f) :
    f.body.length ≤ 1020 := by
  cases c with
  | badKind t k b => cases hf; exact (wellFormed_badKind.1 hw).2
  | setSourceLabel tag source label =>
    cases hf
    have htext := textBytes_length_le (label := label) hw
    simp only [bytes16, List.length_append, List.length_cons, List.length_nil]
    omega
  | setDestConfig tag dest name domain zone role =>
    cases hf
    have htext := textBytes_length_le (label := name) hw
    simp only [List.length_append, List.length_cons, List.length_nil]
    omega
  | storeSalvo tag salvo content =>
    cases hf
    have hlen : content.length ≤ 255 := of_decide_eq_true hw
    simp only [List.length_cons, length_flatMap_entries]
    omega
  | take tag dest source panel condition report =>
    rcases condition with _ | ⟨flag, value⟩ <;> cases hf <;> exact Nat.le_of_ble_eq_true rfl
  | readWall tag wall tile =>
    rcases tile with _ | ⟨flag, value⟩ <;> cases hf <;> exact Nat.le_of_ble_eq_true rfl
  | bindRecorder tag port dest policy event guardTime pollTimeout =>
    rcases dest with _ | ⟨flag, value⟩ <;> cases hf <;> exact Nat.le_of_ble_eq_true rfl
  | _ => cases hf <;> exact Nat.le_of_ble_eq_true rfl

/-- Settles O5: the last byte of a request's frame completes it, and the command is that completion. -/
theorem frameBytesActAsTheRequest : Obligations.FrameBytesActAsTheRequest := by
  unfold Obligations.FrameBytesActAsTheRequest
  intro c f s hw hf hhunt
  have hstate : s.hearing .hunt = { s with link := { s.link with lastByteAt := s.now } } := by
    unfold State.hearing
    rw [← hhunt]
  rw [rxBytes_controlFrame hhunt f.kind f.tag (encode_body_length hw hf), exec_of_frame hw hf, hstate]

end Sys2Proof.Machine
end

section
/-! PROOF. The cold reset, the identity record, and the size of each request's body (R174, R178, R179). -/

namespace Sys2Proof.Machine

open State

/-! ## A body of the wrong size -/

section
variable {body : List Byte} {tag : Byte}

theorem body0_badLength (c : Instr) (h : body.length ≠ 0) : body0 c body = .badLength := by
  unfold body0
  split
  · exact absurd rfl h
  · rfl

theorem body1_badLength (f : Byte → Instr) (h : body.length ≠ 1) : body1 f body = .badLength := by
  unfold body1
  split
  · exact absurd rfl h
  · rfl

theorem body2_badLength (f : Byte → Byte → Instr) (h : body.length ≠ 2) : body2 f body = .badLength := by
  unfold body2
  split
  · exact absurd rfl h
  · rfl

theorem body4_badLength (f : Byte → Byte → Byte → Byte → Instr) (h : body.length ≠ 4) : body4 f body = .badLength := by
  unfold body4
  split
  · exact absurd rfl h
  · rfl

theorem body5_badLength (f : Byte → Byte → Byte → Byte → Byte → Instr) (h : body.length ≠ 5) :
    body5 f body = .badLength := by
  unfold body5
  split
  · exact absurd rfl h
  · rfl

theorem decodeSetDomain_badLength (h : body.length ≠ 6) : decodeSetDomain tag body = .badLength := by
  unfold decodeSetDomain
  split
  · exact absurd rfl h
  · rfl

theorem decodeSetTimecode_badLength (h : body.length ≠ 5) : decodeSetTimecode tag body = .badLength := by
  unfold decodeSetTimecode
  split
  · exact absurd rfl h
  · rfl

theorem decodeArmMark_badLength (h : body.length ≠ 7) : decodeArmMark tag body = .badLength := by
  unfold decodeArmMark
  split
  · exact absurd rfl h
  · rfl

theorem decodeSetVerify_badLength (h : body.length ≠ 3) : decodeSetVerify tag body = .badLength := by
  unfold decodeSetVerify
  split
  · exact absurd rfl h
  · rfl

theorem decodeBindTile_badLength (h : body.length ≠ 5) : decodeBindTile tag body = .badLength := by
  unfold decodeBindTile
  split
  · exact absurd rfl h
  · rfl

theorem decodeSetComparator_badLength (h : body.length ≠ 22) : decodeSetComparator tag body = .badLength := by
  unfold decodeSetComparator
  split
  · exact absurd rfl h
  · rfl

/-- The bytes of a text field whose count byte is `n` (R182). -/
def textSize (n : Byte) : Nat := if n.toNat = 255 then 0 else n.toNat

/-- The bytes of an optional field of `size` bytes whose presence byte is `n` (R182). -/
def optSize (n : Byte) (size : Nat) : Nat := if n.toNat = 0 then 0 else size

theorem optSize_zero (size : Nat) : optSize 0 size = 0 := rfl

theorem optSize_present {n : Byte} (h : n ≠ 0) (size : Nat) : optSize n size = size :=
  if_neg (fun hz => h (BitVec.eq_of_toNat_eq hz))

/-- What follows a text field starts after its count and its characters. -/
theorem takeText_rest {n : Byte} {rest : List Byte} {label : TextField} {after : List Byte}
    (h : takeText (n :: rest) = some (label, after)) : rest.length = textSize n + after.length := by
  unfold takeText at h
  by_cases hn : n = 255
  · simp only [hn, if_true, Option.some.injEq, Prod.mk.injEq] at h
    obtain ⟨-, rfl⟩ := h
    rw [hn, textSize, if_pos (by decide), Nat.zero_add]
  · have hne : ¬ n.toNat = 255 := fun h255 => hn (BitVec.eq_of_toNat_eq h255)
    by_cases hle : n.toNat ≤ rest.length
    · simp only [hn, if_false, hle, if_true, Option.some.injEq, Prod.mk.injEq] at h
      obtain ⟨-, rfl⟩ := h
      rw [textSize, if_neg hne, List.length_drop]
      omega
    · simp only [hn, if_false, hle] at h
      cases h

theorem decodeSetSourceLabel_badLength (h : body.length ≠ 3 + textSize (body.getD 2 0)) :
    decodeSetSourceLabel tag body = .badLength := by
  unfold decodeSetSourceLabel
  split
  · next hi lo rest =>
    split
    · next label htext =>
      cases rest with
      | nil => cases htext
      | cons n rest =>
        have hrest := takeText_rest htext
        have hn : (hi :: lo :: n :: rest).getD 2 0 = n := rfl
        rw [hn] at h
        simp only [List.length_cons, List.length_nil] at h hrest
        omega
    · rfl
  · rfl

theorem decodeSetDestConfig_badLength (h : body.length ≠ 5 + textSize (body.getD 1 0)) :
    decodeSetDestConfig tag body = .badLength := by
  unfold decodeSetDestConfig
  split
  · next dest rest =>
    split
    · next name domain zone role htext =>
      cases rest with
      | nil => cases htext
      | cons n rest =>
        have hrest := takeText_rest htext
        have hn : (dest :: n :: rest).getD 1 0 = n := rfl
        rw [hn] at h
        simp only [List.length_cons, List.length_nil] at h hrest
        omega
    · rfl
  · rfl

theorem decodeTake_badLength (h : body.length ≠ 7 + optSize (body.getD 5 0) 2) : decodeTake tag body = .badLength := by
  unfold decodeTake
  split
  · next presence _ =>
    refine if_neg (fun hz => h ?_)
    subst hz
    rfl
  · next presence _ _ _ =>
    split
    · rfl
    · next hz => exact absurd (congrArg (7 + ·) (optSize_present hz 2)).symm h
  · rfl

theorem decodeReadWall_badLength (h : body.length ≠ 2 + optSize (body.getD 1 0) 1) :
    decodeReadWall tag body = .badLength := by
  unfold decodeReadWall
  split
  · next presence =>
    refine if_neg (fun hz => h ?_)
    subst hz
    rfl
  · next presence _ =>
    split
    · rfl
    · next hz => exact absurd (congrArg (2 + ·) (optSize_present hz 1)).symm h
  · rfl

theorem decodeBindRecorder_badLength (h : body.length ≠ 6 + optSize (body.getD 1 0) 1) :
    decodeBindRecorder tag body = .badLength := by
  unfold decodeBindRecorder
  split
  · next presence _ _ _ _ =>
    refine if_neg (fun hz => h ?_)
    subst hz
    rfl
  · next presence _ _ _ _ _ =>
    split
    · rfl
    · next hz => exact absurd (congrArg (6 + ·) (optSize_present hz 1)).symm h
  · rfl

theorem decodeStoreSalvo_badLength (h : body.length ≠ 2 + 3 * (body.getD 1 0).toNat) :
    decodeStoreSalvo tag body = .badLength := by
  unfold decodeStoreSalvo
  split
  · next salvo count rest =>
    refine if_neg (fun hrest => h ?_)
    have hn : (salvo :: count :: rest).getD 1 0 = count := rfl
    rw [hn, List.length_cons, List.length_cons, hrest]
    omega
  · rfl

end

/-- The size 11.3 gives the body of each request kind, by the body's own count and presence bytes. -/
def requestSizes (body : List Byte) : List (Byte × Nat) :=
  [(0x01, 0), (0x02, 0), (0x03, 0), (0x10, 3 + textSize (body.getD 2 0)), (0x11, 5 + textSize (body.getD 1 0)), (0x12, 1),
   (0x13, 2), (0x20, 7 + optSize (body.getD 5 0) 2), (0x21, 2), (0x22, 2), (0x28, 2), (0x29, 2), (0x2A, 1), (0x2B, 2),
   (0x2C, 5), (0x2D, 2), (0x30, 2 + 3 * (body.getD 1 0).toNat), (0x31, 1), (0x32, 4), (0x33, 1), (0x34, 1)] ++
  [(0x38, 6), (0x39, 1), (0x3A, 2), (0x3B, 5), (0x3C, 7), (0x3D, 1), (0x3E, 1), (0x40, 3), (0x41, 0), (0x42, 1),
   (0x43, 0), (0x48, 5), (0x49, 1), (0x4A, 2 + optSize (body.getD 1 0) 1), (0x50, 6 + optSize (body.getD 1 0) 1), (0x51, 2),
   (0x52, 1), (0x58, 2), (0x59, 22), (0x5A, 1)]

/-- Row by row: a body of another size is BAD_LENGTH. -/
theorem decodeRequest_badLength (tag : Byte) (body : List Byte) :
    ∀ row ∈ requestSizes body, body.length ≠ row.2 → decodeRequest ⟨row.1, tag, body⟩ = .badLength := by
  simp only [requestSizes, List.forall_mem_append, List.forall_mem_cons]
  exact ⟨⟨body0_badLength _, body0_badLength _, body0_badLength _, decodeSetSourceLabel_badLength,
    decodeSetDestConfig_badLength, body1_badLength _, body2_badLength _, decodeTake_badLength, body2_badLength _,
    body2_badLength _, body2_badLength _, body2_badLength _, body1_badLength _, body2_badLength _, body5_badLength _,
    body2_badLength _, decodeStoreSalvo_badLength, body1_badLength _, body4_badLength _, body1_badLength _,
    body1_badLength _, List.forall_mem_nil _⟩,
   ⟨decodeSetDomain_badLength, body1_badLength _, body2_badLength _, decodeSetTimecode_badLength, decodeArmMark_badLength,
    body1_badLength _, body1_badLength _, decodeSetVerify_badLength, body0_badLength _, body1_badLength _, body0_badLength _,
    decodeBindTile_badLength, body1_badLength _, decodeReadWall_badLength, decodeBindRecorder_badLength, body2_badLength _,
    body1_badLength _, body2_badLength _, decodeSetComparator_badLength, body1_badLength _, List.forall_mem_nil _⟩⟩

/-! ## The obligation -/

theorem rateCode_eq (p : Straps) : p.rateCode = if p.rate1 = false ∧ p.rate0 = true then 1
    else if p.rate1 = true ∧ p.rate0 = false then 2 else 0 := by
  unfold Straps.rateCode
  split
  · next h1 h0 => rw [h1, h0]; rfl
  · next h1 h0 => rw [h1, h0]; rfl
  · next h01 h10 => rw [if_neg (fun h => h01 h.1 h.2), if_neg (fun h => h10 h.1 h.2)]

/-- Settles O9: the cold reset's own record, the identity record, and a frame that decodes to no request. -/
theorem coldResetBadKindAndIdentity : Obligations.ColdResetBadKindAndIdentity := by
  unfold Obligations.ColdResetBadKindAndIdentity
  refine ⟨fun s m r1 r0 => ⟨_, rfl, rfl, fun i => look_mapTable ..⟩, fun s tag hl => ⟨fun kind body hkind hbody => ?_, ?_⟩,
    fun s kind tag body => ?_⟩
  · exact answers_of rfl rfl (wellFormed_badKind.2 ⟨hkind, hbody⟩) hl rfl
  · refine answers_of rfl rfl rfl hl (congrArg (fun l => (Reply.mk .ok l, s)) ?_)
    unfold identityRecord
    rw [rateCode_eq]
    rfl
  · intro count text present sizes size hmem hne
    have hdecode : decodeRequest ⟨kind, tag, body⟩ = .badLength := decodeRequest_badLength tag body (kind, size) hmem hne
    have heffect (u : State) : frameEffect ⟨kind, tag, body⟩ u = (⟨.badLength, []⟩, u) := by
      unfold frameEffect
      rw [hdecode]
      rfl
    refine ⟨heffect s, fun hhunt hl hbody => ?_⟩
    have hfree : (s.hearing .hunt).linkFree = true := hl
    rw [rxBytes_controlFrame hhunt kind tag hbody, frameComplete, if_pos hfree, answerRequest, heffect]
    unfold State.hearing
    rw [← hhunt]
    rfl

end Sys2Proof.Machine
end

section
/-! PROOF. READ ATTENTION (R177). -/

namespace Sys2Proof.Machine

open State

section
variable {α : Type} {n : Nat} {v : Vector (Option α) n} {d : Fin n} {x : α}

/-- The first pending flag is the lowest-numbered one that is set. -/
theorem firstPending_eq (hlow : ∀ e < d, look v e = none) (hd : look v d = some x) : firstPending v = some (d, x) := by
  unfold firstPending
  rw [entries_eq_map, List.findSome?_map, List.findSome?_eq_some_iff]
  have hlen : d.val < (List.finRange n).length := by rw [List.length_finRange]; exact d.isLt
  have hget : (List.finRange n)[d.val] = d := by rw [List.getElem_finRange]; rfl
  refine ⟨(List.finRange n).take d.val, d, (List.finRange n).drop (d.val + 1), ?_, ?_, fun e he => ?_⟩
  · conv_lhs => rw [← List.take_append_drop d.val (List.finRange n), List.drop_eq_getElem_cons hlen, hget]
  · simp only [Function.comp, hd, Option.map_some]
  · obtain ⟨k, hk, rfl⟩ := List.mem_take_iff_getElem.1 he
    have hlow : look v (List.finRange n)[k] = none := by
      refine hlow _ ?_
      rw [List.getElem_finRange]
      exact Fin.lt_def.2 (lt_of_lt_of_le hk (Nat.min_le_left ..))
    simp only [Function.comp, hlow, Option.map_none]

theorem firstPending_eq_none (h : ∀ e, look v e = none) : firstPending v = none := by
  unfold firstPending
  rw [entries_eq_map, List.findSome?_map, List.findSome?_eq_none_iff]
  intro e _
  simp only [Function.comp, h e, Option.map_none]

/-- Clearing a pending flag leaves one flag fewer. -/
theorem countPending_clear (hd : look v d = some x) : countPending (put v d none) + 1 = countPending v := by
  have hmem : look v d ∈ v.toList := Vector.mem_toList_iff.2 (Vector.getElem_mem d.isLt)
  have hget : v.toList[d.val]'(by simp) = look v d := by simp [look]
  have hpos : 0 < v.toList.countP Option.isSome := List.countP_pos_iff.2 ⟨_, hmem, by rw [hd]; rfl⟩
  unfold countPending put
  rw [← List.countP_eq_length_filter, ← List.countP_eq_length_filter, Vector.toList_set, List.countP_set (by simp), hget, hd]
  simp only [Option.isSome_some, Option.isSome_none, if_true, Bool.false_eq_true, if_false]
  omega

end

/-- READ ATTENTION delivers `d`, which was one of the instances. -/
theorem readAttention_delivers {s t : State} {tag : Byte} {cause : Nat} {detail : List Byte} (hl : s.linkFree = true)
    (h : s.nextDelivery = some ⟨cause, detail, t⟩) (ht : t.instances + 1 = s.instances) :
    Answers (.readAttention tag) s .ok (BitVec.ofNat 8 cause :: (e2 (s.instances - 1) ++ detail)) t := by
  refine answers_of rfl rfl rfl hl ?_
  have hcount : t.instances = s.instances - 1 := by omega
  unfold runReadAttention
  rw [h]
  dsimp only
  rw [hcount]
  rfl

/-! ## A cause that is clear delivers nothing -/

section
variable {s : State} {k : Nat}

theorem ClearTo.destFault (h : ClearTo s k) (hk : 1 ≤ k) : s.deliverDestFault = none := by
  obtain ⟨hclear, -⟩ := h
  unfold deliverDestFault
  rw [firstPending_eq_none (hclear hk)]
  rfl

theorem ClearTo.lockBreach (h : ClearTo s k) (hk : 2 ≤ k) : s.deliverLockBreach = none := by
  obtain ⟨-, hclear, -⟩ := h
  unfold deliverLockBreach
  rw [firstPending_eq_none (hclear hk)]
  rfl

theorem ClearTo.domain (h : ClearTo s k) (hk : 3 ≤ k) : s.deliverDomain = none := by
  obtain ⟨-, -, hclear, -⟩ := h
  unfold deliverDomain
  rw [firstPending_eq_none (hclear hk)]
  rfl

theorem ClearTo.recorder (h : ClearTo s k) (hk : 4 ≤ k) : s.deliverRecorder = none := by
  obtain ⟨-, -, -, hclear, -⟩ := h
  unfold deliverRecorder
  rw [firstPending_eq_none (hclear hk)]
  rfl

theorem ClearTo.wall (h : ClearTo s k) (hk : 5 ≤ k) : s.deliverWall = none := by
  obtain ⟨-, -, -, -, hclear, -⟩ := h
  unfold deliverWall
  rw [firstPending_eq_none (hclear hk)]
  rfl

theorem ClearTo.discrepancy (h : ClearTo s k) (hk : 6 ≤ k) : s.deliverDiscrepancy = none := by
  obtain ⟨-, -, -, -, -, hclear, -⟩ := h
  unfold deliverDiscrepancy
  rw [hclear hk]
  rfl

theorem ClearTo.released (h : ClearTo s k) (hk : 7 ≤ k) : s.deliverReleased = none := by
  obtain ⟨-, -, -, -, -, -, hclear, -⟩ := h
  unfold deliverReleased
  rw [firstPending_eq_none (hclear hk)]
  rfl

theorem ClearTo.comparator (h : ClearTo s k) (hk : 8 ≤ k) : s.deliverComparator = none := by
  obtain ⟨-, -, -, -, -, -, -, hclear, -⟩ := h
  unfold deliverComparator
  rw [firstPending_eq_none (hclear hk)]
  rfl

theorem ClearTo.report (h : ClearTo s k) (hk : 9 ≤ k) : s.deliverReport = none := by
  obtain ⟨-, -, -, -, -, -, -, -, hclear⟩ := h
  unfold deliverReport
  rw [hclear hk]
  rfl

end

/-- Settles O10: cause by cause, with the causes before it clear. -/
theorem readAttentionDeliversInPriorityOrder : Obligations.ReadAttentionDeliversInPriorityOrder := by
  unfold Obligations.ReadAttentionDeliversInPriorityOrder
  intro s tag hl out
  refine ⟨fun h => ?_, fun d x hlow hd => ?_, fun d x o h hlow hd => ?_, fun d l m h hlow hd => ?_,
    fun p o r h hlow hd => ?_, fun w l h hlow hd => ?_, fun r rest h hd => ?_, fun d p y h hlow hd => ?_,
    fun k b c h hlow hd => ?_, fun i rest k o h hreports htake hout => ?_⟩
  · refine answers_of rfl rfl rfl hl ?_
    simp only [runReadAttention, nextDelivery, h.destFault, h.lockBreach, h.domain, h.recorder, h.wall, h.discrepancy,
      h.released, h.comparator, h.report, Option.none_or, Nat.le_refl, Nat.reduceLeDiff]
    rfl
  · have count := countPending_clear hd
    refine readAttention_delivers hl (cause := 1) ?_ (by simp only [State.instances]; omega)
    simp only [nextDelivery, deliverDestFault, firstPending_eq hlow hd, Option.map_some, Option.some_or]
    rfl
  · have count := countPending_clear hd
    refine readAttention_delivers hl (cause := 2) ?_ (by simp only [State.instances]; omega)
    simp only [nextDelivery, h.destFault, Nat.le_refl, Option.none_or]
    simp only [deliverLockBreach, firstPending_eq hlow hd, Option.map_some, Option.some_or]
    rfl
  · have count := countPending_clear hd
    refine readAttention_delivers hl (cause := 3) ?_ (by simp only [State.instances]; omega)
    simp only [nextDelivery, h.destFault, h.lockBreach, Nat.le_refl, Nat.reduceLeDiff, Option.none_or]
    simp only [deliverDomain, firstPending_eq hlow hd, Option.map_some, Option.some_or]
    rfl
  · have count := countPending_clear hd
    refine readAttention_delivers hl (cause := 4) ?_ (by simp only [State.instances]; omega)
    simp only [nextDelivery, h.destFault, h.lockBreach, h.domain, Nat.le_refl, Nat.reduceLeDiff, Option.none_or]
    simp only [deliverRecorder, firstPending_eq hlow hd, Option.map_some, Option.some_or]
    rfl
  · have count := countPending_clear hd
    refine readAttention_delivers hl (cause := 5) ?_ (by simp only [State.instances]; omega)
    simp only [nextDelivery, h.destFault, h.lockBreach, h.domain, h.recorder, Nat.le_refl, Nat.reduceLeDiff, Option.none_or]
    simp only [deliverWall, firstPending_eq hlow hd, Option.map_some, Option.some_or]
    rfl
  · refine readAttention_delivers hl (cause := 6) ?_ (by simp only [State.instances, hd, List.length_cons]; omega)
    simp only [nextDelivery, h.destFault, h.lockBreach, h.domain, h.recorder, h.wall, Nat.le_refl, Nat.reduceLeDiff,
      Option.none_or]
    simp only [deliverDiscrepancy, hd, List.head?_cons, List.tail_cons, Option.map_some, Option.some_or]
    rfl
  · have count := countPending_clear hd
    refine readAttention_delivers hl (cause := 7) ?_ (by simp only [State.instances]; omega)
    simp only [nextDelivery, h.destFault, h.lockBreach, h.domain, h.recorder, h.wall, h.discrepancy, Nat.le_refl,
      Nat.reduceLeDiff, Option.none_or]
    simp only [deliverReleased, firstPending_eq hlow hd, Option.map_some, Option.some_or]
    rfl
  · have count := countPending_clear hd
    refine readAttention_delivers hl (cause := 8) ?_ (by simp only [State.instances]; omega)
    simp only [nextDelivery, h.destFault, h.lockBreach, h.domain, h.recorder, h.wall, h.discrepancy, h.released, Nat.le_refl,
      Nat.reduceLeDiff, Option.none_or]
    simp only [deliverComparator, firstPending_eq hlow hd, Option.map_some, Option.some_or]
    rfl
  · have hended : s.endedOf i = some ⟨s.tagOf i, k.dest, k.source, o⟩ := by
      unfold endedOf
      rw [htake, Option.bind_some, hout, Option.map_some]
    have report : eTag (s.tagOf i) ++ e1 k.dest.val ++ e2 k.source.val ++ e1 (outcomeCode o) =
        eReport ⟨s.tagOf i, k.dest, k.source, o⟩ := rfl
    rw [report]
    refine readAttention_delivers hl (cause := 9) ?_ (by simp only [State.instances, hreports, List.length_cons]; omega)
    simp only [nextDelivery, h.destFault, h.lockBreach, h.domain, h.recorder, h.wall, h.discrepancy, h.released, h.comparator,
      Nat.le_refl, Nat.reduceLeDiff, Option.none_or]
    simp only [deliverReport, hreports, List.head?_cons, Option.bind_some, hended, Option.map_some, setSlot, List.tail_cons]

end Sys2Proof.Machine
end

section
/-! PROOF. The wall links: tile content, what an event's hand-overs mark and send, the frames, the timeout, and the two
requests (R122 to R136). -/

namespace Sys2Proof.Machine

open State

/-! ## Tile content (R122, R123) -/

/-- Settles O12: `compose` by binding, and the colour by the highest count. -/
theorem tileContentFollowsItsBinding : Obligations.TileContentFollowsItsBinding := by
  unfold Obligations.TileContentFollowsItsBinding
  refine fun s => ⟨rfl, fun x => rfl, fun d => ?_, fun x => ?_⟩
  · intro caption marker
    refine ⟨fun x hx => ?_, fun hx => ?_⟩
    · simp only [compose, hx]
      rfl
    · simp only [compose, hx]
      rfl
  · intro r
    refine ⟨fun h => ?_, fun h h' => ?_, fun h h' h'' => ?_, fun h h' h'' => ?_⟩
    · exact if_pos h
    · exact (if_neg (by omega)).trans (if_pos h')
    · exact (if_neg (by omega)).trans ((if_neg (by omega)).trans (if_pos h''))
    · exact (if_neg (by omega)).trans ((if_neg (by omega)).trans (if_neg (by omega)))

/-! ## One wall written, then let send -/

/-- The record of a wall once its link has been let send (R127). -/
def State.sending (s : State) (r : WallRec) : WallRec :=
  if r.link = .idle ∧ r.queue ≠ [] then afterUpdate s r r.queue else r

theorem sendUpdate_setWall (s : State) (w : Wall) (r : WallRec) :
    (s.setWall w r).sendUpdate w = s.setWall w (s.sending r) := by
  unfold State.sending
  split
  · next h => exact sendUpdate_setWall_of_idle h.1 h.2
  · next h => exact sendUpdate_quiet _ _ (by rw [wall_setWall]; tauto)

theorem sending_quiet {s : State} {r : WallRec} (h : r.link ≠ .idle ∨ r.queue = []) : s.sending r = r :=
  if_neg (by tauto)

theorem sending_idle {s : State} {r : WallRec} (h : r.link = .idle) (hq : r.queue ≠ []) :
    s.sending r = afterUpdate s r r.queue := if_pos ⟨h, hq⟩

/-- What a link sends does not depend on the wall records, nor on what has been handed over. -/
theorem sending_congr {s t : State} {x : Vector WallRec 8} {l : List Handed} (h : t = { s with walls := x, handed := l })
    (r : WallRec) : t.sending r = s.sending r := by
  subst h
  have hcompose : ∀ b : Binding, ({ s with walls := x, handed := l } : State).compose b = s.compose b
    | .none => rfl
    | .source _ => rfl
    | .dest _ => rfl
  unfold State.sending afterUpdate
  simp only [hcompose]

theorem afterUpdate_congr {s t : State} {x : Vector WallRec 8} {l : List Handed} (h : t = { s with walls := x, handed := l })
    (r : WallRec) (q : List Tile) : afterUpdate t r q = afterUpdate s r q := by
  subst h
  have hcompose : ∀ b : Binding, ({ s with walls := x, handed := l } : State).compose b = s.compose b
    | .none => rfl
    | .source _ => rfl
    | .dest _ => rfl
  unfold afterUpdate
  simp only [hcompose]

theorem refreshed_eq (r : WallRec) : refreshed r = enqueueTiles r.queue (r.tilesWhere (fun b => decide (b ≠ .none))) := by
  unfold refreshed enqueueTiles WallRec.tilesWhere
  rw [filter_entries, List.filter_filter]
  exact congrArg _ (List.filter_congr fun x _ => Bool.and_comm _ _)

/-- Walls served one after another, each by a step that rewrites its own record. -/
theorem foldl_setWall {s : State} {f : WallRec → WallRec} {step : State → Wall → State}
    (hstep : ∀ t w, t = { s with walls := t.walls } → step t w = t.setWall w (f (t.wall w))) {l : List Wall} (hl : l.Nodup)
    (t : State) (ht : t = { s with walls := t.walls }) :
    l.foldl step t = { s with walls := (l.foldl step t).walls } ∧
    ∀ w, (l.foldl step t).wall w = if w ∈ l then f (t.wall w) else t.wall w := by
  induction l generalizing t with
  | nil => exact ⟨ht, fun w => (if_neg List.not_mem_nil).symm⟩
  | cons v l ih =>
    obtain ⟨hv, hl⟩ := List.nodup_cons.1 hl
    have hone := hstep t v ht
    have hframe : step t v = { s with walls := (step t v).walls } := by
      rw [hone]
      exact congrArg (fun u : State => u.setWall v (f (t.wall v))) ht
    obtain ⟨hrest, hwalls⟩ := ih hl _ hframe
    refine ⟨hrest, fun w => (hwalls w).trans ?_⟩
    rw [hone]
    by_cases hw : w = v
    · subst hw
      rw [if_neg hv, if_pos List.mem_cons_self, wall_setWall]
    · rw [wall_setWall_other _ _ hw]
      simp only [List.mem_cons, hw, false_or]

/-! ## What an event hands over (R124, R125, R127) -/

theorem marks_iff (s : State) (b : Binding) : s.marks s.handed b = true ↔
    match b with
    | .none => False
    | .source x => .source x ∈ s.handed
    | .dest d => .dest d ∈ s.handed ∨ ∃ x, (s.dest d).source = some x ∧ .source x ∈ s.handed := by
  cases b with
  | none => simp [marks]
  | source x => simp [marks]
  | dest d => cases h : (s.dest d).source <;> simp [marks, h]

/-- Settles O13: the walls are served one after another, and none looks at another's record. -/
theorem handedObjectsMarkTilesAndIdleLinksSend : Obligations.HandedObjectsMarkTilesAndIdleLinksSend := by
  unfold Obligations.HandedObjectsMarkTilesAndIdleLinksSend
  intro s hhanded
  have hsettle : s.settleWalls = (List.finRange 8).foldl (fun t w => (t.markWall s.handed w).sendUpdate w)
      { s with handed := [] } := if_neg hhanded
  have hstep (t : State) (w : Wall) (ht : t = { ({ s with handed := [] } : State) with walls := t.walls }) :
      (t.markWall s.handed w).sendUpdate w = t.setWall w (s.sending { t.wall w with
        queue := enqueueTiles (t.wall w).queue ((t.wall w).tilesWhere (s.marks s.handed)) }) := by
    have hmarks : t.marks s.handed = s.marks s.handed := by
      rw [ht]
      exact funext fun b => by cases b <;> rfl
    unfold markWall
    rw [hmarks, sendUpdate_setWall, sending_congr (s := s) (l := []) ht]
  obtain ⟨hframe, hwall⟩ := foldl_setWall (s := { s with handed := [] })
    (f := fun r => s.sending { r with queue := enqueueTiles r.queue (r.tilesWhere (s.marks s.handed)) }) hstep
    (List.nodup_finRange 8) { s with handed := [] } rfl
  rw [← hsettle] at hframe hwall
  refine ⟨hframe, fun w => ?_⟩
  intro r marked
  have hw := (hwall w).trans (if_pos (List.mem_finRange w))
  refine ⟨r.tilesWhere (s.marks s.handed), ?_, fun x => ?_, ?_⟩
  · unfold WallRec.tilesWhere
    rw [filter_entries]
    exact (List.pairwise_lt_finRange 64).filter _
  · unfold WallRec.tilesWhere
    rw [filter_entries, List.mem_filter]
    exact (and_iff_right (List.mem_finRange x)).trans (marks_iff s _)
  · intro q
    have hq : enqueueTiles r.queue (r.tilesWhere (s.marks s.handed)) = q := by
      refine congrArg (r.queue ++ ·) (List.filter_congr fun x _ => ?_)
      rw [List.contains_eq_mem, decide_not]
    have hsent : s.settleWalls.wall w = s.sending { r with queue := q } := by
      rw [← hq]
      exact hw
    exact ⟨fun h => hsent.trans (sending_quiet h), fun hidle hne => hsent.trans (sending_idle hidle hne)⟩

/-! ## Frames and the timeout (R128 to R131) -/

theorem wallHello_sending (s : State) (w : Wall) :
    s.wallHello w = (s.flagWall w .idle).setWall w (s.sending { s.wall w with
      outstanding := none, queue := refreshed (s.wall w), link := .idle }) := by
  rw [wallHello_eq, sendUpdate_setWall, refreshed_eq]
  rfl

theorem ackDue_iff (s : State) (w : Wall) : s.ackDue w = true ↔
    ∃ f, (s.wall w).outstanding = some f ∧ (s.wall w).link = .awaitAck ∧ 20000 ≤ (s.now - f.sentAt).toNat := by
  unfold ackDue
  split
  · next f hf =>
    rw [Bool.and_eq_true, decide_eq_true_eq, decide_eq_true_eq]
    refine ⟨fun h => ⟨f, hf, h⟩, fun ⟨g, hg, h⟩ => ?_⟩
    obtain rfl : f = g := Option.some.inj (hf.symm.trans hg)
    exact h
  · next hnone => exact ⟨fun h => (Bool.false_ne_true h).elim, fun ⟨f, hf, _⟩ => nomatch hnone.symm.trans hf⟩

/-- Settles O15: an ACK, the timeout and HELLO, by the link's state and its outstanding frame. -/
theorem wallFramesAndTimeouts : Obligations.WallFramesAndTimeouts := by
  unfold Obligations.WallFramesAndTimeouts
  refine ⟨fun s w n => ?_, fun s w => ?_⟩
  · intro r
    refine ⟨fun h => ?_, fun f hlink hout hn => ?_⟩
    · refine congrArg _ (if_neg (fun ha => ?_))
      unfold awaited at ha
      split at ha
      · next hlink =>
        obtain ⟨f, hf, hn⟩ := Option.map_eq_some_iff.1 ha
        exact h.elim (fun hne => hne hlink) (fun hne => hne f hf hn)
      · cases ha
    · have ha : s.awaited w = some n := by
        unfold awaited
        rw [if_pos hlink, hout, ← hn]
        rfl
      have hack : exec (.ack w n) s = .next (s.setWall w (s.sending { r with outstanding := none, link := .idle })) :=
        congrArg _ ((if_pos ha).trans (sendUpdate_setWall ..))
      refine ⟨fun hq => ?_, fun hq => ?_⟩
      · rw [hack, sending_quiet (r := { r with outstanding := none, link := .idle }) (.inr hq)]
        rfl
      · rw [hack, sending_idle (r := { r with outstanding := none, link := .idle }) rfl hq]
        rfl
  · intro r
    refine ⟨fun f hlink hout => ⟨fun hage => ?_, fun hage => ?_⟩, fun h => ?_, ?_⟩
    · exact congrArg _ (if_pos ((ackDue_iff s w).2 ⟨f, hout, hlink, hage⟩))
    · refine congrArg _ (if_neg (fun hdue => ?_))
      obtain ⟨g, hg, -, hlate⟩ := (ackDue_iff s w).1 hdue
      obtain rfl : f = g := Option.some.inj (hout.symm.trans hg)
      exact Nat.not_le.2 hage hlate
    · refine congrArg _ (if_neg (fun hdue => ?_))
      obtain ⟨g, hg, hlink, -⟩ := (ackDue_iff s w).1 hdue
      exact h.elim (fun hne => hne hlink) (fun hnone => nomatch hnone.symm.trans hg)
    · intro flags
      refine ⟨fun hq => ?_, fun hq => ?_⟩
      · refine congrArg _ ((wallHello_sending s w).trans ?_)
        rw [sending_quiet (.inr hq), hq]
        rfl
      · refine congrArg _ ((wallHello_sending s w).trans ?_)
        rw [sending_idle rfl hq]
        rfl

/-! ## REFRESH WALL and READ WALL (R135, R136) -/

theorem refreshSend_eq (s : State) (w : Wall) :
    (s.refreshWall w).sendUpdate w = s.setWall w (s.sending { s.wall w with
      queue := refreshed (s.wall w), link := if (s.wall w).link = .stalled then .idle else (s.wall w).link }) := by
  rw [refreshWall_eq, sendUpdate_setWall, refreshed_eq]

theorem runRefreshWall_read (s : State) (w : Wall) {r : WallRec}
    (h : (s.refreshWall w).sendUpdate w = s.setWall w r) :
    runRefreshWall (num8 w) s = (⟨.ok, e1 (wallStateCode r.link) ++ e1 r.queue.length⟩, s.setWall w r) := by
  simp only [runRefreshWall, below_num8_8, h, wall_setWall]
  rfl

theorem readWall_answers {s : State} {tag wall : Byte} {tile : OptField Byte} {status : Status} {tail : List Byte}
    (hfits : optFits tile = true) (hl : s.linkFree = true) (h : runReadWall wall tile s = (⟨status, tail⟩, s)) :
    Answers (.readWall tag wall tile) s status tail s := by
  cases tile with
  | none => exact answers_of rfl rfl hfits hl h
  | some field => exact answers_of rfl rfl hfits hl h

theorem asOpt_bad {α β : Type} (read : α → Option β) {flag : Byte} {x : α} (h : flag ≠ 1 ∨ read x = none) :
    asOpt read (some (flag, x)) = none := by
  by_cases hf : flag = 1
  · have hread : read x = none := h.resolve_left (fun hne => hne hf)
    exact (if_pos hf).trans (by rw [hread]; rfl)
  · exact if_neg hf

theorem runReadWall_bad_tile {tile : OptField Byte} (h : asOpt (fun b : Byte => below 64 b.toNat) tile = none) (w : Wall)
    (s : State) : runReadWall (num8 w) tile s = (.badField 2, s) := by
  simp only [runReadWall, below_num8_8, h]

theorem runReadWall_read {tile : OptField Byte} {x : Option Tile}
    (h : asOpt (fun b : Byte => below 64 b.toNat) tile = some x) (w : Wall) (s : State) :
    runReadWall (num8 w) tile s = (.ok (readWallResult s w x), s) := by
  simp only [runReadWall, below_num8_8, h]

/-- Settles O16: a refresh by the link's state, and the snapshot item by item. -/
theorem refreshWallAndReadWall : Obligations.RefreshWallAndReadWall := by
  unfold Obligations.RefreshWallAndReadWall
  refine fun s tag hl => ⟨fun wall hwall => ?_, fun w => ?_, fun wall tile hfits hwall => ?_, fun w flag tile hflag hbad => ?_,
    fun w x => ?_⟩
  · exact answers_of rfl rfl rfl hl (by simp only [runRefreshWall, below_of_ge hwall]; rfl)
  · intro r q
    have answered {x : WallRec} (h : (s.refreshWall w).sendUpdate w = s.setWall w x) :
        Answers (.refreshWall tag (num8 w)) s .ok (e1 (wallStateCode x.link) ++ e1 x.queue.length) (s.setWall w x) :=
      answers_of rfl rfl rfl hl (runRefreshWall_read s w h)
    have sent {l : WallState} (h : (if r.link = .stalled then .idle else r.link) = l) :
        (s.refreshWall w).sendUpdate w = s.setWall w (s.sending { r with queue := q, link := l }) := by
      rw [← h]
      exact refreshSend_eq s w
    have becomes_idle (hlink : r.link = .idle ∨ r.link = .stalled) :
        (if r.link = .stalled then .idle else r.link) = WallState.idle := by
      obtain h | h := hlink <;> rw [h] <;> rfl
    refine ⟨fun hlink => ?_, fun hlink hq => ?_, fun hlink hq => ?_⟩
    · have hne : r.link ≠ .stalled ∧ r.link ≠ .idle := by
        obtain h | h := hlink <;> rw [h] <;> decide
      exact answered ((sent (if_neg hne.1)).trans (congrArg (s.setWall w) (sending_quiet (.inl hne.2))))
    · have h := answered ((sent (becomes_idle hlink)).trans (congrArg (s.setWall w) (sending_quiet (.inr hq))))
      rw [hq] at h
      exact h
    · exact answered ((sent (becomes_idle hlink)).trans (congrArg (s.setWall w) (sending_idle rfl hq)))
  · exact readWall_answers hfits hl (by simp only [runReadWall, below_of_ge hwall]; rfl)
  · have hbad : flag ≠ 1 ∨ below 64 tile.toNat = none := hbad.imp_right below_of_ge
    refine readWall_answers (bne_iff_ne.2 hflag) hl ?_
    exact runReadWall_bad_tile (asOpt_bad _ hbad) w s
  · intro r
    have hread : asOpt (fun b : Byte => below 64 b.toNat) (x.map (fun y => (1, num8 y))) = some x := by
      rw [asOpt_map (fun b : Byte => below 64 b.toNat) num8 id (fun y => below_num8_64 y), Option.map_id_fun, id_eq]
    refine readWall_answers (by cases x <;> rfl) hl ((runReadWall_read hread w s).trans ?_)
    refine congrArg (fun l => (Reply.mk .ok l, s)) ?_
    simp only [readWallResult, toList_eq_map_look, List.flatMap_map, List.append_assoc]
    have frame : eOpt (fun f : OutFrame => [f.number] ++ (e1 f.tiles.length ++ (f.tiles.flatMap (fun t => e1 t.val) ++
        eTime f.sentAt))) r.outstanding =
        match r.outstanding with
        | none => [0]
        | some f => [1, f.number] ++ (e1 f.tiles.length ++ (f.tiles.flatMap (fun y => e1 y.val) ++ bytes32 f.sentAt)) := by
      cases r.outstanding <;> rfl
    rw [frame]
    cases x <;> rfl

end Sys2Proof.Machine
end

section
/-! PROOF. What a change of lock state and the closing of an idle domain write (R77, R80, R81, R90). -/

namespace Sys2Proof.Machine

open State

/-! ## A change of lock state -/

theorem switching_iff (l : LockState) : l.switching = true ↔ l = .locked ∨ l = .holdover := by
  cases l <;> simp [LockState.switching]

theorem stops_iff (r : DomRec) (l : LockState) : r.stops l = true ↔
    ((r.lock = .locked ∨ r.lock = .holdover) ∧ ¬ (l = .locked ∨ l = .holdover)) ∨ (r.lock = .closed ∧ l = .acquiring) := by
  unfold DomRec.stops
  rw [Bool.or_eq_true, Bool.and_eq_true, Bool.and_eq_true, decide_eq_true_eq, decide_eq_true_eq, Bool.not_eq_true',
    ← Bool.not_eq_true, switching_iff, switching_iff]

/-- The flags once domain `d`'s lock state has become `l`. -/
def State.lockFlags (s : State) (d : Dom) (l : LockState) : Flags :=
  { s.flags with domain := put s.flags.domain d (some (l, false)) }

theorem setLock_of_not_stops {s : State} {d : Dom} {l : LockState} (h : (s.dom d).stops l = false) :
    s.setLock d l = { s with
      domains := put s.domains d ((s.dom d).locked l (s.dom d).stopMoment), flags := s.lockFlags d l } := by
  unfold setLock
  dsimp only
  refine (if_neg ?_).trans rfl
  exact Bool.eq_false_iff.1 h

/-- The slots once the waiting takes of a stopped domain have started to age again (R81). -/
def State.stoppedSlots (s : State) (d : Dom) : Vector SlotRec 128 :=
  mapTable (fun _ r => r.stopAge s.now (fun k => decide (s.takeDomain k = d))) s.pool.slots

theorem setLock_of_stops {s : State} {d : Dom} {l : LockState} (h : (s.dom d).stops l = true) :
    s.setLock d l = { s with
      domains := put s.domains d ((s.dom d).locked l s.now), flags := s.lockFlags d l
      pool := { s.pool with slots := s.stoppedSlots d }
      bus := { s.bus with absent := s.bus.absent ++ (s.untimed d).map (fun i => (s.tagOf i, s.now)) } } := by
  unfold setLock
  dsimp only
  refine (if_pos h).trans ?_
  unfold domainStop setDom
  simp only [flagDomain, State.dom, look_put_same, put_put]
  rfl

/-! ## An idle domain -/

section
variable {s : State} {d : Dom}

theorem idle_take (h : s.activeDomain d = false) {i : Slot} {k : Take} (hk : (s.slot i).take = some k)
    (hd : (s.dest k.dest).domain = d) : k.state = .done := by
  by_contra hne
  refine Bool.false_ne_true (h.symm.trans ((activeDomain_iff s d).2 ⟨i, k, hk, hd, ?_⟩))
  cases hs : k.state with
  | done => exact absurd hs hne
  | _ => decide

/-- A stop finds no waiting take of an idle domain to age. -/
theorem stoppedSlots_idle (h : s.activeDomain d = false) : s.stoppedSlots d = s.pool.slots := by
  refine table_ext fun i => ?_
  unfold State.stoppedSlots
  rw [look_mapTable]
  unfold SlotRec.stopAge
  split
  · next k hk =>
    refine if_neg (fun hwait => ?_)
    rw [Bool.and_eq_true, decide_eq_true_eq] at hwait
    obtain ⟨hw, hd⟩ := hwait
    rw [idle_take h hk hd] at hw
    cases hw
  · rfl

theorem untimed_idle (h : s.activeDomain d = false) : s.untimed d = [] := by
  refine List.eq_nil_iff_forall_not_mem.2 (fun i hi => ?_)
  obtain ⟨⟨k, hk, ho, hd⟩, -⟩ := mem_untimed.1 hi
  rw [idle_take h hk hd] at ho
  cases ho

/-- The record of a domain that has become CLOSED at `now` (R90). -/
def DomRec.closedAt (r : DomRec) (now : Time) : DomRec :=
  { r with
    lock := .closed, closing := none, settleProgress := 0, holdoverCount := 0, lossPending := false
    stopMoment := if r.lock = .locked ∨ r.lock = .holdover then now else r.stopMoment }

/-- The state once the domain has become CLOSED. -/
def State.closedDom (s : State) (d : Dom) : State :=
  { s with
    domains := put s.domains d ((s.dom d).closedAt s.now)
    flags := { s.flags with domain := put s.flags.domain d (some (.closed, false)) } }

theorem closeIfEmpty_idle (h : s.activeDomain d = false) : s.closeIfEmpty d = s.closedDom d := by
  have hswitch : (s.dom d).stops .closed = true ↔ (s.dom d).lock = .locked ∨ (s.dom d).lock = .holdover := by
    rw [stops_iff]
    simp
  unfold State.closeIfEmpty State.closedDom DomRec.closedAt
  rw [h, if_neg Bool.false_ne_true]
  cases hs : (s.dom d).stops .closed with
  | true =>
    rw [setLock_of_stops hs, stoppedSlots_idle h, untimed_idle h, if_pos (hswitch.1 hs), List.map_nil, List.append_nil]
    simp only [setDom, State.dom, look_put_same, put_put]
    rfl
  | false =>
    rw [setLock_of_not_stops hs, if_neg (fun hl => Bool.false_ne_true (hs.symm.trans (hswitch.2 hl)))]
    simp only [setDom, State.dom, look_put_same, put_put]
    rfl

end

end Sys2Proof.Machine
end

section
/-! PROOF. RESTART (R180, R181): the closing domains of an empty pool become CLOSED, and each wall is refreshed. -/

namespace Sys2Proof.Machine

open State

/-! ## A closing domain of an empty pool -/

/-- The pool holds no take, and its frame queues are empty. -/
structure PoolEmpty (s : State) : Prop where
  free : ∀ i, (s.slot i).take = none
  queue : ∀ d, s.queue d = []

theorem PoolEmpty.congr {s t : State} (e : t.pool = s.pool) (h : PoolEmpty s) : PoolEmpty t := by
  refine ⟨fun i => ?_, fun d => ?_⟩
  · unfold State.slot
    rw [e]
    exact h.free i
  · unfold State.queue
    rw [e]
    exact h.queue d

theorem PoolEmpty.activeDomain {s : State} (h : PoolEmpty s) (d : Dom) : s.activeDomain d = false := by
  refine Bool.eq_false_iff.2 (fun ha => ?_)
  obtain ⟨i, k, hk, -⟩ := (activeDomain_iff s d).1 ha
  rw [h.free i] at hk
  cases hk

theorem PoolEmpty.serveClosing {s : State} (h : PoolEmpty s) (d : Dom) :
    s.serveClosing d = if (s.dom d).closing.isSome then s.closedDom d else s := by
  rw [serveClosing_of_empty (h.queue d), closeIfEmpty_idle (h.activeDomain d)]

/-- Domains served one after another, the pool empty: each closing one becomes CLOSED. -/
theorem PoolEmpty.foldl_serveClosing {s : State} (h : PoolEmpty s) {l : List Dom} (hl : l.Nodup) :
    let t := l.foldl State.serveClosing s
    t = { s with domains := t.domains, flags := { s.flags with domain := t.flags.domain } } ∧
    ∀ d, (t.dom d = if d ∈ l ∧ (s.dom d).closing.isSome then (s.dom d).closedAt s.now else s.dom d) ∧
      (look t.flags.domain d = if d ∈ l ∧ (s.dom d).closing.isSome then some (.closed, false) else look s.flags.domain d) := by
  induction l generalizing s with
  | nil => exact ⟨rfl, fun d => ⟨(if_neg (fun h => List.not_mem_nil h.1)).symm, (if_neg (fun h => List.not_mem_nil h.1)).symm⟩⟩
  | cons e l ih =>
    obtain ⟨he, hl⟩ := List.nodup_cons.1 hl
    rw [List.foldl_cons, h.serveClosing e]
    by_cases hc : (s.dom e).closing.isSome = true
    · rw [if_pos hc]
      obtain ⟨hframe, hdoms⟩ := ih (s := s.closedDom e) (PoolEmpty.congr (s := s) rfl h) hl
      refine ⟨hframe, fun d => ?_⟩
      obtain ⟨hdom, hflag⟩ := hdoms d
      rw [hdom, hflag]
      by_cases hd : d = e
      · subst hd
        simp only [he, hc, false_and, if_false, List.mem_cons_self, and_self, if_true]
        exact ⟨look_put_same .., look_put_same ..⟩
      · have hkept : (s.closedDom e).dom d = s.dom d := look_put_other _ _ hd
        have hflagged : look (s.closedDom e).flags.domain d = look s.flags.domain d := look_put_other _ _ hd
        simp only [hkept, hflagged, List.mem_cons, hd, false_or]
        exact ⟨rfl, trivial⟩
    · rw [if_neg hc]
      obtain ⟨hframe, hdoms⟩ := ih h hl
      refine ⟨hframe, fun d => ?_⟩
      obtain ⟨hdom, hflag⟩ := hdoms d
      rw [hdom, hflag]
      have hiff : (d ∈ e :: l ∧ (s.dom d).closing.isSome = true) ↔ (d ∈ l ∧ (s.dom d).closing.isSome = true) := by
        refine ⟨fun ⟨hm, hs⟩ => ⟨(List.mem_cons.1 hm).resolve_left ?_, hs⟩, fun ⟨hm, hs⟩ => ⟨List.mem_cons_of_mem _ hm, hs⟩⟩
        rintro rfl
        exact hc hs
      simp only [hiff, and_self]

theorem PoolEmpty.serveClosings {s : State} (h : PoolEmpty s) :
    s.serveClosings = { s with
      domains := s.serveClosings.domains, flags := { s.flags with domain := s.serveClosings.flags.domain } } ∧
    ∀ d, (s.serveClosings.dom d = if (s.dom d).closing.isSome then (s.dom d).closedAt s.now else s.dom d) ∧
      (look s.serveClosings.flags.domain d =
        if (s.dom d).closing.isSome then some (.closed, false) else look s.flags.domain d) := by
  obtain ⟨hframe, hdoms⟩ := h.foldl_serveClosing (l := [0, 1, 2, 3]) (by decide)
  have hall (d : Dom) : d ∈ ([0, 1, 2, 3] : List Dom) := by revert d; decide
  simp only [hall, true_and] at hdoms
  exact ⟨hframe, hdoms⟩

/-! ## Every wall is refreshed -/

theorem refreshWalls_eq (s : State) :
    s.refreshWalls = { s with walls := s.refreshWalls.walls } ∧
    ∀ w, s.refreshWalls.wall w = s.sending { s.wall w with
      queue := refreshed (s.wall w), link := if (s.wall w).link = .stalled then .idle else (s.wall w).link } := by
  have hstep (t : State) (w : Wall) (ht : t = { s with walls := t.walls }) :
      (t.refreshWall w).sendUpdate w = t.setWall w (s.sending { t.wall w with
        queue := refreshed (t.wall w), link := if (t.wall w).link = .stalled then .idle else (t.wall w).link }) := by
    rw [refreshSend_eq, sending_congr (s := s) (l := s.handed) ht]
  obtain ⟨hframe, hwall⟩ := foldl_setWall (s := s) (f := fun r => s.sending { r with
    queue := refreshed r, link := if r.link = .stalled then .idle else r.link }) hstep (List.nodup_finRange 8) s rfl
  exact ⟨hframe, fun w => (hwall w).trans (if_pos (List.mem_finRange w))⟩

/-! ## The obligation -/

theorem restarted_empty (s : State) : PoolEmpty s.restarted :=
  ⟨fun i => by
    have : s.restarted.slot i = ⟨(s.slot i).gen, none, none⟩ := look_mapTable ..
    rw [this], restarted_queue s⟩

theorem restart_dest (r : DestRec) : r.restart = if r.output = .faulted then { r with output := .unknown } else r := by
  unfold DestRec.restart
  obtain ⟨name, domain, zone, role, source, output, reported⟩ := r
  cases output <;> rfl

/-- RESTART rewrites the working records, then the closing domains' records and flags, then the walls' records. -/
theorem restartAll_shape (s : State) : ∃ D F W,
    s.restartAll = { s.restarted with domains := D, flags := { Flags.reset with domain := F }, walls := W } ∧
    (∀ d, (look D d = if (s.dom d).closing.isSome then (s.dom d).closedAt s.now else s.dom d) ∧
      look F d = if (s.dom d).closing.isSome then some (.closed, false) else none) ∧
    ∀ w, look W w = s.restartAll.sending { s.wall w with
      queue := refreshed (s.wall w), link := if (s.wall w).link = .stalled then .idle else (s.wall w).link } := by
  obtain ⟨hclosings, hdom⟩ := (restarted_empty s).serveClosings
  obtain ⟨hwalls, hwall⟩ := refreshWalls_eq s.restarted.serveClosings
  have hrestart : s.restartAll = s.restarted.serveClosings.refreshWalls := rfl
  rw [← hrestart] at hwalls hwall
  have hsending := sending_congr (l := s.restarted.serveClosings.handed) hwalls
  generalize s.restarted.serveClosings = u at hclosings hdom hwalls hwall hsending
  refine ⟨u.domains, u.flags.domain, s.restartAll.walls, hwalls.trans (by rw [hclosings]; rfl), fun d => ?_, fun w => ?_⟩
  · obtain ⟨hd, hf⟩ := hdom d
    exact ⟨hd, hf.trans (by rw [show look s.restarted.flags.domain d = none from look_replicate ..]; rfl)⟩
  · have hkept : u.wall w = s.wall w := by
      rw [hclosings]
      rfl
    have := hwall w
    rw [hkept, ← hsending] at this
    exact this

/-- Settles O11: RESTART is the restarted records, then the closing domains, then the walls. -/
theorem restartRestartsTheWorkingState : Obligations.RestartRestartsTheWorkingState := by
  unfold Obligations.RestartRestartsTheWorkingState
  intro s tag hl
  obtain ⟨D, F, W, hshape, hdom, hwall⟩ := restartAll_shape s
  refine ⟨s.restartAll, answers_of rfl rfl rfl hl rfl, ?_⟩
  generalize s.restartAll = t at hshape hwall ⊢
  have hdests : t.dests = mapTable (fun _ r => r.restart) s.dests := congrArg State.dests hshape
  have hpool : t.pool = s.pool.restart := congrArg State.pool hshape
  have hprotects : t.registry.protects = Vector.replicate 256 none := congrArg (fun u : State => u.registry.protects) hshape
  have hbus : t.bus = s.bus.restart s.faulted := congrArg State.bus hshape
  have hports : t.ports = mapTable (fun _ r => r.restart) s.ports := congrArg State.ports hshape
  have hcmps : t.cmps = mapTable (fun _ r => r.restart) s.cmps := congrArg State.cmps hshape
  have hflags : t.flags = { Flags.reset with domain := F } := congrArg State.flags hshape
  have hdomains : t.domains = D := congrArg State.domains hshape
  have hwalls : t.walls = W := congrArg State.walls hshape
  have hdom (d : Dom) : (t.dom d = if (s.dom d).closing.isSome then (s.dom d).closedAt s.now else s.dom d) ∧
      look t.flags.domain d = if (s.dom d).closing.isSome then some (.closed, false) else none := by
    unfold State.dom
    rw [hdomains, hflags]
    exact hdom d
  have hwall (w : Wall) : t.wall w = t.sending { s.wall w with
      queue := refreshed (s.wall w), link := if (s.wall w).link = .stalled then .idle else (s.wall w).link } := by
    rw [← hwall w, ← hwalls]
    rfl
  refine ⟨?_, fun d => ?_, fun i => ?_, fun d => ?_, by rw [hpool]; rfl, by rw [hpool]; rfl, fun d => ?_, ?_, fun p => ?_,
    fun k => ?_, fun d hd => ?_, fun d hd => ?_, ?_, ?_, ?_, ?_, fun w => ?_⟩
  · rw [hdests, hpool, hprotects, hdomains, hbus, hwalls, hports, hcmps, hflags]
    exact hshape
  · unfold State.dest
    rw [hdests, look_mapTable]
    exact restart_dest _
  · unfold State.slot
    rw [hpool]
    exact look_mapTable ..
  · unfold State.queue
    rw [hpool]
    exact look_replicate ..
  · unfold State.protectOf
    rw [hprotects]
    exact look_replicate ..
  · rw [hbus]
    unfold Bus.restart State.faulted
    rw [filter_entries, List.filter_filter]
    exact congrArg (fun l => { s.bus with
      retry := Vector.replicate 4 [], absent := [], discrepancies := [], priority := s.bus.priority ++ l })
      (List.filter_congr fun d _ => Bool.and_comm _ _)
  · unfold State.port
    rw [hports]
    exact look_mapTable ..
  · unfold State.cmp
    rw [hcmps]
    exact look_mapTable ..
  · obtain ⟨hrecord, hflag⟩ := hdom d
    rw [hrecord, hflag, hd]
    exact ⟨rfl, rfl⟩
  · obtain ⟨hrecord, hflag⟩ := hdom d
    have hsome : (s.dom d).closing.isSome = true := Option.isSome_iff_ne_none.2 hd
    rw [hrecord, hflag, if_pos hsome, if_pos hsome]
    exact ⟨rfl, rfl⟩
  · intro d
    rw [hflags]
    exact ⟨look_replicate .., look_replicate .., look_replicate ..⟩
  · intro p
    rw [hflags]
    exact look_replicate ..
  · intro w
    rw [hflags]
    exact look_replicate ..
  · intro k
    rw [hflags]
    exact look_replicate ..
  · intro r
    have becomes_idle (hlink : r.link = .idle ∨ r.link = .stalled) :
        (if r.link = .stalled then .idle else r.link) = WallState.idle := by
      obtain h | h := hlink <;> rw [h] <;> rfl
    have sent {l : WallState} (h : (if r.link = .stalled then .idle else r.link) = l) :
        t.wall w = t.sending { r with queue := refreshed r, link := l } := by
      rw [← h]
      exact hwall w
    refine ⟨fun hlink => ?_, fun hlink => ⟨fun hq => ?_, fun hq => ?_⟩⟩
    · have hne : r.link ≠ .stalled ∧ r.link ≠ .idle := by
        obtain h | h := hlink <;> rw [h] <;> decide
      exact (sent (if_neg hne.1)).trans (sending_quiet (.inl hne.2))
    · have hempty : refreshed r = r.queue := hq.trans (List.append_eq_nil_iff.1 hq).1.symm
      refine ((sent (becomes_idle hlink)).trans (sending_quiet (.inr hq))).trans ?_
      rw [hempty]
    · exact (sent (becomes_idle hlink)).trans (sending_idle rfl hq)

end Sys2Proof.Machine
end

section
/-! PROOF. SET SOURCE LABEL and SET DEST CONFIG (R12, R16, R17). -/

namespace Sys2Proof.Machine

open State

/-! ## The fields read -/

theorem textOk_some (cs : Text) :
    textOk (some cs) = true ↔ cs.length ≤ 16 ∧ ∀ c ∈ cs, 0x20 ≤ c.toNat ∧ c.toNat ≤ 0x7E := by
  simp only [textOk, Bool.and_eq_true, decide_eq_true_eq, List.all_eq_true]

theorem textOk_bad {cs : Text} (h : 16 < cs.length ∨ ∃ c ∈ cs, c.toNat < 0x20 ∨ 0x7E < c.toNat) :
    textOk (some cs) = false := by
  refine Bool.eq_false_iff.2 (fun hok => ?_)
  obtain ⟨hlen, hchars⟩ := (textOk_some cs).1 hok
  obtain hlong | ⟨c, hc, hbad⟩ := h
  · omega
  · have := hchars c hc
    omega

theorem textOk_of {label : Option Text}
    (h : ∀ cs, label = some cs → cs.length ≤ 16 ∧ ∀ c ∈ cs, 0x20 ≤ c.toNat ∧ c.toNat ≤ 0x7E) : textOk label = true := by
  cases label with
  | none => rfl
  | some cs => exact (textOk_some cs).2 (h cs rfl)

theorem textFits_of {label : Option Text}
    (h : ∀ cs, label = some cs → cs.length ≤ 16 ∧ ∀ c ∈ cs, 0x20 ≤ c.toNat ∧ c.toNat ≤ 0x7E) : textFits label = true := by
  cases label with
  | none => rfl
  | some cs =>
    obtain ⟨hlen, -⟩ := h cs rfl
    exact decide_eq_true (by omega)

theorem asRole_bad {b : Byte} (h : 2 < b.toNat) : asRole b = none := by
  unfold asRole
  split
  · omega
  · omega
  · omega
  · rfl

theorem asRole_code {b : Byte} {role : Role}
    (h : (b = 0 ∧ role = .programme) ∨ (b = 1 ∧ role = .preview) ∨ (b = 2 ∧ role = .monitor)) : asRole b = some role := by
  obtain ⟨rfl, rfl⟩ | ⟨rfl, rfl⟩ | ⟨rfl, rfl⟩ := h <;> rfl

/-! ## A change of configuration (R12, R17) -/

/-- A source's record once the role of one of its destinations has changed (R12). -/
def SrcRec.reroled (r : SrcRec) (old new : Role) : SrcRec :=
  { r with
    programme := r.programme - (if old = .programme then 1 else 0) + (if new = .programme then 1 else 0)
    preview := r.preview - (if old = .preview then 1 else 0) + (if new = .preview then 1 else 0) }

theorem leave_enter (r : SrcRec) (old new : Role) :
    (r.leave (tallyShare old false)).enter (tallyShare new false) = r.reroled old new := by
  cases old <;> cases new <;> rfl

theorem changeRole_none {s : State} {d : Dest} (h : (s.dest d).source = none) (role : Role) :
    s.changeRole d role = s.setDest d { s.dest d with role := role } := by
  unfold changeRole
  simp only [h]
  rfl

theorem changeRole_some {s : State} {d : Dest} {x : Src} (h : (s.dest d).source = some x) (role : Role) :
    s.changeRole d role = { s with
      dests := put s.dests d { s.dest d with role := role }
      srcs := put s.srcs x ((s.src x).reroled (s.dest d).role role)
      handed := s.handed ++ if ((s.src x).reroled (s.dest d).role role).colour = (s.src x).colour then [] else [.source x] } := by
  unfold changeRole
  simp only [h, moveShare, recolour, src_setSrc, if_true, leave_enter]
  have hcolour (r : DestRec) : ((((s.setSrc x ((s.src x).leave (tallyShare (s.dest d).role false))).setSrc x
      ((s.src x).reroled (s.dest d).role role)).setDest d r).src x).colour =
      ((s.src x).reroled (s.dest d).role role).colour := congrArg SrcRec.colour (look_put_same ..)
  unfold handRecoloured
  rw [hcolour]
  split
  · simp [setSrc, setDest]
  · simp [setSrc, setDest, hand]

/-- An accepted SET DEST CONFIG for a destination with no source. -/
theorem configureDest_none {s : State} {d : Dest} (h : (s.dest d).source = none) (c : DestConfig) :
    configureDest s d c = { s with
      dests := put s.dests d { s.dest d with name := c.name, domain := c.domain, zone := c.zone, role := c.role }
      handed := s.handed ++ if c.name = (s.dest d).name then [] else [.dest d] } := by
  unfold configureDest
  rw [changeRole_none h]
  split <;> simp [setDest, hand, State.dest]

/-- An accepted SET DEST CONFIG for a destination with a source. -/
theorem configureDest_some {s : State} {d : Dest} {x : Src} (h : (s.dest d).source = some x) (c : DestConfig) :
    configureDest s d c = { s with
      dests := put s.dests d { s.dest d with name := c.name, domain := c.domain, zone := c.zone, role := c.role }
      srcs := put s.srcs x ((s.src x).reroled (s.dest d).role c.role)
      handed := s.handed ++ ((if ((s.src x).reroled (s.dest d).role c.role).colour = (s.src x).colour then []
        else [.source x]) ++ if c.name = (s.dest d).name then [] else [.dest d]) } := by
  unfold configureDest
  rw [changeRole_some h]
  by_cases hname : c.name = (s.dest d).name
  · rw [if_pos hname, if_pos hname, List.append_nil]
    simp [setDest, State.dest]
  · rw [if_neg hname, if_neg hname]
    simp [setDest, hand, State.dest]

/-! ## The requests -/

theorem setDestConfig_answers {s t : State} {tag dest domain zone role : Byte} {name : TextField} {status : Status}
    {tail : List Byte} (hfits : textFits name = true) (hl : s.linkFree = true)
    (h : runSetDestConfig dest name domain zone role s = (⟨status, tail⟩, t)) :
    Answers (.setDestConfig tag dest name domain zone role) s status tail t :=
  answers_of rfl rfl hfits hl h

theorem setSourceLabel_answers {s t : State} {tag : Byte} {source : U16} {label : TextField} {status : Status}
    {tail : List Byte} (hfits : textFits label = true) (hl : s.linkFree = true)
    (h : runSetSourceLabel source label s = (⟨status, tail⟩, t)) :
    Answers (.setSourceLabel tag source label) s status tail t :=
  answers_of rfl rfl hfits hl h

/-- A request whose name passes turns on its other fields. -/
theorem runSetDestConfig_named {name : Option Text} (h : textOk name = true) (d : Dest) (domain zone role : Byte) (s : State) :
    runSetDestConfig (num8 d) name domain zone role s =
      match below 4 domain.toNat, below 8 zone.toNat, asRole role with
      | none, _, _ => (.badField 3, s)
      | some _, none, _ => (.badField 4, s)
      | some _, some _, none => (.badField 5, s)
      | some m, some z, some r =>
        if m ≠ (s.dest d).domain ∧ s.activeDest d then (.refuse .destActive, s)
        else (.ok [], (configureDest s d ⟨name, m, z, r⟩).settleWalls) := by
  unfold runSetDestConfig
  rw [h, toFin_num8]
  exact if_neg Bool.noConfusion

/-- Settles O17: the fields in their order, and what an accepted request writes and hands over. -/
theorem labelAndDestConfigRequests : Obligations.LabelAndDestConfigRequests := by
  unfold Obligations.LabelAndDestConfigRequests
  refine ⟨fun s tag hl => ⟨fun source label hfits hsource => ?_, fun x cs hfits hbad => ?_, fun x label hok => ?_⟩,
    fun s tag d hl => ⟨fun cs domain zone role hfits hbad => ?_, fun name hok => ?_⟩⟩
  · exact setSourceLabel_answers hfits hl (by simp only [runSetSourceLabel, below_of_ge hsource]; rfl)
  · exact setSourceLabel_answers (decide_eq_true hfits) hl
      (by simp only [runSetSourceLabel, below_num16_512, textOk_bad hbad]; rfl)
  · exact setSourceLabel_answers (textFits_of hok) hl
      (by simp only [runSetSourceLabel, below_num16_512, textOk_of hok]; rfl)
  · exact setDestConfig_answers (decide_eq_true hfits) hl (if_pos (textOk_bad hbad))
  · have named := runSetDestConfig_named (textOk_of hok) d
    have answered {domain zone role : Byte} {status : Status} {tail : List Byte} {t : State} :=
      setDestConfig_answers (s := s) (t := t) (tag := tag) (dest := num8 d) (domain := domain) (zone := zone) (role := role)
        (status := status) (tail := tail) (textFits_of hok) hl
    refine ⟨fun domain zone role hdomain => answered ((named ..).trans ?_), fun m zone role hzone => answered ((named ..).trans ?_),
      fun m z role hrole => answered ((named ..).trans ?_), fun m z code role hrole => ?_⟩
    · simp only [below_of_ge hdomain]; rfl
    · simp only [below_num8_4, below_of_ge hzone]; rfl
    · simp only [below_num8_4, below_num8_8, asRole_bad hrole]; rfl
    · intro r nm dests
      have read : runSetDestConfig (num8 d) name (num8 m) (num8 z) code s =
          if m ≠ r.domain ∧ s.activeDest d then (.refuse .destActive, s)
          else (.ok [], (configureDest s d ⟨name, m, z, role⟩).settleWalls) := by
        rw [named]
        simp only [below_num8_4, below_num8_8, asRole_code hrole]
        rfl
      refine ⟨fun hm hactive => answered (read.trans (if_pos ⟨hm, hactive⟩)), fun hpass => ?_⟩
      have passed : ¬ (m ≠ r.domain ∧ s.activeDest d = true) := by
        rintro ⟨hm, hactive⟩
        exact hpass.elim hm (fun hidle => Bool.false_ne_true (hidle.symm.trans hactive))
      have accepted := read.trans (if_neg passed)
      refine ⟨fun hsource => answered (accepted.trans ?_), fun x hsource => answered (accepted.trans ?_)⟩
      · rw [configureDest_none hsource]
        rfl
      · rw [configureDest_some hsource]
        rfl

end Sys2Proof.Machine
end

section
/-! PROOF. TAKE, CANCEL TAKE and the hold limit (R38, R40, R41). -/

namespace Sys2Proof.Machine

open State

/-! ## What a tag names (R21) -/

section
variable {s : State} {g : Tag}

theorem named_of_live {k : Take} (h : NamesLive s g k) : s.named g = .live k := by
  obtain ⟨hk, hg⟩ := h
  unfold named
  simp only [hk, hg, if_true]

theorem named_of_ended {e : EndedTake} (h : NamesEnded s g e) : s.named g = .ended e := by
  obtain ⟨hp, htag, hnot⟩ := h
  unfold named
  cases hk : (s.slot g.slot).take with
  | none => simp only [hk, hp, htag, if_true]
  | some k =>
    have hg : (s.slot g.slot).gen ≠ g.gen := fun hg => hnot k ⟨hk, hg⟩
    simp only [hk, hp, hg, htag, if_true, if_false]

/-- A tag that names an ended take names the previous take of its slot, and no live one. -/
theorem named_ended {e : EndedTake} (h : s.named g = .ended e) : NamesEnded s g e := by
  have hnot (k : Take) : ¬ NamesLive s g k := fun hk => nomatch (named_of_live hk).symm.trans h
  suffices hprev : (s.slot g.slot).previous = some e ∧ e.tag = g from ⟨hprev.1, hprev.2, hnot⟩
  unfold named at h
  dsimp only at h
  split at h
  · split at h
    · cases h
    · split at h
      · next hp =>
        split at h
        · next htag => cases h; exact ⟨hp, htag⟩
        · cases h
      · cases h
  · next hp =>
    split at h
    · next htag => cases h; exact ⟨hp, htag⟩
    · cases h
  · cases h

theorem named_of_nothing (hlive : ∀ k, ¬ NamesLive s g k) (hended : ∀ e, ¬ NamesEnded s g e) : s.named g = .nothing := by
  cases h : s.named g with
  | live k => exact absurd (named_live h) (hlive k)
  | ended e => exact absurd (named_ended h) (hended e)
  | nothing => rfl

end

/-! ## TAKE (R40) -/

theorem take_answers {s t : State} {tag panel report : Byte} {dest source : U16} {condition : OptField U16} {status : Status}
    {tail : List Byte} (hfits : optFits condition = true) (hl : s.linkFree = true)
    (h : runTake dest source panel condition report s = (⟨status, tail⟩, t)) :
    Answers (.take tag dest source panel condition report) s status tail t := by
  cases condition with
  | none => exact answers_of rfl rfl hfits hl h
  | some field => exact answers_of rfl rfl hfits hl h

theorem asOpt_source (c : Option Src) :
    asOpt (fun v : U16 => below 512 v.toNat) (c.map (fun x => (1, num16 x))) = some c := by
  rw [asOpt_map (fun v : U16 => below 512 v.toNat) num16 id (fun x => below_num16_512 x), Option.map_id_fun, id_eq]

theorem optFits_source (c : Option Src) : optFits (c.map (fun x => ((1 : Byte), num16 x))) = true := by
  cases c <;> rfl

theorem runTake_bad_condition {condition : OptField U16} (h : asOpt (fun v : U16 => below 512 v.toNat) condition = none)
    (dest source : U16) (panel report : Byte) (s : State) :
    runTake dest source panel condition report s = (.badField 4, s) := by
  simp only [runTake, h]

theorem runTake_bad_report (c : Option Src) {report : Byte} (h : 1 < report.toNat) (dest source : U16) (panel : Byte)
    (s : State) : runTake dest source panel (c.map (fun x => (1, num16 x))) report s = (.badField 5, s) := by
  simp only [runTake, asOpt_source, asFlag_bad h]

theorem runTake_read (c : Option Src) (report : Bool) (dest source : U16) (panel : Byte) (s : State) :
    runTake dest source panel (c.map (fun x => (1, num16 x))) (if report then 1 else 0) s =
      admitRequest dest source panel c report s := by
  have hreport : asFlag (if report then 1 else 0) = some report := asFlag_code report
  simp only [runTake, asOpt_source, hreport]

/-- Settles O23: the fields, the admission checks, the admission. -/
theorem takeIsAdmittedOrRefused : Obligations.TakeIsAdmittedOrRefused := by
  unfold Obligations.TakeIsAdmittedOrRefused
  refine fun s tag dest source panel hl => ⟨fun flag v report hflag hbad => ?_, fun c report hreport => ?_, fun c report => ?_⟩
  · have hbad : flag ≠ 1 ∨ below 512 v.toNat = none := hbad.imp_right below_of_ge
    exact take_answers (bne_iff_ne.2 hflag) hl (runTake_bad_condition (asOpt_bad _ hbad) ..)
  · exact take_answers (optFits_source c) hl (runTake_bad_report c hreport ..)
  · intro request
    have answered {status : Status} {tail : List Byte} {t : State}
        (h : admitRequest dest source panel c report s = (⟨status, tail⟩, t)) : Answers request s status tail t :=
      take_answers (optFits_source c) hl ((runTake_read ..).trans h)
    have named (code : Status) : Reply.naming code dest.toNat = ⟨code, bytes16 dest⟩ := by
      have : e2 dest.toNat = bytes16 dest := congrArg bytes16 (BitVec.ofNat_toNat ..|>.trans (BitVec.setWidth_eq dest))
      exact congrArg (Reply.mk code) this
    refine ⟨fun code hfail => answered ?_, fun d x p hpass => ?_⟩
    · simp only [admitRequest, hfail, named]
    · intro q
      have hq : (⟨d, x, panelOrigin p, p, none, c, report⟩ : AdmitFields) = q := rfl
      refine ⟨fun hfull => answered ?_, fun a t hadmit => answered ?_⟩
      · simp only [admitRequest, hpass, hq, hfull, named]
      · simp only [admitRequest, hpass, hq, hadmit]
        cases a.superseded <;> rfl

/-! ## CANCEL TAKE and the hold limit (R38, R41) -/

section
variable {s : State} {g : Tag}

theorem runCancelTake_waiting {k : Take} (h : NamesLive s g k) (hw : k.state.waiting = true) :
    runCancelTake (num8 g.slot) g.gen s = (.ok [], (s.endTake g.slot .cancelled).settle) := by
  have hnamed : s.named ⟨g.slot, g.gen⟩ = .live k := named_of_live h
  simp only [runCancelTake, below_num8_128, hnamed, hw, if_true]

theorem runCancelTake_late {k : Take} (h : NamesLive s g k) (hw : k.state.waiting = false) :
    runCancelTake (num8 g.slot) g.gen s = (.refuse .tooLate, s) := by
  have hnamed : s.named ⟨g.slot, g.gen⟩ = .live k := named_of_live h
  simp only [runCancelTake, below_num8_128, hnamed, hw, Bool.false_eq_true, if_false]

theorem runCancelTake_ended {e : EndedTake} (h : NamesEnded s g e) :
    runCancelTake (num8 g.slot) g.gen s = (.refuse .tooLate, s) := by
  have hnamed : s.named ⟨g.slot, g.gen⟩ = .ended e := named_of_ended h
  simp only [runCancelTake, below_num8_128, hnamed]

theorem runCancelTake_nothing (hlive : ∀ k, ¬ NamesLive s g k) (hended : ∀ e, ¬ NamesEnded s g e) :
    runCancelTake (num8 g.slot) g.gen s = (.refuse .noTake, s) := by
  have hnamed : s.named ⟨g.slot, g.gen⟩ = .nothing := named_of_nothing hlive hended
  simp only [runCancelTake, below_num8_128, hnamed]

end

theorem not_switching_iff (l : LockState) : l.switching = false ↔ l ≠ .locked ∧ l ≠ .holdover := by
  cases l <;> simp [LockState.switching]

theorem holdLimitDue_iff (s : State) (i : Slot) : s.holdLimitDue i = true ↔ ∃ k, (s.slot i).take = some k ∧
    (k.state = .queued ∨ k.state = .held) ∧ (s.dom (s.dest k.dest).domain).lock ≠ .locked ∧
    (s.dom (s.dest k.dest).domain).lock ≠ .holdover ∧
    (s.dom (s.dest k.dest).domain).holdLimit * 1000 ≤ (s.now - k.ageStart).toNat := by
  unfold holdLimitDue
  rw [SlotRec.holds_iff]
  refine exists_congr fun k => and_congr_right fun _ => ?_
  simp only [Bool.and_eq_true, Bool.not_eq_true', decide_eq_true_eq, TakeState.waiting_iff, not_switching_iff, and_assoc]
  rfl

/-- Settles O24: what the tag names, and the age of a waiting take in a domain that does not switch. -/
theorem waitingTakesAreCancelledAndExpire : Obligations.WaitingTakesAreCancelledAndExpire := by
  unfold Obligations.WaitingTakesAreCancelledAndExpire
  refine fun s => ⟨fun tag hl => ⟨fun slot gen hslot => ?_, fun g => ?_⟩, fun i => ?_⟩
  · exact answers_of rfl rfl rfl hl (by simp only [runCancelTake, below_of_ge hslot]; rfl)
  · intro request
    have answered {status : Status} {tail : List Byte} {t : State}
        (h : runCancelTake (num8 g.slot) g.gen s = (⟨status, tail⟩, t)) : Answers request s status tail t :=
      answers_of rfl rfl rfl hl h
    refine ⟨fun k hk hstate => answered (runCancelTake_waiting hk ((TakeState.waiting_iff _).2 hstate)),
      fun k hk hstate => answered (runCancelTake_late hk ?_), fun e he => answered (runCancelTake_ended he),
      fun hlive hended => answered (runCancelTake_nothing hlive hended)⟩
    obtain h | h | h := hstate <;> rw [h] <;> rfl
  · intro aged
    refine ⟨fun k hk haged => congrArg _ (if_pos ((holdLimitDue_iff s i).2 ⟨k, hk, haged⟩)),
      fun h => congrArg _ (if_neg (fun hdue => ?_))⟩
    obtain ⟨k, hk, haged⟩ := (holdLimitDue_iff s i).1 hdue
    exact h k hk haged

end Sys2Proof.Machine
end

section
/-! PROOF. A foreign confirm on a LOCK (R55, R56, R57, R106). -/

namespace Sys2Proof.Machine

open State

theorem output_applyReport (s : State) (d : Dest) (x : Src) (o : ChangeOrigin) :
    ((s.applyReport d x o).dest d).output = (s.dest d).output.after .report := by
  by_cases hx : (s.dest d).source = some x
  · by_cases ho : (s.dest d).output.after .report = (s.dest d).output
    · rw [applyReport_unchanged o hx ho, ho]
    · rw [applyReport_output o hx ho]
      exact congrArg DestRec.output (look_put_same ..)
  · rw [applyReport_source_eq o hx]
    exact congrArg DestRec.output (look_put_same ..)

/-- After a report the output check turns on a fault alone (R26 check 4). -/
theorem outputCheck_applyReport (s : State) (d : Dest) (x : Src) (o : ChangeOrigin) :
    (s.applyReport d x o).outputCheck d = if (s.dest d).output = .faulted then some .destFaulted else none := by
  rw [outputCheck_eq, output_applyReport]
  cases (s.dest d).output <;> rfl

/-- The slot holds an active RESTORE take of the destination. -/
def RestoreIn (s : State) (d : Dest) (i : Slot) : Prop :=
  ∃ k, (s.slot i).take = some k ∧ k.dest = d ∧ k.origin = .restore ∧ k.state ∈ [TakeState.queued, .held, .issued, .retry]

theorem restore_holds_iff (s : State) (d : Dest) (i : Slot) :
    (s.slot i).holds (fun t => decide (t.dest = d) && decide (t.origin = .restore) && t.state.active) = true ↔
      RestoreIn s d i := by
  simp only [SlotRec.holds_iff, Bool.and_eq_true, decide_eq_true_eq, TakeState.active_iff, and_assoc]
  rfl

theorem restoreOf_eq_some {s : State} {d : Dest} {i : Slot} (h : RestoreIn s d i) (hlow : ∀ j < i, ¬ RestoreIn s d j) :
    s.restoreOf d = some i := by
  unfold restoreOf
  rw [findTake_eq_some]
  exact ⟨(restore_holds_iff s d i).2 h, fun j hj => Bool.eq_false_iff.2 (fun hh => hlow j hj ((restore_holds_iff s d j).1 hh))⟩

theorem restoreOf_eq_none {s : State} {d : Dest} (h : ∀ i, ¬ RestoreIn s d i) : s.restoreOf d = none := by
  unfold restoreOf
  refine Option.not_isSome_iff_eq_none.1 (fun hs => ?_)
  obtain ⟨i, hi⟩ := (findTake_isSome ..).1 hs
  exact h i ((restore_holds_iff s d i).1 hi)

theorem breach_lock {s t : State} {d : Dest} {q : Protect} {x : Src} {before : Option Src} {o : RestoreOutcome}
    (hq : s.protectOf d = some q) (hk : q.kind = .lock) (h : s.restore d q x before = (o, t)) :
    s.breach d x before = t.flagLockBreach d x o := by
  simp only [breach, hq, hk, h]

/-- Settles O27: the report is applied, and a LOCK's restore turns on the takes and the source before it. -/
theorem foreignConfirmOnALockIsABreach : Obligations.ForeignConfirmOnALockIsABreach := by
  unfold Obligations.ForeignConfirmOnALockIsABreach
  intro s d x u breach answers restores
  have hprotect : u.protectOf d = s.protectOf d := congrArg (fun r : Registry => look r.protects d) (by simp [u])
  have hpool : u.pool = s.pool := by simp [u]
  have hslot (i : Slot) : u.slot i = s.slot i := congrArg (fun p : Pool => look p.slots i) hpool
  have hrestores (i : Slot) : RestoreIn u d i ↔ restores i := by
    unfold RestoreIn
    rw [hslot]
  have answered {t : State} (h : u.breach d x (s.dest d).source = t) : answers t := congrArg (fun v : State => Host.Outcome.next v.settle) h
  refine ⟨fun hprot => answered ?_, fun q hq hk => ?_⟩
  · unfold State.breach
    rw [hprotect]
    cases hq : s.protectOf d with
    | none => rfl
    | some q => simp only [hprot q hq]
  · have breached {o : RestoreOutcome} {t : State} (h : u.restore d q x (s.dest d).source = (o, t)) : answers (breach o t) :=
      answered (breach_lock (hprotect.trans hq) hk h)
    refine ⟨fun hr => breached (if_pos hr), fun hr => ?_⟩
    have hr : ¬ q.restore = false := by rw [hr]; exact Bool.noConfusion
    refine ⟨fun i hi hlow => breached ?_, fun hnone => ?_⟩
    · have hfound := restoreOf_eq_some ((hrestores i).2 hi) (fun j hj hh => hlow j hj ((hrestores j).1 hh))
      refine (if_neg hr).trans ?_
      rw [hfound]
      exact congrArg (fun r : SlotRec => (RestoreOutcome.alreadyPending ⟨i, r.gen⟩, u)) (hslot i)
    · have hfound := restoreOf_eq_none (fun i hh => hnone i ((hrestores i).1 hh))
      refine ⟨fun hsrc => breached ?_, fun hsrc => breached ?_, fun y hsrc hne => ?_⟩
      · simp only [restore, if_neg hr, hfound, hsrc, if_true]
      · simp only [restore, if_neg hr, hfound, hsrc]
      · intro fields
        have hcheck : u.outputCheck d = _ := outputCheck_applyReport s d x .foreign
        have admitted : u.admitTake ⟨d, y, .restore, q.holder, none, none, false⟩ = u.admitTake fields := rfl
        refine ⟨fun hf => breached ?_, fun hf hfull => breached ?_, fun a t hf hadmit => breached ?_⟩
        · rw [if_pos hf] at hcheck
          simp only [restore, if_neg hr, hfound, hsrc, if_neg hne, admitOwn, hcheck]
        · rw [if_neg hf] at hcheck
          simp only [restore, if_neg hr, hfound, hsrc, if_neg hne, admitOwn, hcheck, admitted, hfull]
        · rw [if_neg hf] at hcheck
          simp only [restore, if_neg hr, hfound, hsrc, if_neg hne, admitOwn, hcheck, admitted, hadmit]

end Sys2Proof.Machine
end

section
/-! PROOF. STORE SALVO and ERASE SALVO (R62, R63). -/

namespace Sys2Proof.Machine

open State

/-! ## The entries sent -/

/-- Entries as a request carries them. -/
def sentEntries (l : List (Dest × Src)) : List (Byte × U16) := l.map (fun e => (num8 e.1, num16 e.2))

theorem readEntries_sent (l : List (Dest × Src)) (index : Nat) : readEntries index (sentEntries l) = .ok l := by
  induction l generalizing index with
  | nil => rfl
  | cons e l ih =>
    have hrest : readEntries (index + 2) (sentEntries l) = .ok l := ih _
    simp only [sentEntries, List.map_cons, readEntries, below_num16_512, toFin_num8]
    exact congrArg (Except.map _) hrest

theorem readEntries_bad (l : List (Dest × Src)) (index : Nat) {dest : Byte} {source : U16} (h : 511 < source.toNat)
    (rest : List (Byte × U16)) :
    readEntries index (sentEntries l ++ (dest, source) :: rest) = .error (index + 2 * l.length) := by
  induction l generalizing index with
  | nil => simp only [sentEntries, List.map_nil, List.nil_append, readEntries, below_of_ge h]; rfl
  | cons e l ih =>
    have hrest : readEntries (index + 2) (sentEntries l ++ (dest, source) :: rest) = .error (index + 2 + 2 * l.length) := ih _
    have hindex : index + 2 + 2 * l.length = index + 2 * (e :: l).length := by rw [List.length_cons]; omega
    simp only [sentEntries, List.map_cons, List.cons_append, readEntries, below_num16_512]
    rw [← hindex]
    exact congrArg (Except.map _) hrest

/-! ## A destination that occurs twice -/

theorem secondOccurrence_append {l : List Dest} {seen : List Dest} (hl : l.Nodup) (hseen : ∀ d ∈ l, d ∉ seen) (position : Nat)
    {e : Dest} (he : e ∈ l ∨ e ∈ seen) (rest : List Dest) :
    secondOccurrence seen position (l ++ e :: rest) = some (e, position + l.length) := by
  induction l generalizing seen position with
  | nil =>
    have hmem : seen.contains e = true := List.contains_iff_mem.2 (he.resolve_left List.not_mem_nil)
    simp only [List.nil_append, secondOccurrence, hmem, if_true]
    rfl
  | cons d l ih =>
    obtain ⟨hd, hl⟩ := List.nodup_cons.1 hl
    have hfresh : ¬ seen.contains d = true := fun h => hseen d List.mem_cons_self (List.contains_iff_mem.1 h)
    have hlater := ih (seen := d :: seen) hl
      (fun x hx hmem => (List.mem_cons.1 hmem).elim (fun h => hd (h ▸ hx)) (hseen x (List.mem_cons_of_mem _ hx)))
      (position + 1) (by simp only [List.mem_cons] at he ⊢; tauto)
    simp only [List.cons_append, secondOccurrence, hfresh, if_false, Bool.false_eq_true]
    rw [hlater, List.length_cons]
    exact congrArg (fun n => some (e, n)) (by omega)

theorem secondOccurrence_none {l : List Dest} {seen : List Dest} (hl : l.Nodup) (hseen : ∀ d ∈ l, d ∉ seen) (position : Nat) :
    secondOccurrence seen position l = none := by
  induction l generalizing seen position with
  | nil => rfl
  | cons d l ih =>
    obtain ⟨hd, hl⟩ := List.nodup_cons.1 hl
    have hfresh : ¬ seen.contains d = true := fun h => hseen d List.mem_cons_self (List.contains_iff_mem.1 h)
    have hlater := ih (seen := d :: seen) hl
      (fun x hx hmem => (List.mem_cons.1 hmem).elim (fun h => hd (h ▸ hx)) (hseen x (List.mem_cons_of_mem _ hx)))
      (position + 1)
    simp only [secondOccurrence, hfresh, if_false, Bool.false_eq_true]
    exact hlater

/-! ## The requests -/

section
variable {s : State} {n : Salvo}

theorem runStoreSalvo_bad_size {content : List (Byte × U16)} (h : content.length = 0 ∨ 64 < content.length) :
    runStoreSalvo (num8 n) content s = (.badField 2, s) := by
  simp only [runStoreSalvo, below_num8_32, h, if_true]

theorem runStoreSalvo_bad_entry {content : List (Byte × U16)} {index : Nat} (h : content.length ≠ 0) (h' : content.length ≤ 64)
    (hread : readEntries 4 content = .error index) : runStoreSalvo (num8 n) content s = (.badField index, s) := by
  have hsize : ¬ (content.length = 0 ∨ 64 < content.length) := by omega
  simp only [runStoreSalvo, below_num8_32, if_neg hsize, hread]

theorem runStoreSalvo_read {content : List (Byte × U16)} {l : List (Dest × Src)} (h : content.length ≠ 0)
    (h' : content.length ≤ 64) (hread : readEntries 4 content = .ok l) :
    runStoreSalvo (num8 n) content s = storeEntries n l s := by
  have hsize : ¬ (content.length = 0 ∨ 64 < content.length) := by omega
  simp only [runStoreSalvo, below_num8_32, if_neg hsize, hread]

theorem runStoreSalvo_sent {l : List (Dest × Src)} (h : l ≠ []) (h' : l.length ≤ 64) :
    runStoreSalvo (num8 n) (sentEntries l) s = storeEntries n l s := by
  have hlen : (sentEntries l).length = l.length := List.length_map _
  have hpos : l.length ≠ 0 := fun h0 => h (List.length_eq_zero_iff.1 h0)
  exact runStoreSalvo_read (by rwa [hlen]) (by rwa [hlen]) (readEntries_sent l 4)

theorem storeEntries_distinct {l : List (Dest × Src)} (hl : (l.map Prod.fst).Nodup) :
    storeEntries n l s = if s.salvoBusy n then (.refuse .salvoBusy, s)
      else if 1024 - s.memoryOthers n < l.length then (⟨.storeFull, e2 (1024 - s.memoryOthers n)⟩, s)
      else (.ok [], s.setSalvo n l) := by
  unfold storeEntries
  rw [secondOccurrence_none hl (fun d _ => List.not_mem_nil), memoryFor_eq]

end

/-- Settles O28: the fields, the entries, the double destination, and what a store or an erase leaves. -/
theorem salvosAreStoredAndErasedWhole : Obligations.SalvosAreStoredAndErasedWhole := by
  unfold Obligations.SalvosAreStoredAndErasedWhole
  intro s tag hl sent
  have stores {salvo : Byte} {content : List (Byte × U16)} {status : Status} {tail : List Byte} {t : State}
      (hlen : content.length ≤ 255) (h : runStoreSalvo salvo content s = (⟨status, tail⟩, t)) :
      Answers (.storeSalvo tag salvo content) s status tail t := answers_of rfl rfl (decide_eq_true hlen) hl h
  have erases {salvo : Byte} {status : Status} {tail : List Byte} {t : State}
      (h : runEraseSalvo salvo s = (⟨status, tail⟩, t)) : Answers (.eraseSalvo tag salvo) s status tail t :=
    answers_of rfl rfl rfl hl h
  have sent_length (l : List (Dest × Src)) : (sentEntries l).length = l.length := List.length_map _
  refine ⟨fun salvo content hlen hsalvo => stores hlen (by simp only [runStoreSalvo, below_of_ge hsalvo]; rfl),
    fun salvo hsalvo => erases (by simp only [runEraseSalvo, below_of_ge hsalvo]; rfl), fun n => ?_⟩
  intro stored others
  refine ⟨fun content hlen hsize => stores hlen (runStoreSalvo_bad_size (hsize.imp_left List.length_eq_zero_iff.2)),
    fun l dest source rest hlen hsource => ?_, fun l e rest hlen hnodup hmem => ?_, fun l hne hlen hnodup => ?_,
    fun hempty => erases ?_, fun hne => ⟨fun hbusy => erases ?_, fun hfree => erases ?_⟩⟩
  · have hcount : (sentEntries l ++ (dest, source) :: rest).length = l.length + (rest.length + 1) := by
      rw [List.length_append, sent_length, List.length_cons]
    exact stores (content := sentEntries l ++ (dest, source) :: rest) (by omega) (runStoreSalvo_bad_entry (by omega) (by omega) (readEntries_bad l 4 hsource rest))
  · have hcount : (l ++ e :: rest).length = l.length + (rest.length + 1) := by rw [List.length_append, List.length_cons]
    refine stores (content := sentEntries (l ++ e :: rest)) (by rw [sent_length]; omega) ?_
    rw [runStoreSalvo_sent (by simp) (by omega)]
    have htwice : secondOccurrence [] 1 ((l ++ e :: rest).map Prod.fst) = some (e.1, l.length + 1) := by
      rw [List.map_append, List.map_cons, secondOccurrence_append hnodup (fun d _ => List.not_mem_nil) 1 (.inl hmem),
        List.length_map, Nat.add_comm]
    simp only [storeEntries, htwice]
    rfl
  · have hstore := (runStoreSalvo_sent (s := s) (n := n) hne hlen).trans (storeEntries_distinct hnodup)
    have hfits : (sentEntries l).length ≤ 255 := by rw [sent_length]; omega
    refine ⟨fun hbusy => stores hfits (hstore.trans (if_pos hbusy)), fun hfree => ?_⟩
    have hstore := hstore.trans (if_neg (Bool.eq_false_iff.1 hfree))
    have hpos : l.length ≠ 0 := fun h0 => hne (List.length_eq_zero_iff.1 h0)
    refine ⟨fun hfull => stores hfits (hstore.trans (if_pos hfull)), fun hroom => stores hfits (hstore.trans (if_neg ?_))⟩
    have hroom : s.memoryOthers n + l.length ≤ 1024 := hroom
    omega
  · have hempty : s.salvo n = [] := hempty
    simp only [runEraseSalvo, below_num8_32, hempty, if_true]
    rfl
  · have hne : ¬ s.salvo n = [] := hne
    simp only [runEraseSalvo, below_num8_32, if_neg hne, hbusy, if_true]
    rfl
  · have hne : ¬ s.salvo n = [] := hne
    simp only [runEraseSalvo, below_num8_32, if_neg hne, hfree, Bool.false_eq_true, if_false]
    rfl

end Sys2Proof.Machine
end

section
/-! PROOF. A fire's entries are judged, then admitted (R65, R66, R67). -/

namespace Sys2Proof.Machine

open State

/-! ## What a fire makes of each entry -/

/-- The check an entry of a fire fails. -/
def State.entryFailure (s : State) (f : Firing) (e : Dest × Src) : Option Status :=
  match s.admissionChecks e.1.val e.2.val f.panel none with
  | .fail code => some code
  | .pass .. => none

theorem fieldLevel_panel {s : State} {n : Nat} {p : Panel} {l : Level} (h : s.fieldLevel n = some (p, l)) : p.val = n := by
  unfold fieldLevel at h
  split at h
  · next q hq =>
    obtain ⟨l', -, he⟩ := Option.map_eq_some_iff.1 h
    cases he
    exact (below_eq_some.1 hq).symm
  · cases h

/-- The fields an admission passes are the destination, the source and the panel it was asked for. -/
theorem admissionChecks_pass {s : State} {dest source panel : Nat} {c : Option Src} {d : Dest} {x : Src} {p : Panel}
    (h : s.admissionChecks dest source panel c = .pass d x p) : d.val = dest ∧ x.val = source ∧ p.val = panel := by
  unfold admissionChecks at h
  split at h
  · cases h
  · next hd =>
    split at h
    · cases h
    · next hx =>
      split at h
      · cases h
      · next hp =>
        split at h
        · cases h
        · cases h
          refine ⟨(below_eq_some.1 hd).symm, (below_eq_some.1 hx).symm, fieldLevel_panel hp⟩

theorem judge_eq (s : State) (f : Firing) (e : Dest × Src) : ∃ p, s.judge f e = ⟨e.1, e.2, s.entryFailure f e, p⟩ ∧
    ∀ d x q, s.admissionChecks e.1.val e.2.val f.panel none = .pass d x q → p = q := by
  unfold judge State.entryFailure
  cases h : s.admissionChecks e.1.val e.2.val f.panel none with
  | pass d x p => exact ⟨p, rfl, fun d' x' q hq => by cases hq; rfl⟩
  | fail code => exact ⟨0, rfl, fun d' x' q hq => nomatch hq⟩

theorem judge_dest (s : State) (f : Firing) (e : Dest × Src) : (s.judge f e).dest = e.1 := by
  obtain ⟨p, h, -⟩ := judge_eq s f e
  rw [h]

/-- An entry that passes is admitted with the panel the fire names. -/
theorem judge_passed {s : State} {f : Firing} {e : Dest × Src} {p : Panel} (h : (s.entryFailure f e).isNone = true)
    (hp : p.val = f.panel) : s.judge f e = ⟨e.1, e.2, none, p⟩ := by
  unfold State.entryFailure at h
  unfold judge
  cases hc : s.admissionChecks e.1.val e.2.val f.panel none with
  | pass d x q =>
    obtain ⟨-, -, hq⟩ := admissionChecks_pass hc
    rw [Fin.ext (hp.trans hq.symm)]
  | fail code =>
    rw [hc] at h
    cases h

theorem judge_failure (s : State) (f : Firing) (e : Dest × Src) : (s.judge f e).failure = s.entryFailure f e := by
  obtain ⟨p, h, -⟩ := judge_eq s f e
  rw [h]

/-! ## Judging (R65) -/

section
variable (s : State) (f : Firing) (content : List (Dest × Src))

/-- The failures of a fire's entries, in stored order. -/
def State.entryFailures : List (Status × Dest) :=
  content.filterMap (fun e => (s.entryFailure f e).map (fun c => (c, e.1)))

/-- The entries of a fire that fail no check. -/
def State.entriesPassed : List (Dest × Src) := content.filter (fun e => (s.entryFailure f e).isNone)

theorem firstFailure_judged : firstFailure (content.map (s.judge f)) = (s.entryFailures f content).head? := by
  unfold firstFailure State.entryFailures
  rw [List.head?_filterMap, List.findSome?_map]
  refine congrArg (fun g => content.findSome? g) (funext fun e => ?_)
  simp only [Function.comp, judge_failure, judge_dest]

theorem passing_eq : s.passing f content = (s.entriesPassed f content).map (s.judge f) := by
  unfold State.passing State.entriesPassed
  rw [List.filter_map]
  refine congrArg (List.map (s.judge f)) (List.filter_congr fun e _ => ?_)
  simp only [Function.comp, Judged.passes, judge_failure]

theorem needFresh_judged (l : List (Dest × Src)) :
    s.needFresh (l.map (s.judge f)) = (l.filter (fun e => (s.waitingOf e.1).isNone)).map (s.judge f) := by
  unfold needFresh
  rw [List.filter_map]
  refine congrArg (List.map (s.judge f)) (List.filter_congr fun e _ => ?_)
  simp only [Function.comp, judge_dest]

variable {s f content}

theorem fireEntries_fails {c : Status} {d : Dest} {rest : List (Status × Dest)} (h : s.entryFailures f content = (c, d) :: rest)
    (hmode : f.mode = .all ∨ s.entriesPassed f content = []) : s.fireEntries f content = (.refused c (some d), s) := by
  have hfirst : firstFailure (content.map (s.judge f)) = some (c, d) := by rw [firstFailure_judged, h]; rfl
  have hpassing : (content.map (s.judge f)).filter Judged.passes = s.passing f content := rfl
  unfold fireEntries
  dsimp only
  rw [hfirst, hpassing]
  cases hm : f.mode with
  | all => rfl
  | partialMode =>
    have hnone : s.entriesPassed f content = [] := hmode.resolve_left (by rw [hm]; exact GroupMode.noConfusion)
    rw [passing_eq, hnone]
    rfl

theorem fireEntries_admits (h : s.entriesPassed f content ≠ [])
    (hmode : f.mode = .partialMode ∨ s.entryFailures f content = []) :
    s.fireEntries f content = s.admitGroup f (s.passing f content) (s.entryFailures f content).head? := by
  have hpassing : (content.map (s.judge f)).filter Judged.passes = s.passing f content := rfl
  have hne : s.passing f content ≠ [] := by rw [passing_eq]; exact fun he => h (List.map_eq_nil_iff.1 he)
  unfold fireEntries
  dsimp only
  rw [hpassing, firstFailure_judged]
  cases hp : s.passing f content with
  | nil => exact absurd hp hne
  | cons j js =>
    cases hm : f.mode with
    | partialMode => rfl
    | all =>
      have hnone : s.entryFailures f content = [] := hmode.resolve_left (by rw [hm]; exact GroupMode.noConfusion)
      rw [hnone]
      rfl

end

theorem admitGroup_full {s : State} {f : Firing} {js : List Judged} {first : Option (Status × Dest)} {j : Judged}
    (h : (s.needFresh js)[s.freeSlots]? = some j) : s.admitGroup f js first = (.refused .poolFull (some j.dest), s) := by
  unfold admitGroup
  dsimp only
  rw [← List.head?_drop] at h
  cases hdrop : (s.needFresh js).drop s.freeSlots with
  | nil => rw [hdrop] at h; cases h
  | cons a l => rw [hdrop] at h; cases h; rfl

theorem admitGroup_room {s : State} {f : Firing} {js : List Judged} {first : Option (Status × Dest)}
    (h : (s.needFresh js).length ≤ s.freeSlots) :
    s.admitGroup f js first = (.fired (s.store.serial + 1) js.length (js.length - (s.needFresh js).length) first,
      js.foldl (admitMember f ⟨f.salvo, s.store.serial + 1, f.mode⟩)
        { s with store := { s.store with serial := s.store.serial + 1 } }) := by
  unfold admitGroup
  dsimp only
  rw [List.drop_eq_nil_of_le h]

/-- Settles O29: the judgement decides the refusal, the accounting the pool's, and the rest are admitted in order. -/
theorem fireJudgesThenAdmits : Obligations.FireJudgesThenAdmits := by
  unfold Obligations.FireJudgesThenAdmits
  intro s f content _ failure failed passed fresh free
  have hfailed : s.entryFailures f content = failed := rfl
  have hpassed : s.entriesPassed f content = passed := rfl
  have hfree : s.freeSlots = free := freeSlots_eq s
  refine ⟨fun c d rest h hmode => fireEntries_fails h hmode, fun hne hmode => ?_⟩
  have hfire := fireEntries_admits (s := s) (f := f) (content := content) hne hmode
  have hfresh : s.needFresh (s.passing f content) = fresh.map (s.judge f) := by
    rw [passing_eq, hpassed, needFresh_judged]
  refine ⟨fun e he => ?_, fun p hp hroom => ?_⟩
  · have hget : (s.needFresh (s.passing f content))[s.freeSlots]? = some (s.judge f e) := by
      rw [hfresh, hfree, List.getElem?_map, he]
      rfl
    rw [hfire, admitGroup_full hget, judge_dest]
  · intro group member
    have hlen : (s.needFresh (s.passing f content)).length = fresh.length := by rw [hfresh, List.length_map]
    rw [hfire, admitGroup_room (by rw [hlen, hfree]; exact hroom), hlen, passing_eq, hpassed, hfailed, List.length_map,
      List.foldl_map]
    refine congrArg (Prod.mk _) (List.foldl_ext _ _ _ fun t e he => ?_)
    rw [judge_passed (List.of_mem_filter (p := fun e => (s.entryFailure f e).isNone) he) hp]
    rfl

end Sys2Proof.Machine
end

section
/-! PROOF. After a fire every passing entry has its waiting take (R67). -/

namespace Sys2Proof.Machine

open State

/-! ## What one admission leaves of the pool -/

theorem countP_put {α : Type} {n : Nat} (v : Vector α n) (i : Fin n) (x : α) (p : α → Bool) :
    (put v i x).toList.countP p = v.toList.countP p - (if p (look v i) then 1 else 0) + (if p x then 1 else 0) := by
  have hget : v.toList[i.val]'(by simp) = look v i := by simp [look]
  unfold put
  rw [Vector.toList_set, List.countP_set (by simp), hget]

/-- An admission writes one slot, free before or holding the destination's waiting take, and adds it to its queue. -/
structure AdmittedAt (s t : State) (q : AdmitFields) (i : Slot) : Prop where
  before : (s.slot i).take = none ∧ s.waitingOf q.dest = none ∨
    s.waitingOf q.dest = some i ∧ ∃ k, (s.slot i).take = some k ∧ k.dest = q.dest
  take : (t.slot i).take = some (s.newTake q)
  others : ∀ j, j ≠ i → t.slot j = s.slot j
  dests : t.dests = s.dests
  queued : i ∈ t.queue (s.dest q.dest).domain
  stays : ∀ d j, j ≠ i → j ∈ s.queue d → j ∈ t.queue d
  slots : ∃ r, r.take.isNone = false ∧ t.pool.slots = put s.pool.slots i r

/-- The queue an allocation joins gains its slot at the tail; the others stay. -/
theorem queue_allotted (s : State) (i : Slot) (q : AdmitFields) (previous : Option EndedTake) (d : Dom) :
    (s.allotted i q previous).queue d = if d = (s.dest q.dest).domain then s.queue d ++ [i] else s.queue d := by
  refine (look_put ..).trans ?_
  by_cases hd : d = (s.dest q.dest).domain
  · rw [if_pos hd, if_pos hd, hd]
  · rw [if_neg hd, if_neg hd]
    rfl

theorem queue_delist (s : State) (i : Slot) (m d : Dom) :
    (s.delist i m).queue d = if d = m then (s.queue d).filter (fun j => j ≠ i) else s.queue d := by
  refine (look_put ..).trans ?_
  by_cases hd : d = m
  · rw [if_pos hd, if_pos hd, hd]
  · rw [if_neg hd, if_neg hd]
    rfl

theorem admittedAt_of_allocate {s u : State} {q : AdmitFields} {i : Slot} (previous : Option EndedTake)
    (hb : (s.slot i).take = none ∧ s.waitingOf q.dest = none ∨
      s.waitingOf q.dest = some i ∧ ∃ k, (s.slot i).take = some k ∧ k.dest = q.dest)
    (hslots : u.pool.slots = s.pool.slots) (hnew : u.newTake q = s.newTake q) (hdests : u.dests = s.dests)
    (hqueue : ∀ d j, j ≠ i → j ∈ s.queue d → j ∈ u.queue d) : AdmittedAt s (u.allocate i q previous) q i := by
  have hslot (j : Slot) : u.slot j = s.slot j := congrArg (fun v => look v j) hslots
  have hdom : (u.dest q.dest).domain = (s.dest q.dest).domain := congrArg (fun v => (look v q.dest).domain) hdests
  have hq (d : Dom) : (u.allocate i q previous).queue d = (u.allotted i q previous).queue d := by rw [allocate_eq]; rfl
  have halloc := allocate_eq u i q previous
  refine ⟨hb, ?_, fun j hj => ?_, ?_, ?_, fun d j hj hmem => ?_, ⟨⟨(u.slot i).gen + 1, some (u.newTake q), previous⟩, rfl, ?_⟩⟩
  · rw [halloc, ← hnew]
    exact congrArg SlotRec.take (look_put_same ..)
  · rw [halloc, ← hslot j]
    exact look_put_other _ _ hj
  · rw [halloc, ← hdests]
    rfl
  · rw [hq, queue_allotted, if_pos hdom.symm]
    exact List.mem_append_right _ List.mem_cons_self
  · rw [hq, queue_allotted]
    split
    · exact List.mem_append_left _ (hqueue d j hj hmem)
    · exact hqueue d j hj hmem
  · rw [halloc, ← hslots]
    rfl

theorem admittedAt_of_admitTake {s t : State} {q : AdmitFields} {a : Admitted} (h : s.admitTake q = some (a, t)) :
    ∃ i, AdmittedAt s t q i := by
  obtain ⟨i, hw, hf, rfl⟩ | ⟨i, k, hw, hk, rfl⟩ := admitTake_cases h
  · obtain ⟨hfree, -⟩ := (freeSlot_eq_some s i).1 hf
    exact ⟨i, admittedAt_of_allocate none (.inl ⟨hfree, hw⟩) rfl rfl rfl (fun d j _ hj => hj)⟩
  · obtain ⟨k', hk', hd, -⟩ := take_of_waitingOf hw
    refine ⟨i, admittedAt_of_allocate _ (.inr ⟨hw, k', hk', hd⟩) rfl rfl rfl (fun d j hj hmem => ?_)⟩
    rw [queue_delist]
    split
    · exact List.mem_filter.2 ⟨hmem, decide_eq_true hj⟩
    · exact hmem

section
variable {s t : State} {q : AdmitFields} {i : Slot}

/-- Whether another destination has a waiting take does not change. -/
theorem AdmittedAt.waitingOf (h : AdmittedAt s t q i) {d : Dest} (hd : d ≠ q.dest) : t.waitingOf d = s.waitingOf d := by
  refine waitingOf_congr fun j => ?_
  by_cases hj : j = i
  · subst hj
    have after : (t.slot j).waitsFor d = false := Bool.eq_false_iff.2 fun hw => by
      obtain ⟨k, hk, hkd, -⟩ := (waitsFor_iff _ _).1 hw
      obtain rfl : s.newTake q = k := Option.some.inj (h.take.symm.trans hk)
      exact hd hkd.symm
    have before : (s.slot j).waitsFor d = false := Bool.eq_false_iff.2 fun hw => by
      obtain ⟨k, hk, hkd, -⟩ := (waitsFor_iff _ _).1 hw
      obtain ⟨hfree, -⟩ | ⟨-, k', hk', hd'⟩ := h.before
      · exact nomatch hk.symm.trans hfree
      · obtain rfl : k = k' := Option.some.inj (hk.symm.trans hk')
        exact hd (hkd.symm.trans hd')
    rw [after, before]
  · rw [h.others j hj]

/-- A fresh slot is one free slot fewer; the slot of a superseded take is none. -/
theorem AdmittedAt.freeSlots (h : AdmittedAt s t q i) :
    s.freeSlots ≤ t.freeSlots + if (s.waitingOf q.dest).isNone then 1 else 0 := by
  obtain ⟨r, hr, hslots⟩ := h.slots
  have hcount : t.freeSlots = s.freeSlots - (if (s.slot i).take.isNone then 1 else 0) := by
    unfold State.freeSlots
    rw [hslots, ← List.countP_eq_length_filter, ← List.countP_eq_length_filter, countP_put, hr]
    rfl
  obtain ⟨hfree, hw⟩ | ⟨hw, k, hk, -⟩ := h.before
  · rw [hcount, hfree, hw]
    simp only [Option.isNone_none, if_true]
    omega
  · rw [hcount, hk, hw]
    simp

end

/-! ## The admissions of a fire -/

/-- The judged entry has its waiting take, with the fire's group. -/
def MemberPlaced (f : Firing) (g : Group) (s : State) (j : Judged) : Prop :=
  ∃ i k, (s.slot i).take = some k ∧ k.dest = j.dest ∧ k.source = j.source ∧ (k.state = .queued ∨ k.state = .held) ∧
    k.group = some g ∧ k.panel = j.panel ∧ k.origin = f.origin ∧ k.report = f.report ∧ i ∈ s.queue (s.dest j.dest).domain

section
variable {f : Firing} {g : Group}

theorem AdmittedAt.placed {s t : State} {j : Judged} {i : Slot}
    (h : AdmittedAt s t ⟨j.dest, j.source, f.origin, j.panel, some g, none, f.report⟩ i) : MemberPlaced f g t j := by
  have hdom : (t.dest j.dest).domain = (s.dest j.dest).domain := congrArg (fun v => (look v j.dest).domain) h.dests
  refine ⟨i, _, h.take, rfl, rfl, ?_, rfl, rfl, rfl, rfl, hdom ▸ h.queued⟩
  unfold newTake
  dsimp only
  split
  · exact .inr rfl
  · exact .inl rfl

/-- A take of another destination stays where it is. -/
theorem AdmittedAt.keeps {s t : State} {q : AdmitFields} {i : Slot} (h : AdmittedAt s t q i) {j : Judged}
    (hd : j.dest ≠ q.dest) (hj : MemberPlaced f g s j) : MemberPlaced f g t j := by
  obtain ⟨n, k, hk, hkd, rest⟩ := hj
  obtain ⟨hsource, hstate, hgroup, hpanel, horigin, hreport, hqueue⟩ := rest
  have hne : n ≠ i := by
    rintro rfl
    obtain ⟨hfree, -⟩ | ⟨-, k', hk', hd'⟩ := h.before
    · exact nomatch hk.symm.trans hfree
    · obtain rfl : k = k' := Option.some.inj (hk.symm.trans hk')
      exact hd (hkd.symm.trans hd')
  have hdom : (t.dest j.dest).domain = (s.dest j.dest).domain := congrArg (fun v => (look v j.dest).domain) h.dests
  refine ⟨n, k, by rw [h.others n hne, hk], hkd, hsource, hstate, hgroup, hpanel, horigin, hreport, ?_⟩
  rw [hdom]
  exact h.stays _ n hne hqueue

theorem freeSlot_ne_none {s : State} {i : Slot} (h : (s.slot i).take = none) : s.freeSlot ≠ none := by
  have find : s.freeSlot = (List.finRange 128).find? (fun i => (s.slot i).take.isNone) := by
    rw [freeSlot, find_entries]
    rfl
  rw [find]
  intro hnone
  exact List.find?_eq_none.1 hnone i (List.mem_finRange i) (by rw [h]; rfl)

/-- An admission finds a slot while the accounting holds. -/
theorem admitMember_admits {s : State} {j : Judged} {js : List Judged} (h : (s.needFresh (j :: js)).length ≤ s.freeSlots) :
    ∃ i, AdmittedAt s (admitMember f g s j) ⟨j.dest, j.source, f.origin, j.panel, some g, none, f.report⟩ i := by
  have hsome : s.admitTake ⟨j.dest, j.source, f.origin, j.panel, some g, none, f.report⟩ ≠ none := by
    cases hw : s.waitingOf j.dest with
    | some i =>
      obtain ⟨k, hk, -⟩ := take_of_waitingOf hw
      rw [admitTake_supersedes hw hk]
      exact Option.some_ne_none _
    | none =>
      cases hf : s.freeSlot with
      | some i =>
        rw [admitTake_fresh hw hf]
        exact Option.some_ne_none _
      | none =>
        have hneed : j ∈ s.needFresh (j :: js) := List.mem_filter.2 ⟨List.mem_cons_self, by rw [hw]; rfl⟩
        have hpos := List.length_pos_of_mem hneed
        have hzero : s.freeSlots = 0 := by
          rw [freeSlots_eq, List.length_eq_zero_iff, List.filter_eq_nil_iff]
          intro i _ hi
          exact freeSlot_ne_none (Option.isNone_iff_eq_none.1 hi) hf
        omega
  obtain ⟨⟨a, u⟩, hu⟩ := Option.ne_none_iff_exists'.1 hsome
  have hmember : admitMember f g s j = u := by simp only [admitMember, hu]
  rw [hmember]
  exact admittedAt_of_admitTake hu

theorem foldl_admitMember_places (js : List Judged) (hnodup : (js.map Judged.dest).Nodup) (s : State)
    (hroom : (s.needFresh js).length ≤ s.freeSlots) :
    (js.foldl (admitMember f g) s).dests = s.dests ∧ (∀ j ∈ js, MemberPlaced f g (js.foldl (admitMember f g) s) j) ∧
    ∀ j, j.dest ∉ js.map Judged.dest → MemberPlaced f g s j → MemberPlaced f g (js.foldl (admitMember f g) s) j := by
  induction js generalizing s with
  | nil => exact ⟨rfl, fun j hj => absurd hj List.not_mem_nil, fun j _ hj => hj⟩
  | cons j js ih =>
    obtain ⟨hj, hnodup⟩ := List.nodup_cons.1 hnodup
    obtain ⟨i, hadmit⟩ := admitMember_admits (f := f) (g := g) hroom
    have hlater : (admitMember f g s j).needFresh js = s.needFresh js :=
      List.filter_congr fun l hl => by
        have hne : l.dest ≠ j.dest := fun e => hj (e ▸ List.mem_map_of_mem hl)
        rw [hadmit.waitingOf hne]
    have hcount : (s.needFresh (j :: js)).length =
        (s.needFresh js).length + if (s.waitingOf j.dest).isNone then 1 else 0 := by
      unfold needFresh
      rw [List.filter_cons]
      split <;> rfl
    have hfree := hadmit.freeSlots
    obtain ⟨hdests, hplaced, hkept⟩ := ih hnodup _ (by rw [hlater]; dsimp only at hfree; omega)
    refine ⟨hdests.trans hadmit.dests, fun l hl => ?_, fun l hl hp => ?_⟩
    · obtain rfl | hl := List.mem_cons.1 hl
      · exact hkept l hj hadmit.placed
      · exact hplaced l hl
    · rw [List.map_cons, List.mem_cons, not_or] at hl
      exact hkept l hl.2 (hadmit.keeps hl.1 hp)

end

theorem fireEntries_room {s t : State} {f : Firing} {content : List (Dest × Src)} {serial : U16} {a b : Nat}
    {first : Option (Status × Dest)} (h : s.fireEntries f content = (.fired serial a b first, t)) :
    (s.needFresh (s.passing f content)).length ≤ s.freeSlots := by
  obtain ⟨code, d, e⟩ | ⟨-, e⟩ := fireEntries_cases s f content
  · exact nomatch e.symm.trans h
  · by_contra hfull
    have hlt : s.freeSlots < (s.needFresh (s.passing f content)).length := Nat.not_le.1 hfull
    exact nomatch (admitGroup_full (List.getElem?_eq_getElem hlt)).symm.trans (e.symm.trans h)

/-- Settles O30: the accounting leaves a slot for each admission, and none of them touches another destination's take. -/
theorem fireGivesEveryPassingEntryATake : Obligations.FireGivesEveryPassingEntryATake := by
  unfold Obligations.FireGivesEveryPassingEntryATake
  intro s t f content serial a b first hnodup hfire
  have hroom := fireEntries_room hfire
  obtain ⟨hne, rfl, rfl, hb, rfl⟩ := fireEntries_fired hfire
  have hdests : ((s.passing f content).map Judged.dest).Nodup := by
    have hmap : (s.entriesPassed f content).map (Judged.dest ∘ s.judge f) = (s.entriesPassed f content).map Prod.fst :=
      List.map_congr_left fun e _ => judge_dest s f e
    rw [passing_eq, List.map_map, hmap]
    exact hnodup.sublist (List.filter_sublist.map _)
  obtain ⟨hkept, hplaced, -⟩ := foldl_admitMember_places (f := f) (g := ⟨f.salvo, s.store.serial + 1, f.mode⟩) _ hdests
    { s with store := { s.store with serial := s.store.serial + 1 } } hroom
  refine ⟨congrArg Store.serial (foldl_admitMember_store ..), rfl, List.length_pos_iff.2 hne, hb, fun e he d x p hpass => ?_⟩
  obtain ⟨-, -, hpanel⟩ := admissionChecks_pass hpass
  have hpasses : (s.entryFailure f e).isNone = true := by
    unfold State.entryFailure
    rw [hpass]
    rfl
  have hmem : (⟨e.1, e.2, none, p⟩ : Judged) ∈ s.passing f content := by
    rw [passing_eq, ← judge_passed hpasses hpanel]
    exact List.mem_map_of_mem (List.mem_filter.2 ⟨he, hpasses⟩)
  obtain ⟨i, k, hk, hdest, hsource, hstate, hgroup, hp, horigin, hreport, hqueue⟩ := hplaced _ hmem
  refine ⟨i, k, hk, hdest, hsource, hstate, hgroup, hp, horigin, hreport, ?_⟩
  have hdom := congrArg (fun v => (look v e.1).domain) hkept
  exact hdom ▸ hqueue

end Sys2Proof.Machine
end

section
/-! PROOF. FIRE SALVO and UNDO (R61, R64, R68, R70, R71, R72). -/

namespace Sys2Proof.Machine

open State

theorem asGroupMode_bad {b : Byte} (h : 1 < b.toNat) : asGroupMode b = none := by
  unfold asGroupMode
  split
  · omega
  · omega
  · rfl

theorem asGroupMode_code {b : Byte} {m : GroupMode} (h : (b = 0 ∧ m = .all) ∨ (b = 1 ∧ m = .partialMode)) :
    asGroupMode b = some m := by
  obtain ⟨rfl, rfl⟩ | ⟨rfl, rfl⟩ := h <;> rfl

theorem asGroupMode_ok {b : Byte} (h : b.toNat ≤ 1) : ∃ m, asGroupMode b = some m := by
  have hb : b = 0 ∨ b = 1 := by bv_omega
  obtain rfl | rfl := hb
  · exact ⟨.all, rfl⟩
  · exact ⟨.partialMode, rfl⟩

theorem fieldOrigin_eq (panel : Byte) : fieldOrigin panel =
    if h : panel.toNat < 64 then (if panel = 0 then .direct else .panel ⟨panel.toNat, h⟩) else .direct := by
  unfold fieldOrigin
  by_cases h : panel.toNat < 64
  · rw [below_of_lt h, dif_pos h]
    have hz : (⟨panel.toNat, h⟩ : Panel) = 0 ↔ panel = 0#8 := by
      rw [Fin.ext_iff, ← BitVec.toNat_inj]
      rfl
    simp only [panelOrigin, hz]
    rfl
  · rw [below_of_ge (Nat.not_lt.1 h), dif_neg h]

/-! ## The undo record (R70) -/

/-- What the undo record keeps of one entry. -/
def State.undoPair (s : State) (panel : Nat) (e : Dest × Src) : Option (Dest × Src) :=
  match s.admissionChecks e.1.val e.2.val panel none with
  | .pass .. => (s.dest e.1).source.map (fun x => (e.1, x))
  | .fail _ => none

theorem undoPairs_eq (s : State) (f : Firing) (content : List (Dest × Src)) :
    s.undoPairs f content = content.filterMap (s.undoPair f.panel) := by
  have hpassing : s.undoPairs f content =
      (s.passing f content).filterMap (fun j => (s.dest j.dest).source.map (fun x => (j.dest, x))) := rfl
  rw [hpassing, passing_eq, List.filterMap_map]
  unfold State.entriesPassed
  rw [List.filterMap_filter]
  refine List.filterMap_congr fun e _ => ?_
  simp only [Function.comp, judge_dest]
  unfold State.entryFailure State.undoPair
  cases s.admissionChecks e.1.val e.2.val f.panel none <;> rfl

/-- A stored salvo that is not BUSY fires its entries and pushes its undo record. -/
theorem fireSalvo_fires {s t : State} {n : Salvo} {f : Firing} {serial : U16} {a b : Nat} {first : Option (Status × Dest)}
    (hbusy : s.salvoBusy n = false) (hne : look s.store.salvos n ≠ [])
    (h : s.fireEntries f (look s.store.salvos n) = (.fired serial a b first, t)) :
    s.fireSalvo n f = (.fired serial a b first, t.pushUndo ⟨n, s.undoPairs f (look s.store.salvos n)⟩) := by
  unfold fireSalvo
  rw [hbusy, if_neg Bool.false_ne_true]
  split
  · next he => exact absurd he hne
  · rw [h]

theorem fireSalvo_refuses {s t : State} {n : Salvo} {f : Firing} {code : Status} {d : Option Dest}
    (hbusy : s.salvoBusy n = false) (hne : look s.store.salvos n ≠ [])
    (h : s.fireEntries f (look s.store.salvos n) = (.refused code d, t)) : s.fireSalvo n f = (.refused code d, t) := by
  unfold fireSalvo
  rw [hbusy, if_neg Bool.false_ne_true]
  split
  · next he => exact absurd he hne
  · rw [h]

/-! ## The requests -/

section
variable {s t : State} {n : Salvo} {panel code : Byte} {m : GroupMode} {report : Bool}

/-- The fire FIRE SALVO asks for. -/
def salvoFiring (panel : Byte) (m : GroupMode) (report : Bool) (n : Salvo) : Firing :=
  ⟨panel.toNat, m, report, fieldOrigin panel, some n⟩

theorem runFireSalvo_refused {c : Status} {d : Option Dest} (hm : asGroupMode code = some m)
    (h : s.fireSalvo n (salvoFiring panel m report n) = (.refused c d, t)) :
    runFireSalvo (num8 n) panel code (if report then 1 else 0) s = (fireRefusal c d, s) := by
  have hreport : asFlag (if report then 1 else 0) = some report := asFlag_code report
  unfold salvoFiring at h
  simp only [runFireSalvo, below_num8_32, hm, hreport, h]

theorem runFireSalvo_fired {serial : U16} {a b : Nat} {first : Option (Status × Dest)} (hm : asGroupMode code = some m)
    (h : s.fireSalvo n (salvoFiring panel m report n) = (.fired serial a b first, t)) :
    runFireSalvo (num8 n) panel code (if report then 1 else 0) s = (.ok (eFired serial a b first), t.settle) := by
  have hreport : asFlag (if report then 1 else 0) = some report := asFlag_code report
  unfold salvoFiring at h
  simp only [runFireSalvo, below_num8_32, hm, hreport, h]

end

/-- Settles O31: the fields, then the fire of the stored entries or of the newest undo record. -/
theorem fireSalvoPushesAndUndoPops : Obligations.FireSalvoPushesAndUndoPops := by
  unfold Obligations.FireSalvoPushesAndUndoPops
  intro s tag panel hl first items
  have hitems (serial : U16) (a b : Nat) (r : Option (Status × Dest)) : eFired serial a b r = items serial a b r := by
    cases r <;> rfl
  have fires {salvo mode report : Byte} {status : Status} {tail : List Byte} {t : State}
      (h : runFireSalvo salvo panel mode report s = (⟨status, tail⟩, t)) :
      Answers (.fireSalvo tag salvo panel mode report) s status tail t := answers_of rfl rfl rfl hl h
  have undoes {status : Status} {tail : List Byte} {t : State} (h : runUndo panel s = (⟨status, tail⟩, t)) :
      Answers (.undo tag panel) s status tail t := answers_of rfl rfl rfl hl h
  refine ⟨fun salvo mode report h => fires (by simp only [runFireSalvo, below_of_ge h]; rfl),
    fun n mode report h => fires (by simp only [runFireSalvo, below_num8_32, asGroupMode_bad h]; rfl),
    fun n mode report hmode h => ?_, fun n code m report hcode => ?_, fun h => undoes (by simp only [runUndo, h]; rfl),
    fun u rest h => ?_⟩
  · obtain ⟨m, hm⟩ := asGroupMode_ok hmode
    exact fires (by simp only [runFireSalvo, below_num8_32, hm, asFlag_bad h]; rfl)
  · intro request content origin f
    have hm := asGroupMode_code hcode
    have hf : salvoFiring panel m report n = f := by unfold salvoFiring; rw [fieldOrigin_eq]
    refine ⟨fun hbusy => fires (runFireSalvo_refused (t := s) (c := .salvoBusy) (d := none) hm (if_pos hbusy)),
      fun hbusy hempty => fires (runFireSalvo_refused (t := s) (c := .noSalvo) (d := none) hm ?_), fun hbusy hne =>
      ⟨fun c d u hfire => fires (runFireSalvo_refused hm (by rw [hf]; exact fireSalvo_refuses hbusy hne hfire)),
      fun serial a b r t hfire => ?_⟩⟩
    · have hempty : look s.store.salvos n = [] := hempty
      unfold fireSalvo
      rw [hbusy, if_neg Bool.false_ne_true, hempty]
    · intro pairs pushed
      have hpairs : s.undoPairs f content = pairs := undoPairs_eq s f content
      have hpushed := fireSalvo_fires hbusy hne hfire
      rw [hpairs] at hpushed
      rw [← hitems]
      exact fires (runFireSalvo_fired hm (by rw [hf]; exact hpushed))
  · intro f
    refine ⟨fun c d v hfire => undoes ?_, fun serial a b r t hfire => undoes ?_⟩
    · have hfire : s.fireEntries ⟨panel.toNat, .partialMode, false, .undo, none⟩ u.pairs = _ := hfire
      simp only [runUndo, h, hfire]
      rfl
    · have hfire : s.fireEntries ⟨panel.toNat, .partialMode, false, .undo, none⟩ u.pairs = _ := hfire
      rw [← hitems]
      simp only [runUndo, h, hfire]
      rfl

end Sys2Proof.Machine
end

section
/-! PROOF. The reference domains: lock changes, closings, and their three requests (R39, R77, R80, R81, R87 to R90). -/

namespace Sys2Proof.Machine

open State

/-! ## Stops and closings -/

theorem untimed_eq (s : State) (d : Dom) : s.untimed d = (List.finRange 128).filter (fun i =>
    (s.slot i).holds (fun k => decide ((s.dest k.dest).domain = d ∧ (k.state = .issued ∨ k.state = .retry))) &&
      s.bus.absent.all (fun a => decide (a.1.slot ≠ i))) := by
  unfold untimed
  rw [filter_entries]
  refine List.filter_congr fun i _ => ?_
  have holds : (look s.pool.slots i).holds (fun t => t.state.outstanding && decide (s.takeDomain t = d)) =
      (s.slot i).holds (fun k => decide ((s.dest k.dest).domain = d ∧ (k.state = .issued ∨ k.state = .retry))) := by
    refine congrArg (SlotRec.holds (s.slot i)) (funext fun k => ?_)
    rw [Bool.eq_iff_iff, Bool.and_eq_true, decide_eq_true_eq, decide_eq_true_eq, TakeState.outstanding_iff, and_comm]
    rfl
  rw [holds, List.not_any_eq_all_not]
  refine congrArg (fun p => _ && s.bus.absent.all p) (funext fun a => ?_)
  simp

theorem stopAge_waiting {r : SlotRec} {k : Take} {now : Time} {p : Take → Bool} (hk : r.take = some k)
    (hw : k.state = .queued ∨ k.state = .held) (hp : p k = true) :
    r.stopAge now p = { r with take := some { k with ageStart := now } } := by
  have hw : k.state.waiting = true := (TakeState.waiting_iff _).2 hw
  unfold SlotRec.stopAge
  simp only [hk, hw, hp, Bool.and_self, if_true]

theorem stopAge_other {r : SlotRec} {now : Time} {p : Take → Bool}
    (h : ∀ k, r.take = some k → p k = false ∨ (k.state ≠ .queued ∧ k.state ≠ .held)) : r.stopAge now p = r := by
  unfold SlotRec.stopAge
  split
  · next k hk =>
    refine if_neg (fun hwait => ?_)
    rw [Bool.and_eq_true, TakeState.waiting_iff] at hwait
    obtain ⟨hw, hp⟩ := hwait
    obtain hfalse | ⟨hq, hh⟩ := h k hk
    · exact Bool.false_ne_true (hfalse.symm.trans hp)
    · exact hw.elim hq hh
  · rfl

/-- What an event leaves of one closing domain (R39, R90). -/
theorem serveClosing_eq (s : State) (d : Dom) : s.serveClosing d =
    if (s.dom d).closing = none then s
    else if (if s.onlyHeld d then s.flushDomain d else s).activeDomain d then if s.onlyHeld d then s.flushDomain d else s
    else (if s.onlyHeld d then s.flushDomain d else s).closedDom d := by
  unfold serveClosing
  cases hc : (s.dom d).closing with
  | none => rfl
  | some m =>
    rw [if_pos (Option.isSome_some), if_neg (Option.some_ne_none m)]
    generalize (if s.onlyHeld d then s.flushDomain d else s) = u
    cases ha : u.activeDomain d with
    | true =>
      rw [if_pos rfl]
      unfold closeIfEmpty
      rw [ha, if_pos rfl]
    | false =>
      rw [if_neg Bool.false_ne_true]
      exact closeIfEmpty_idle ha

/-- Settles O32: a change of lock state with or without its stop, and the closings domain by domain. -/
theorem lockChangesAndClosings : Obligations.LockChangesAndClosings := by
  unfold Obligations.LockChangesAndClosings
  refine ⟨fun s d l => ?_, fun s => ?_⟩
  · intro r switches stops flags moved
    have hstops : (s.dom d).stops l = true ↔ stops := stops_iff _ _
    refine ⟨fun h => ?_, fun h => ?_⟩
    · exact setLock_of_not_stops (Bool.eq_false_iff.2 (fun hs => h (hstops.1 hs)))
    · intro t untimed
      have hset := setLock_of_stops (hstops.2 h)
      have huntimed : s.untimed d = untimed := untimed_eq s d
      have hslot (i : Slot) : t.slot i = (s.slot i).stopAge s.now (fun k => decide (s.takeDomain k = d)) := by
        have : t.slot i = look (s.stoppedSlots d) i := congrArg (fun u : State => u.slot i) hset
        rw [this]
        exact look_mapTable ..
      refine ⟨?_, fun i => ⟨fun k hk hd hw => ?_, fun h => ?_⟩⟩
      · have hpool : t.pool.slots = s.stoppedSlots d := congrArg (fun u : State => u.pool.slots) hset
        rw [hpool, ← huntimed]
        exact hset
      · rw [hslot]
        exact stopAge_waiting hk hw (decide_eq_true hd)
      · rw [hslot]
        exact stopAge_other fun k hk => (h k hk).imp_left decide_eq_false
  · intro flushed closed serve
    have hserve (u : State) (d : Dom) : u.serveClosing d = serve u d := serveClosing_eq u d
    unfold settle serveClosings
    rw [hserve, hserve, hserve, hserve]

/-! ## The requests of a domain (R87, R88, R89) -/

theorem within_iff (lo hi x : Nat) : within lo hi x = true ↔ lo ≤ x ∧ x ≤ hi := by
  unfold within
  rw [Bool.and_eq_true, decide_eq_true_eq, decide_eq_true_eq]

theorem within_false {lo hi x : Nat} (h : x < lo ∨ hi < x) : within lo hi x = false :=
  Bool.eq_false_iff.2 fun hw => by
    have := (within_iff lo hi x).1 hw
    omega

theorem asCloseMode_bad {b : Byte} (h : 1 < b.toNat) : asCloseMode b = none := by
  unfold asCloseMode
  split
  · omega
  · omega
  · rfl

theorem asCloseMode_ok {b : Byte} (h : b.toNat ≤ 1) : ∃ m, asCloseMode b = some m := by
  have hb : b = 0 ∨ b = 1 := by bv_omega
  obtain rfl | rfl := hb
  · exact ⟨.drain, rfl⟩
  · exact ⟨.flush, rfl⟩

section
variable {s : State} {d : Dom} {c : Fin 8} {settle holdover : Byte} {hold : U16}

/-- A SET DOMAIN whose domain and standard read turns on its ranges, then on the domain's lock. -/
theorem runSetDomain_read : runSetDomain (num8 d) (num8 c) settle holdover hold s =
    if within 4 64 settle.toNat = false then (.badField 3, s)
    else if within 0 250 holdover.toNat = false then (.badField 4, s)
    else if within 100 10000 hold.toNat = false then (.badField 5, s)
    else if (s.dom d).lock ≠ .closed then (.refuse .domainActive, s)
    else (.ok [], s.setDom d ((s.dom d).configure c settle.toNat holdover.toNat hold.toNat)) := by
  simp only [runSetDomain, below_num8_4, below_num8_8]

theorem runSetDomain_inRange (hs : 4 ≤ settle.toNat) (hs' : settle.toNat ≤ 64) (hh : holdover.toNat ≤ 250)
    (hl : 100 ≤ hold.toNat) (hl' : hold.toNat ≤ 10000) : runSetDomain (num8 d) (num8 c) settle holdover hold s =
    if (s.dom d).lock ≠ .closed then (.refuse .domainActive, s)
    else (.ok [], s.setDom d ((s.dom d).configure c settle.toNat holdover.toNat hold.toNat)) := by
  rw [runSetDomain_read, (within_iff _ _ _).2 ⟨hs, hs'⟩, (within_iff _ _ _).2 ⟨Nat.zero_le _, hh⟩,
    (within_iff _ _ _).2 ⟨hl, hl'⟩]
  rfl

theorem runOpenDomain_read : runOpenDomain (num8 d) s =
    if (s.dom d).lock ≠ .closed then (.refuse .domainActive, s)
    else (.ok [], (s.setLock d .acquiring).setDom d { (s.setLock d .acquiring).dom d with
      openDetection := decide (((s.setLock d .acquiring).dom d).seen ≠ .none) }) := by
  simp only [runOpenDomain, below_num8_4]

theorem runCloseDomain_read {mode : Byte} {m : CloseMode} (hm : asCloseMode mode = some m) :
    runCloseDomain (num8 d) mode s =
      if (s.dom d).lock = .closed then (.refuse .domainClosed, s) else closeDomain d m s := by
  simp only [runCloseDomain, below_num8_4, hm]

/-- A change of lock state leaves what the monitor has seen. -/
theorem seen_setLock (l : LockState) : ((s.setLock d l).dom d).seen = (s.dom d).seen := by
  rw [dom_setLock, if_pos rfl]
  rfl

end

/-- Settles O33: the fields in their order, then the lock of the domain. -/
theorem domainsAreConfiguredOpenedAndClosed : Obligations.DomainsAreConfiguredOpenedAndClosed := by
  unfold Obligations.DomainsAreConfiguredOpenedAndClosed
  intro s tag hl
  have sets {domain standard settle holdover : Byte} {hold : U16} {status : Status} {tail : List Byte} {t : State}
      (h : runSetDomain domain standard settle holdover hold s = (⟨status, tail⟩, t)) :
      Answers (.setDomain tag domain standard settle holdover hold) s status tail t := answers_of rfl rfl rfl hl h
  have opens {domain : Byte} {status : Status} {tail : List Byte} {t : State}
      (h : runOpenDomain domain s = (⟨status, tail⟩, t)) : Answers (.openDomain tag domain) s status tail t :=
    answers_of rfl rfl rfl hl h
  have closes {domain mode : Byte} {status : Status} {tail : List Byte} {t : State}
      (h : runCloseDomain domain mode s = (⟨status, tail⟩, t)) : Answers (.closeDomain tag domain mode) s status tail t :=
    answers_of rfl rfl rfl hl h
  refine ⟨fun domain standard settle holdover hold h => sets (by simp only [runSetDomain, below_of_ge h]; rfl),
    fun domain h => opens (by simp only [runOpenDomain, below_of_ge h]; rfl),
    fun domain mode h => closes (by simp only [runCloseDomain, below_of_ge h]; rfl), fun d => ?_⟩
  intro r
  refine ⟨fun standard settle holdover hold h => sets (by simp only [runSetDomain, below_num8_4, below_of_ge h]; rfl),
    fun c settle holdover hold h => sets ?_, fun c settle holdover hold hs hs' h => sets ?_,
    fun c settle holdover hold hs hs' hh h => sets ?_, fun c settle holdover hold hs hs' hh hh' hl' => ?_,
    fun h => opens (runOpenDomain_read.trans (if_pos h)), fun h => ?_,
    fun mode h => closes (by simp only [runCloseDomain, below_num8_4, asCloseMode_bad h]; rfl), fun mode hm h => ?_,
    fun h => ?_⟩
  · rw [runSetDomain_read, within_false h]
    rfl
  · rw [runSetDomain_read, (within_iff _ _ _).2 ⟨hs, hs'⟩, within_false (.inr h)]
    rfl
  · rw [runSetDomain_read, (within_iff _ _ _).2 ⟨hs, hs'⟩, (within_iff _ _ _).2 ⟨Nat.zero_le _, hh⟩, within_false h]
    rfl
  · intro request n w
    have hread := runSetDomain_inRange (s := s) (d := d) (c := c) hs hs' hh hh' hl'
    refine ⟨fun hopen => sets (hread.trans (if_pos hopen)), fun hclosed hc => sets ?_, fun hclosed hc => sets ?_⟩
    · refine hread.trans ((if_neg (not_not_intro hclosed)).trans ?_)
      unfold DomRec.configure
      rw [if_pos hc]
      rfl
    · refine hread.trans ((if_neg (not_not_intro hclosed)).trans ?_)
      unfold DomRec.configure
      rw [if_neg hc]
      rfl
  · intro t
    refine opens (runOpenDomain_read.trans ((if_neg (not_not_intro h)).trans ?_))
    rw [seen_setLock]
    rfl
  · obtain ⟨m, hm⟩ := asCloseMode_ok hm
    exact closes ((runCloseDomain_read hm).trans (if_pos h))
  · intro closing drained flushed
    have hqueue (m : CloseMode) : (closing m).queue d = s.queue d := rfl
    have honly : (closing .drain).onlyHeld d = s.onlyHeld d := rfl
    refine ⟨closes (((runCloseDomain_read (m := .drain) rfl).trans (if_neg h)).trans ?_),
      closes (((runCloseDomain_read (m := .flush) rfl).trans (if_neg h)).trans ?_)⟩
    · unfold closeDomain
      simp only [reduceCtorEq, false_or, if_false]
      rfl
    · unfold closeDomain
      simp only [true_or, if_true]
      rfl

end Sys2Proof.Machine
end

section
/-! PROOF. The timer frame starts of a domain (R76, R79). -/

namespace Sys2Proof.Machine

open State

theorem referenceNear_iff (s : State) (d : Dom) :
    s.referenceNear d = true ↔ ∃ t, (s.dom d).lastStart = some t ∧ (s.now - t).toNat ≤ 64 := by
  unfold referenceNear
  cases (s.dom d).lastStart with
  | none => simp
  | some t =>
    rw [decide_eq_true_eq]
    exact ⟨fun h => ⟨t, rfl, h⟩, fun ⟨t', ht, h⟩ => by cases ht; exact h⟩

section
variable {s : State} {d : Dom}

theorem lockLoss_absent (hl : (s.dom d).lock = .locked) (h : (s.dom d).holdoverLimit = 0) :
    s.lockLoss d = s.setLock d .absent := by
  simp only [lockLoss, hl, h, if_true]

theorem lockLoss_holdover (hl : (s.dom d).lock = .locked) (h : (s.dom d).holdoverLimit ≠ 0) :
    s.lockLoss d = s.setLock d .holdover := by
  simp only [lockLoss, hl, h, if_false]

theorem lockLoss_settling (hl : (s.dom d).lock = .settling) : s.lockLoss d = s.setLock d .acquiring := by
  simp only [lockLoss, hl]

theorem lockLoss_other (hl : (s.dom d).lock ≠ .settling) (hl' : (s.dom d).lock ≠ .locked) : s.lockLoss d = s := by
  unfold lockLoss
  split
  · next h => exact absurd h hl
  · next h => exact absurd h hl'
  · rfl

/-- The monitor's judgement of NONE leaves the lock state and the holdover limit. -/
theorem dom_forgetReference (last : Option Time) : (s.forgetReference d last).dom d =
    { s.dom d with seen := .none, lastStart := last, openDetection := false } := dom_setDom_same ..

end

/-- A frame start of the timer in LOCKED, by whether a pending loss shows and whether the reference is near. -/
theorem lockedFrame_eq (s : State) (d : Dom) (follows : Bool) : s.lockedFrame d follows =
    let u := (s.setDom d { s.dom d with timerAt := s.now }).switchPoint d
    if (s.dom d).lossPending = true ∧ ((follows || s.referenceNear d) = true ∨ (s.dom d).seen = .none) then u.lockLoss d
    else if (follows || s.referenceNear d) = true then u
    else u.loseReference d none := by
  unfold lockedFrame
  dsimp only
  simp only [Bool.and_eq_true, Bool.or_eq_true, decide_eq_true_eq]
  rfl

/-- Settles O36: the timer's frame start in LOCKED, in HOLDOVER, and in the other lock states. -/
theorem timerFrameStartsSwitch : Obligations.TimerFrameStartsSwitch := by
  unfold Obligations.TimerFrameStartsSwitch
  intro s d follows r at_ out
  have run : out = .next (timerFrame d follows s) := rfl
  refine ⟨fun hl hh => run.trans (congrArg _ ?_), fun hl => ?_, fun hh => ?_⟩
  · unfold timerFrame
    split
    · next h => exact absurd h hl
    · next h => exact absurd h hh
    · rfl
  · intro u near q lost shown judged
    have hnear : (follows || s.referenceNear d) = true ↔ near := by rw [Bool.or_eq_true, referenceNear_iff]
    have frame : timerFrame d follows s = s.lockedFrame d follows := by
      unfold timerFrame
      rw [show (s.dom d).lock = .locked from hl]
    have hframe := run.trans (congrArg _ (frame.trans (lockedFrame_eq s d follows)))
    have hjudged {v : State} (hlock : (v.dom d).lock = q.lock) (hlimit : (v.dom d).holdoverLimit = q.holdoverLimit)
        (h : out = .next (v.lockLoss d)) : judged v := by
      refine ⟨fun hq hz => h.trans (congrArg _ ?_), fun hq hz => h.trans (congrArg _ ?_), fun hq => h.trans (congrArg _ ?_)⟩
      · exact lockLoss_absent (hlock.trans hq) (hlimit.trans hz)
      · exact lockLoss_holdover (hlock.trans hq) (fun e => hz (hlimit.symm.trans e))
      · have hv := hlock.trans hq
        exact lockLoss_other (by rw [hv]; exact LockState.noConfusion) (by rw [hv]; exact LockState.noConfusion)
    refine ⟨fun hn hp => hframe.trans (congrArg _ ?_), fun hs => hjudged rfl rfl (hframe.trans (congrArg _ ?_)),
      fun hn hs => hjudged ?_ ?_ (hframe.trans (congrArg _ ?_))⟩
    · have hp : ¬ (s.dom d).lossPending = true := Bool.eq_false_iff.1 hp
      exact (if_neg (fun h => hp h.1)).trans (if_pos (hnear.2 hn))
    · exact if_pos ⟨hs.1, hs.2.imp_left hnear.2⟩
    · exact (congrArg DomRec.lock (dom_forgetReference (s := u) (d := d) none)).trans rfl
    · exact (congrArg DomRec.holdoverLimit (dom_forgetReference (s := u) (d := d) none)).trans rfl
    · exact (if_neg (fun h => hs ⟨h.1, h.2.imp_left hnear.1⟩)).trans (if_neg (fun h => hn (hnear.1 h)))
  · intro period v
    have frame : timerFrame d follows s = if s.holdoverDue d then s.holdoverFrame d else s := by
      unfold timerFrame
      rw [show (s.dom d).lock = .holdover from hh]
    have hdue : s.holdoverDue d = true ↔ period ≤ (s.now - r.timerAt).toNat := by
      unfold holdoverDue
      rw [Bool.and_eq_true, decide_eq_true_eq, decide_eq_true_eq]
      exact and_iff_right hh
    refine ⟨fun h => run.trans (congrArg _ (frame.trans (if_neg (fun hd => Nat.not_le.2 h (hdue.1 hd))))), fun h => ?_⟩
    have hframe := run.trans (congrArg _ (frame.trans (if_pos (hdue.2 h))))
    exact ⟨fun hlimit => hframe.trans (congrArg _ (if_pos hlimit)),
      fun hlimit => hframe.trans (congrArg _ (if_neg (Nat.not_le.2 hlimit)))⟩

end Sys2Proof.Machine
end

section
/-! PROOF. Reference frame starts and losses (R76 to R79). -/

namespace Sys2Proof.Machine

open State

/-! ## The monitor -/

/-- The record of a domain whose monitor has judged. -/
def State.monitored (s : State) (d : Dom) (seen : Seen) (last : Option Time) (spacing : Time) (opened : Bool) : State :=
  s.setDom d { s.dom d with seen := seen, lastStart := last, lastSpacing := spacing, openDetection := opened }

theorem dom_monitored (s : State) (d : Dom) (seen : Seen) (last : Option Time) (spacing : Time) (opened : Bool) :
    (s.monitored d seen last spacing opened).dom d =
      { s.dom d with seen := seen, lastStart := last, lastSpacing := spacing, openDetection := opened } :=
  dom_setDom_same ..

/-- A judgement leaves what the lock-state machine looks at, but for what is seen. -/
theorem monitored_keeps (s : State) (d : Dom) (seen : Seen) (last : Option Time) (spacing : Time) (opened : Bool) :
    let r := (s.monitored d seen last spacing opened).dom d
    r.lock = (s.dom d).lock ∧ r.standard = (s.dom d).standard ∧ r.timerAt = (s.dom d).timerAt ∧
      r.holdoverLimit = (s.dom d).holdoverLimit ∧ r.seen = seen ∧ r.settleCount = (s.dom d).settleCount ∧
      r.settleProgress = (s.dom d).settleProgress := by
  rw [dom_monitored]
  exact ⟨rfl, rfl, rfl, rfl, rfl, rfl, rfl⟩

theorem mem_matching {spacing : Nat} {c : Fin 8} :
    c ∈ matching spacing ↔ spacing ≤ Config.framePeriod c + 8 ∧ Config.framePeriod c ≤ spacing + 8 := by
  unfold matching
  rw [List.mem_filter, Bool.and_eq_true, decide_eq_true_eq, decide_eq_true_eq]
  exact and_iff_right (List.mem_finRange c)

theorem matching_nodup (spacing : Nat) : (matching spacing).Nodup := (List.nodup_finRange 8).filter _

theorem departs_iff (r : DomRec) (spacing : Nat) :
    departs r spacing = true ↔ seenPeriod r + 8 < spacing ∨ spacing + 8 < seenPeriod r := by
  unfold departs
  rw [Bool.or_eq_true, decide_eq_true_eq, decide_eq_true_eq]
  exact Iff.rfl

/-- With no standard near, the spacing is UNRECOGNISED. -/
theorem judgeSpacing_none (s : State) {spacing : Nat} (h : ∀ c, c ∉ matching spacing) :
    s.judgeSpacing spacing = (.unrecognised, s) := by
  unfold judgeSpacing
  rw [List.eq_nil_iff_forall_not_mem.2 h]

/-- With a standard near, one of those near is judged; it is a choice where there are several. -/
theorem judgeSpacing_some (s : State) {spacing : Nat} (h : ∃ c, c ∈ matching spacing) :
    ∃ c u, c ∈ matching spacing ∧ s.judgeSpacing spacing = (.standard c, u) ∧
      ((u = s ∧ ∀ c', c' ∈ matching spacing → c' = c) ∨
        (u = { s with choices := s.choices + 1 } ∧ ∃ c', c' ∈ matching spacing ∧ c' ≠ c)) := by
  have hnodup := matching_nodup spacing
  unfold judgeSpacing
  cases hm : matching spacing with
  | nil =>
    obtain ⟨c, hc⟩ := h
    rw [hm] at hc
    exact absurd hc List.not_mem_nil
  | cons c rest =>
    dsimp only
    cases rest with
    | nil =>
      refine ⟨c, s, List.mem_cons_self, rfl, .inl ⟨rfl, fun c' hc' => List.mem_singleton.1 hc'⟩⟩
    | cons c₂ rest =>
      rw [hm] at hnodup
      have hne : c ≠ c₂ := fun e => (List.nodup_cons.1 hnodup).1 (e ▸ List.mem_cons_self)
      refine ⟨_, _, getD_mem (choose_lt s _), rfl, .inr ⟨by rw [List.length_cons, choose_many], ?_⟩⟩
      by_cases hchosen : (c :: c₂ :: rest).getD (s.choose ((c₂ :: rest).length + 1)).1 c = c
      · exact ⟨c₂, List.mem_cons_of_mem _ List.mem_cons_self, fun e => hne (hchosen.symm.trans e.symm)⟩
      · exact ⟨c, List.mem_cons_self, fun e => hchosen e.symm⟩

/-! ## The lock-state machine (R77, R78, R79) -/

section
variable {s : State} {d : Dom}

theorem inPhase_iff (s : State) (d : Dom) : s.inPhase d = true ↔
    (s.now - (s.dom d).timerAt).toNat % Config.framePeriod (s.dom d).standard ≤ 64 ∨
    Config.framePeriod (s.dom d).standard -
      (s.now - (s.dom d).timerAt).toNat % Config.framePeriod (s.dom d).standard ≤ 64 := by
  unfold inPhase
  dsimp only
  rw [Bool.or_eq_true, decide_eq_true_eq, decide_eq_true_eq]
  exact Iff.rfl

theorem detect_idle (h : (s.dom d).lock = .closed ∨ (s.dom d).lock = .settling ∨ (s.dom d).lock = .locked) :
    s.detect d = s := by
  unfold detect
  dsimp only
  obtain h | h | h := h <;> rw [h]

theorem detect_mismatch (h : (s.dom d).lock = .acquiring ∨ (s.dom d).lock = .absent ∨ (s.dom d).lock = .holdover)
    (hs : (s.dom d).seen ≠ .standard (s.dom d).standard) : s.detect d = s.flagDomain d (s.dom d).lock true := by
  unfold detect
  dsimp only
  rw [decide_eq_false hs]
  obtain h | h | h := h <;> rw [h] <;> rfl

theorem detect_settles (h : (s.dom d).lock = .acquiring ∨ (s.dom d).lock = .absent)
    (hs : (s.dom d).seen = .standard (s.dom d).standard) : s.detect d = s.setLock d .settling := by
  unfold detect
  dsimp only
  rw [decide_eq_true hs]
  obtain h | h := h <;> rw [h] <;> rfl

theorem detect_holdover (h : (s.dom d).lock = .holdover) (hs : (s.dom d).seen = .standard (s.dom d).standard) :
    s.detect d = if s.inPhase d then s.returnInPhase d else s.setLock d .settling := by
  unfold detect
  dsimp only
  rw [decide_eq_true hs, h]
  rfl

/-- A reference frame start while SETTLING counts, and at the count the domain locks (R78). -/
theorem settleFrame_eq (s : State) (d : Dom) : s.settleFrame d =
    if (s.dom d).lock = .settling then
      if (s.dom d).settleCount ≤ (s.dom d).settleProgress + 1 then ((s.setLock d .locked).placeTimer d).switchPoint d
      else s.setDom d { s.dom d with settleProgress := (s.dom d).settleProgress + 1 }
    else s := rfl

/-! ## A frame start by what the monitor has seen (R76) -/

theorem referenceStart_first (h : (s.dom d).lastStart = none) :
    s.referenceStart d = s.setDom d { s.dom d with lastStart := some s.now } := by
  unfold referenceStart
  dsimp only
  rw [h]
  cases (s.dom d).seen <;> rfl

theorem referenceStart_unseen {t : Time} (h : (s.dom d).lastStart = some t) (hs : (s.dom d).seen = .none) {seen : Seen}
    {u : State} (hj : s.judgeSpacing (s.now - t).toNat = (seen, u)) (hu : u.domains = s.domains) :
    s.referenceStart d = (u.monitored d seen (some s.now) (s.now - t) (s.dom d).openDetection).detect d := by
  have hdom : u.dom d = s.dom d := congrArg (fun v => look v d) hu
  have hj : s.judgeSpacing (since s.now t) = (seen, u) := hj
  unfold referenceStart State.monitored
  dsimp only
  rw [h, hs]
  dsimp only
  rw [hj, ← hdom]

theorem referenceStart_departs {t : Time} (h : (s.dom d).lastStart = some t) (hs : (s.dom d).seen ≠ .none)
    (hd : departs (s.dom d) (s.now - t).toNat = true) : s.referenceStart d = s.departure d := by
  have hd : departs (s.dom d) (since s.now t) = true := hd
  unfold referenceStart
  dsimp only
  rw [h]
  cases hseen : (s.dom d).seen with
  | none => exact absurd hseen hs
  | unrecognised => exact if_pos hd
  | standard c => exact if_pos hd

theorem referenceStart_stays {t : Time} (h : (s.dom d).lastStart = some t) (hs : (s.dom d).seen ≠ .none)
    (hd : departs (s.dom d) (s.now - t).toNat = false) :
    let u := s.monitored d (s.dom d).seen (some s.now) (s.now - t) false
    s.referenceStart d = if (s.dom d).openDetection then u.detect d else u.settleFrame d := by
  have hd : ¬ departs (s.dom d) (since s.now t) = true := Bool.eq_false_iff.1 hd
  have same : s.monitored d (s.dom d).seen (some s.now) (s.now - t) false =
      s.setDom d { s.dom d with lastStart := some s.now, lastSpacing := s.now - t, openDetection := false } := rfl
  rw [same]
  unfold referenceStart
  dsimp only
  rw [h]
  cases hseen : (s.dom d).seen with
  | none => exact absurd hseen hs
  | unrecognised => exact if_neg hd
  | standard c => exact if_neg hd

theorem lossDue_iff (s : State) (d : Dom) : s.lossDue d = true ↔ (s.dom d).seen ≠ .none ∧
    ∃ t, (s.dom d).lastStart = some t ∧ 3 * seenPeriod (s.dom d) ≤ 2 * (s.now - t).toNat := by
  have due {t : Time} : decide (3 * seenPeriod (s.dom d) ≤ 2 * since s.now t) = true ↔
      ∃ t', some t = some t' ∧ 3 * seenPeriod (s.dom d) ≤ 2 * (s.now - t').toNat := by
    rw [decide_eq_true_eq]
    exact ⟨fun h => ⟨t, rfl, h⟩, fun ⟨t', ht, h⟩ => by cases ht; exact h⟩
  unfold lossDue
  dsimp only
  cases hs : (s.dom d).seen with
  | none => simp
  | unrecognised =>
    cases hl : (s.dom d).lastStart with
    | none => simp
    | some t => exact due.trans (and_iff_right (by simp)).symm
  | standard c =>
    cases hl : (s.dom d).lastStart with
    | none => simp
    | some t => exact due.trans (and_iff_right (by simp)).symm

end

/-- HOLDOVER returns in phase with a switch point unless the timer's own frame start has just been one (R79). -/
theorem returnInPhase_eq (s : State) (d : Dom) : s.returnInPhase d =
    if (s.now - (s.dom d).timerAt).toNat ≤ 64 then (s.setLock d .locked).placeTimer d
    else ((s.setLock d .locked).placeTimer d).switchPoint d := by
  unfold returnInPhase
  simp only [decide_eq_true_eq]
  rfl

/-- Settles O35: the frame start by what has been seen, the detection by the lock state, the loss and its timeout. -/
theorem referenceDrivesTheLockState : Obligations.ReferenceDrivesTheLockState := by
  unfold Obligations.ReferenceDrivesTheLockState
  intro s d r monitor seenPeriod period phase inPhase mismatch locked lost detected answers
  have hperiod : State.seenPeriod r = seenPeriod := rfl
  have hmonitor (u : State) (seen : Seen) (last : Option Time) (spacing : Time) (opened : Bool) :
      u.monitored d seen last spacing opened = monitor u seen last spacing opened := rfl
  have hlost {u : State} (hlock : (u.dom d).lock = r.lock) (hlimit : (u.dom d).holdoverLimit = r.holdoverLimit) :
      u.lockLoss d = lost u := by
    unfold lockLoss
    rw [hlock, hlimit] <;> rfl
  have hdetect {u : State} {seen : Seen} (hlock : (u.dom d).lock = r.lock) (hstd : (u.dom d).standard = r.standard)
      (htimer : (u.dom d).timerAt = r.timerAt) (hseen : (u.dom d).seen = seen) (hnow : u.now = s.now) :
      detected u (u.detect d) seen := by
    have hphase : u.inPhase d = true ↔ inPhase := by
      rw [inPhase_iff, hnow, htimer, hstd]
    refine ⟨fun h => detect_idle (by rw [hlock]; exact h), fun h hs => ?_, fun h hs => ?_, fun h hs => ?_⟩
    · rw [detect_mismatch (by rw [hlock]; exact h) (by rw [hseen, hstd]; exact hs), hlock]
      rfl
    · exact detect_settles (by rw [hlock]; exact h) (by rw [hseen, hstd]; exact hs)
    · have hd := detect_holdover (s := u) (by rw [hlock]; exact h) (by rw [hseen, hstd]; exact hs)
      refine ⟨fun hp => hd.trans (if_neg (fun hi => hp (hphase.1 hi))), fun hp hn => ?_, fun hp hn => ?_⟩
      · exact hd.trans ((if_pos (hphase.2 hp)).trans ((returnInPhase_eq u d).trans (if_pos (by rw [hnow, htimer]; exact hn))))
      · exact hd.trans ((if_pos (hphase.2 hp)).trans ((returnInPhase_eq u d).trans
          (if_neg (by rw [hnow, htimer]; exact Nat.not_le.2 hn))))
  have answered {v : State} (h : s.referenceStart d = v) : answers v := congrArg Host.Outcome.next h
  refine ⟨fun h => answered (referenceStart_first h), fun t ht => ?_, fun t ht hs => ?_, fun h => ?_⟩
  · intro spacing near departed
    have hnear (c : Fin 8) : c ∈ matching (s.now - t).toNat ↔ near c := mem_matching
    have hdepart : departs r (s.now - t).toNat = true ↔ departed := departs_iff ..
    refine ⟨fun hs => ⟨fun hnone => ?_, fun hsome => ?_⟩, fun hs hd => ?_, fun hs hd => ?_⟩
    · have hj := judgeSpacing_none s (fun c hc => hnone c ((hnear c).1 hc))
      obtain ⟨hlock, hstd, htimer, -, hseen, -⟩ := monitored_keeps s d .unrecognised (some s.now) (s.now - t) r.openDetection
      exact ⟨_, answered (referenceStart_unseen ht hs hj rfl), hdetect hlock hstd htimer hseen rfl⟩
    · obtain ⟨c, u, hc, hj, hu⟩ := judgeSpacing_some s (hsome.imp fun c => (hnear c).2)
      have hsame : u.domains = s.domains ∧ u.now = s.now := by
        obtain ⟨rfl, -⟩ | ⟨rfl, -⟩ := hu <;> exact ⟨rfl, rfl⟩
      have hdom : u.dom d = r := congrArg (fun v => look v d) hsame.1
      obtain ⟨hlock, hstd, htimer, -, hseen, -⟩ := monitored_keeps u d (.standard c) (some s.now) (s.now - t) r.openDetection
      rw [hdom] at hlock hstd htimer
      refine ⟨c, _, u, (hnear c).1 hc, answered (referenceStart_unseen ht hs hj hsame.1), ?_,
        hdetect hlock hstd htimer hseen hsame.2⟩
      exact hu.imp (fun ⟨he, h⟩ => ⟨he, fun c' hc' => h c' ((hnear c').2 hc')⟩)
        (fun ⟨he, c', hc', hne⟩ => ⟨he, c', (hnear c').1 hc', hne⟩)
    · intro u
      have hrun := referenceStart_departs ht hs (hdepart.2 hd)
      have hawait : s.lossAwaited d = true ↔ r.lock = .locked ∧ 64 < (s.now - r.timerAt).toNat := by
        unfold lossAwaited
        rw [Bool.and_eq_true, decide_eq_true_eq, decide_eq_true_eq]
        exact Iff.rfl
      have hforget : s.forgetReference d (some s.now) = u := rfl
      obtain ⟨hlock, -, -, hlimit, -⟩ := monitored_keeps s d .none (some s.now) r.lastSpacing false
      refine ⟨fun h => answered (hrun.trans ((if_neg (fun ha => ?_)).trans ?_)),
        fun h h' => answered (hrun.trans (if_pos (hawait.2 ⟨h, h'⟩)))⟩
      · obtain ⟨hlock, hlate⟩ := hawait.1 ha
        exact h.elim (fun hne => hne hlock) (Nat.not_le.2 hlate)
      · rw [hforget]
        exact hlost hlock hlimit
    · intro u
      have hstays := referenceStart_stays ht hs (Bool.eq_false_iff.2 (fun h => hd (hdepart.1 h)))
      have hu : s.monitored d r.seen (some s.now) (s.now - t) false = u := rfl
      obtain ⟨hlock, hstd, htimer, -, hseen, hcount, hprogress⟩ := monitored_keeps s d r.seen (some s.now) (s.now - t) false
      have hstays : s.referenceStart d = if r.openDetection then u.detect d else u.settleFrame d := hstays
      refine ⟨fun ho => ⟨_, answered (hstays.trans (if_pos ho)), hdetect hlock hstd htimer hseen rfl⟩,
        fun ho hlock' => ?_, fun ho hlock' => ?_⟩
      · exact answered ((hstays.trans (if_neg (Bool.eq_false_iff.1 ho))).trans
          ((settleFrame_eq u d).trans (if_neg (fun hl => hlock' (hlock.symm.trans hl)))))
      · have hsettle : s.referenceStart d = _ := (hstays.trans (if_neg (Bool.eq_false_iff.1 ho))).trans
          ((settleFrame_eq u d).trans (if_pos (hlock.trans hlock')))
        have hcount : (u.dom d).settleCount = r.settleCount := hcount
        have hprogress : (u.dom d).settleProgress = r.settleProgress := hprogress
        rw [hcount, hprogress] at hsettle
        exact ⟨fun h => answered (hsettle.trans (if_pos h)), fun h => answered (hsettle.trans (if_neg (Nat.not_le.2 h)))⟩
  · have hdue : s.lossDue d = true ↔ 3 * seenPeriod ≤ 2 * (s.now - t).toNat := by
      rw [lossDue_iff]
      refine ⟨fun ⟨_, t', ht', h⟩ => ?_, fun h => ⟨hs, t, ht, h⟩⟩
      obtain rfl : t = t' := Option.some.inj (ht.symm.trans ht')
      exact h
    refine ⟨fun h => ?_, fun h => congrArg _ (if_neg (fun hd => Nat.not_le.2 h (hdue.1 hd)))⟩
    intro u
    obtain ⟨hlock, -, -, hlimit, -⟩ := monitored_keeps s d .none none r.lastSpacing false
    have hforget : s.forgetReference d none = u := rfl
    have hlose : loseByTimeout d s = if r.lossPending then u else u.lockLoss d := if_pos (hdue.2 h)
    refine ⟨fun hp => congrArg Host.Outcome.next (hlose.trans ((if_neg (Bool.eq_false_iff.1 hp)).trans (hlost hlock hlimit))),
      fun hp => congrArg Host.Outcome.next (hlose.trans (if_pos hp))⟩
  · have hdue : ¬ s.lossDue d = true := fun hdue => by
      obtain ⟨hseen, t, ht, -⟩ := (lossDue_iff s d).1 hdue
      exact h.elim (fun hl => nomatch hl.symm.trans ht) hseen
    exact congrArg _ (if_neg hdue)

end Sys2Proof.Machine
end

section
/-! PROOF. Switch points, events and their consumers (R82, R85, R142, R159, R164, R165). -/

namespace Sys2Proof.Machine

open State

/-! ## Delivery -/

theorem deliver_nil (s : State) : s.deliver [] = s := rfl

/-- One arrival is applied whole; the rest follow with what it forwarded. -/
theorem deliver_step (s : State) {as : List Arrival} (hne : as ≠ []) :
    let u : State := if as.length = 1 then s else { s with choices := s.choices + 1 }
    ∃ i a, as[i]? = some a ∧ s.deliver as = (u.arrive a).1.settle.deliver (as.eraseIdx i ++ (u.arrive a).2) := by
  obtain ⟨a, rest, rfl⟩ := List.exists_cons_of_ne_nil hne
  intro u
  have hu : (if rest = [] then s else { s with choices := s.choices + 1 } : State) = u := by
    have hlen : (a :: rest).length = 1 ↔ rest = [] := by simp
    simp only [u, hlen]
  obtain ⟨b, hb, hrun⟩ := runArrivals_succ (weights (a :: rest)) s a rest
  rw [hu] at hrun
  refine ⟨_, b, hb, ?_⟩
  have hbound : s.deliver (a :: rest) = runArrivals (weights (a :: rest) + 1) (a :: rest) s :=
    runArrivals_bound (Nat.le_refl _) (Nat.le_succ _)
  rw [hbound, hrun]
  refine runArrivals_bound ?_ (Nat.le_refl _)
  have hweight := weights_eraseIdx hb
  have hmore := weights_arrive u b
  rw [weights_append]
  omega

theorem deliver_single (s : State) (a : Arrival) :
    s.deliver [a] = (s.arrive a).1.settle.deliver (s.arrive a).2 := by
  obtain ⟨i, b, hb, hrun⟩ := deliver_step s (List.cons_ne_nil a [])
  cases i with
  | succ i => cases hb
  | zero =>
    cases hb
    exact hrun

/-- An arrival that is no trigger forwards nothing. -/
theorem arrive_forwards_nothing {a : Arrival} (h : ∀ k, a ≠ .trigger k) (s : State) : (s.arrive a).2 = [] := by
  cases a with
  | trigger k => exact absurd rfl (h k)
  | _ => rfl

theorem deliver_lone {a : Arrival} (h : ∀ k, a ≠ .trigger k) (s : State) : s.deliver [a] = (s.arrive a).1.settle := by
  rw [deliver_single, arrive_forwards_nothing h, deliver_nil]

theorem deliver_window (s : State) (d : Dom) (tags : List Tag) :
    s.deliver [.window d tags] = (s.issueWindow d tags).settle := by
  have harrive : s.arrive (.window d tags) = (s.issueWindow d tags, []) := by rw [arrive]
  rw [deliver_lone (a := .window d tags) (fun _ => Arrival.noConfusion), harrive]

theorem deliver_mark (s : State) (d : Dom) : s.deliver [.mark d] = (s.setDom d (s.dom d).takeMark).settle :=
  deliver_lone (fun _ => Arrival.noConfusion) s

theorem deliver_pair {a b : Arrival} (ha : ∀ k, a ≠ .trigger k) (hb : ∀ k, b ≠ .trigger k) (s : State) :
    let u : State := { s with choices := s.choices + 1 }
    s.deliver [a, b] = ((u.arrive a).1.settle.arrive b).1.settle ∨
    s.deliver [a, b] = ((u.arrive b).1.settle.arrive a).1.settle := by
  intro u
  obtain ⟨i, c, hc, hrun⟩ := deliver_step s (List.cons_ne_nil a [b])
  have hu : (if [a, b].length = 1 then s else { s with choices := s.choices + 1 } : State) = u := if_neg (by simp)
  rw [hu] at hrun
  match i with
  | 0 =>
    cases hc
    refine .inl (hrun.trans ?_)
    rw [arrive_forwards_nothing ha]
    exact deliver_lone hb _
  | 1 =>
    cases hc
    refine .inr (hrun.trans ?_)
    rw [arrive_forwards_nothing hb]
    exact deliver_lone ha _
  | i + 2 => cases hc

/-! ## The consumers bound to an event (R159) -/

theorem mem_boundTo {n : Nat} {v : Vector Byte n} {id : Byte} {i : Fin n} : i ∈ boundTo v id ↔ look v i = id := by
  unfold boundTo
  rw [filter_entries, List.mem_filter, decide_eq_true_eq]
  exact and_iff_right (List.mem_finRange i)

theorem boundTo_nodup {n : Nat} (v : Vector Byte n) (id : Byte) : (boundTo v id).Nodup := by
  unfold boundTo
  rw [filter_entries]
  exact (List.nodup_finRange n).filter _

theorem arrivals_nodup (s : State) (id : Byte) : (s.arrivals id).Nodup := by
  unfold arrivals pollsAndMarks
  refine List.nodup_append.2 ⟨(boundTo_nodup _ _).map fun _ _ h => Arrival.trigger.inj h,
    List.nodup_append.2 ⟨(boundTo_nodup _ _).map fun _ _ h => Arrival.poll.inj h,
      (boundTo_nodup _ _).map fun _ _ h => Arrival.mark.inj h, ?_⟩, ?_⟩
  · intro a ha b hb
    obtain ⟨p, -, rfl⟩ := List.mem_map.1 ha
    obtain ⟨d, -, rfl⟩ := List.mem_map.1 hb
    exact Arrival.noConfusion
  · intro a ha b hb
    obtain ⟨k, -, rfl⟩ := List.mem_map.1 ha
    obtain hb | hb := List.mem_append.1 hb
    · obtain ⟨p, -, rfl⟩ := List.mem_map.1 hb
      exact Arrival.noConfusion
    · obtain ⟨d, -, rfl⟩ := List.mem_map.1 hb
      exact Arrival.noConfusion

theorem mem_arrivals_trigger {s : State} {id : Byte} {k : Cmp} : Arrival.trigger k ∈ s.arrivals id ↔ look s.router.trigger k = id := by
  simp [arrivals, pollsAndMarks, mem_boundTo]

theorem mem_arrivals_poll {s : State} {id : Byte} {p : Port} : Arrival.poll p ∈ s.arrivals id ↔ look s.router.poll p = id := by
  simp [arrivals, pollsAndMarks, mem_boundTo]

theorem mem_arrivals_mark {s : State} {id : Byte} {d : Dom} : Arrival.mark d ∈ s.arrivals id ↔ look s.router.mark d = id := by
  simp [arrivals, pollsAndMarks, mem_boundTo]

/-! ## The obligation -/

theorem advance_eq (r : DomRec) : r.advance = { r with
    number := r.number + 1
    timecode := match r.pendingTimecode with
      | some (v, _) => v % Config.framesPerDay r.standard
      | none => (r.timecode + 1) % Config.framesPerDay r.standard
    pendingTimecode := none } := by
  unfold DomRec.advance
  cases h : r.pendingTimecode with
  | none => dsimp only
  | some e => rfl

theorem takeMark_rests {r : DomRec} (h : r.markStatus = .idle ∨ r.markStatus = .doneSingle) : r.takeMark = r := by
  unfold DomRec.takeMark
  obtain h | h := h <;> rw [h]

theorem takeMark_continuous {r : DomRec} (h : r.markStatus = .continuous) : r.takeMark =
    { r with markCounter := r.markCounter + 1, pendingTimecode := some (r.markPreset, .mark) } := by
  cases r
  cases h
  rfl

theorem takeMark_single {r : DomRec} (h : r.markStatus = .armedSingle) : r.takeMark = { r with
    markCounter := r.markCounter + 1, pendingTimecode := some (r.markPreset, .mark), markStatus := .doneSingle } := by
  cases r
  cases h
  rfl

theorem setDom_dom (s : State) (d : Dom) : s.setDom d (s.dom d) = s := by
  unfold setDom State.dom
  rw [put_look]

/-- Settles O37: the switch point's two parts, and what each arrival alone or of several makes of the state. -/
theorem switchPointsAndEventsReachTheirConsumers : Obligations.SwitchPointsAndEventsReachTheirConsumers := by
  unfold Obligations.SwitchPointsAndEventsReachTheirConsumers
  intro s
  refine ⟨fun d => ?_, fun id => ⟨arrivals_nodup s id, rfl, fun k => mem_arrivals_trigger, fun p => mem_arrivals_poll,
    fun d => mem_arrivals_mark⟩, rfl, fun p => deliver_lone (fun k => Arrival.noConfusion) s, fun d => ?_,
    fun a b ha hb => deliver_pair ha hb s, fun k => deliver_single s _, fun k => rfl, fun as hne => deliver_step s hne⟩
  · intro r n u tags
    have hu : s.setDom d (s.dom d).advance = u := by rw [advance_eq]; rfl
    have hswitch : s.switchPoint d = u.deliver (.window d tags :: u.arrivals (BitVec.ofNat 8 (1 + d.val))) := by
      have htags : (s.setDom d (s.dom d).advance).queueTags d = tags := rfl
      have hid : switchPointEvent d = BitVec.ofNat 8 (1 + d.val) := rfl
      unfold switchPoint
      dsimp only
      rw [htags, hu, hid]
    refine ⟨hswitch, fun h => ?_⟩
    rw [hswitch, h]
    exact deliver_window u d tags
  · intro r taken
    have hmark : s.deliver [.mark d] = (s.setDom d r.takeMark).settle := deliver_mark s d
    refine ⟨fun h => ?_, fun h => ?_, fun h => ?_⟩
    · rw [hmark, takeMark_rests h, setDom_dom]
    · rw [hmark, takeMark_continuous h]
      rfl
    · rw [hmark, takeMark_single h]
      rfl

end Sys2Proof.Machine
end

section
/-! PROOF. The GPI inputs (R160, R161). -/

namespace Sys2Proof.Machine

open State

section
variable (s : State) (i : Gpi)

theorem gpi_setGpi (r : GpiRec) : (s.setGpi i r).gpi i = r := look_put_same ..

theorem setGpi_setGpi (r r' : GpiRec) : (s.setGpi i r).setGpi i r' = s.setGpi i r' := by
  unfold setGpi
  rw [put_put]

theorem gpi_raise (id : Byte) : (s.raise id).gpi i = s.gpi i := by
  have hgpis : (s.raise id).gpis = s.gpis := by simp
  exact congrArg (fun v => look v i) hgpis

/-- A level taken while the record is being written is written with it. -/
theorem takeLevel_setGpi (r : GpiRec) (high : Bool) : (s.setGpi i r).takeLevel i high =
    (s.setGpi i { r with level := high, candidate := none }).raise (gpiEvent i high) := by
  unfold takeLevel
  rw [gpi_setGpi, setGpi_setGpi]

theorem candidateDue_eq_some (high : Bool) : s.candidateDue i = some high ↔
    ∃ t, (s.gpi i).candidate = some (high, t) ∧ (s.gpi i).debounce * 1000 ≤ (s.now - t).toNat := by
  unfold candidateDue
  cases hc : (s.gpi i).candidate with
  | none => simp
  | some e =>
    obtain ⟨b, t⟩ := e
    dsimp only
    by_cases hd : (s.gpi i).debounce * 1000 ≤ since s.now t
    · rw [if_pos hd]
      refine ⟨fun h => ?_, fun ⟨t', h, _⟩ => ?_⟩
      · cases h
        exact ⟨t, rfl, hd⟩
      · cases h
        rfl
    · rw [if_neg hd]
      refine ⟨fun h => absurd h.symm (Option.some_ne_none _), fun hex => ?_⟩
      obtain ⟨t', h, hlate⟩ := hex
      cases h
      exact absurd hlate hd

theorem candidateDue_eq_none (h : ∀ high, ¬ ∃ t, (s.gpi i).candidate = some (high, t) ∧
    (s.gpi i).debounce * 1000 ≤ (s.now - t).toNat) : s.candidateDue i = none := by
  cases hd : s.candidateDue i with
  | none => rfl
  | some high => exact absurd ((candidateDue_eq_some s i high).1 hd) (h high)

theorem judgeCandidate_due {high : Bool} (h : s.candidateDue i = some high) : s.judgeCandidate i = s.takeLevel i high := by
  unfold judgeCandidate
  rw [h]

theorem judgeCandidate_idle (h : s.candidateDue i = none) : s.judgeCandidate i = s := by
  unfold judgeCandidate
  rw [h]

/-- SET GPI once its fields have been read. -/
theorem runSetGpi_read {debounce : Byte} (h : debounce.toNat ≤ 50) : runSetGpi (num8 i) debounce s =
    (.ok (eFlag ((((s.setGpi i { s.gpi i with debounce := debounce.toNat }).judgeCandidate i).gpi i).level)),
      (s.setGpi i { s.gpi i with debounce := debounce.toNat }).judgeCandidate i) := by
  simp only [runSetGpi, below_num8_8, if_neg (Nat.not_lt.2 h)]

end

/-- Settles O39: a change of the pin, the debounce's end, and SET GPI, which judges a candidate at once. -/
theorem gpiInputsAreDebounced : Obligations.GpiInputsAreDebounced := by
  unfold Obligations.GpiInputsAreDebounced
  intro s i r kept edge held
  have hedge (high : Bool) : gpiEvent i high = edge high := rfl
  refine ⟨fun high => ⟨fun h => ?_, fun h h' => ?_, fun h h' h'' => ?_, fun h h' h'' => ?_⟩, fun high h => ?_, fun h => ?_,
    fun tag hl => ⟨fun input debounce h => ?_, fun debounce h => ?_, fun debounce h => ?_⟩⟩
  · exact congrArg Host.Outcome.next (if_pos h)
  · exact congrArg Host.Outcome.next ((if_neg h).trans (if_pos h'))
  · exact congrArg Host.Outcome.next ((if_neg h).trans ((if_neg h').trans (if_neg h'')))
  · exact congrArg Host.Outcome.next ((if_neg h).trans ((if_neg h').trans ((if_pos h'').trans (takeLevel_setGpi s i _ high))))
  · exact congrArg Host.Outcome.next (judgeCandidate_due s i ((candidateDue_eq_some s i high).2 h))
  · exact congrArg Host.Outcome.next (judgeCandidate_idle s i (candidateDue_eq_none s i h))
  · exact answers_of rfl rfl rfl hl (by simp only [runSetGpi, below_of_ge h]; rfl)
  · exact answers_of rfl rfl rfl hl (by simp only [runSetGpi, below_num8_8, if_pos h]; rfl)
  · have hread := runSetGpi_read s i h
    have hgpi := gpi_setGpi s i { r with debounce := debounce.toNat }
    refine ⟨fun high hheld => answers_of rfl rfl rfl hl (hread.trans ?_), fun hnone =>
      answers_of rfl rfl rfl hl (hread.trans ?_)⟩
    · have hdue := (candidateDue_eq_some (s.setGpi i { r with debounce := debounce.toNat }) i high).2
        (by rw [hgpi]; exact hheld)
      rw [judgeCandidate_due _ _ hdue, takeLevel_setGpi, gpi_raise, gpi_setGpi]
      cases high <;> rfl
    · have hdue := candidateDue_eq_none (s.setGpi i { r with debounce := debounce.toNat }) i
        (by rw [hgpi]; exact hnone)
      rw [judgeCandidate_idle _ _ hdue, hgpi]
      have hflag : eFlag r.level = [if r.level then 1 else 0] := by cases r.level <;> rfl
      exact congrArg (fun l => (Reply.mk .ok l, kept { r with debounce := debounce.toNat })) hflag

end Sys2Proof.Machine
end

section
/-! PROOF. SET COMPARATOR (R168). -/

namespace Sys2Proof.Machine

open State

/-! ## The fields read -/

theorem asFlag_ok {b : Byte} (h : b.toNat ≤ 1) : ∃ x, asFlag b = some x := by
  have hb : b = 0 ∨ b = 1 := by bv_omega
  obtain rfl | rfl := hb
  · exact ⟨false, rfl⟩
  · exact ⟨true, rfl⟩

theorem asCmpMode_bad {b : Byte} (h : 3 < b.toNat) : asCmpMode b = none := by
  unfold asCmpMode
  split
  · omega
  · omega
  · omega
  · omega
  · rfl

theorem asCmpMode_code (m : CmpMode) : asCmpMode (BitVec.ofNat 8 (cmpModeCode m)) = some m := by
  cases m <;> rfl

theorem asCmpMode_ok {b : Byte} (h : b.toNat ≤ 3) : ∃ m, asCmpMode b = some m := by
  have hb : b = 0 ∨ b = 1 ∨ b = 2 ∨ b = 3 := by bv_omega
  obtain rfl | rfl | rfl | rfl := hb
  · exact ⟨_, rfl⟩
  · exact ⟨_, rfl⟩
  · exact ⟨_, rfl⟩
  · exact ⟨_, rfl⟩

/-- The three bytes of an action spell it (11.3). -/
def ActionSpelt (a : Action) (f : Byte × Byte × Byte) : Prop :=
  match a with
  | .none => f.1 = 0
  | .fireSalvo n => f.1 = 1 ∧ f.2.1 = num8 n
  | .recorder p c => f.1 = 2 ∧ f.2.1 = num8 p ∧ f.2.2 = BitVec.ofNat 8 (commandCode c)
  | .attention => f.1 = 3

/-- The byte at this offset of an action is the first that does not read. -/
def ActionWrong (f : Byte × Byte × Byte) (offset : Nat) : Prop :=
  (offset = 0 ∧ 3 < f.1.toNat) ∨ (offset = 1 ∧ ((f.1 = 1 ∧ 31 < f.2.1.toNat) ∨ (f.1 = 2 ∧ 15 < f.2.1.toNat))) ∨
  (offset = 2 ∧ f.1 = 2 ∧ f.2.1.toNat ≤ 15 ∧ (f.2.2 = 0 ∨ 4 < f.2.2.toNat))

theorem asAction_fire {p1 : Byte} {n : Salvo} (h : below 32 p1.toNat = some n) (p2 : Byte) :
    asAction 1 p1 p2 = .good (.fireSalvo n) := by simp [asAction, h]

theorem asAction_recorder {p1 p2 : Byte} {p : Port} {c : RecorderCommand} (hp : below 16 p1.toNat = some p)
    (hc : asCommand p2 = some c) : asAction 2 p1 p2 = .good (.recorder p c) := by simp [asAction, hp, hc]

theorem asAction_spelt {a : Action} {f : Byte × Byte × Byte} (h : ActionSpelt a f) :
    asAction f.1 f.2.1 f.2.2 = .good a := by
  obtain ⟨kind, p1, p2⟩ := f
  cases a with
  | none =>
    cases h
    rfl
  | fireSalvo n =>
    obtain ⟨hkind, hparam⟩ := h
    cases hkind
    cases hparam
    exact asAction_fire (below_num8_32 n) p2
  | recorder p c =>
    obtain ⟨hkind, hport, hcommand⟩ := h
    cases hkind
    cases hport
    cases hcommand
    exact asAction_recorder (below_num8_16 p) (asCommand_code c)
  | attention =>
    cases h
    rfl

theorem asAction_wrong {f : Byte × Byte × Byte} {x : Nat} (h : ActionWrong f x) : asAction f.1 f.2.1 f.2.2 = .bad x := by
  obtain ⟨kind, p1, p2⟩ := f
  obtain ⟨rfl, hkind⟩ | ⟨rfl, ⟨hkind, hparam⟩ | ⟨hkind, hparam⟩⟩ | ⟨rfl, hkind, hport, hcommand⟩ := h
  · dsimp only at hkind ⊢
    unfold asAction
    split
    · omega
    · omega
    · omega
    · omega
    · rfl
  · cases hkind
    simp [asAction, below_of_ge hparam]
  · cases hkind
    simp [asAction, below_of_ge hparam]
  · cases hkind
    have hlt : p1.toNat < 16 := Nat.lt_succ_of_le hport
    simp [asAction, below_of_lt hlt, asCommand_bad hcommand]

/-! ## The request -/

section
variable {s : State} {k : Cmp} {origin margin : U32} {period : U16} {trigger domain strict mode panel : Byte}
  {onTrue onFalse : Byte × Byte × Byte}

/-- SET COMPARATOR on its comparator, with the two actions as triples of bytes. -/
def setComparatorOn (k : Cmp) (origin margin : U32) (period : U16) (trigger : Byte) (onTrue onFalse : Byte × Byte × Byte)
    (domain strict mode panel : Byte) (s : State) : Reply × State :=
  runSetComparator (num8 k) domain origin margin period strict mode trigger panel onTrue.1 onTrue.2.1 onTrue.2.2
    onFalse.1 onFalse.2.1 onFalse.2.2 s

/-- The actions as the request's six bytes read. -/
def actionsRead (onTrue onFalse : Byte × Byte × Byte) : Except Nat (Action × Action) :=
  readActions onTrue.1 onTrue.2.1 onTrue.2.2 onFalse.1 onFalse.2.1 onFalse.2.2

theorem setComparatorOn_error {n : Nat} (h : readCmpConfig domain strict mode panel (actionsRead onTrue onFalse) = .error n) :
    setComparatorOn k origin margin period trigger onTrue onFalse domain strict mode panel s = (.badField n, s) := by
  unfold actionsRead at h
  simp only [setComparatorOn, runSetComparator, below_num8_8, h]

theorem setComparatorOn_read {c : CmpConfig}
    (h : readCmpConfig domain strict mode panel (actionsRead onTrue onFalse) = .ok c) :
    setComparatorOn k origin margin period trigger onTrue onFalse domain strict mode panel s =
      setComparatorChecked k c origin margin period trigger s := by
  unfold actionsRead at h
  simp only [setComparatorOn, runSetComparator, below_num8_8, h]

theorem actionsRead_wrong_true {x : Nat} (h : ActionWrong onTrue x) : actionsRead onTrue onFalse = .error (10 + x) := by
  simp only [actionsRead, readActions, asAction_wrong h]

theorem actionsRead_wrong_false {a : Action} {x : Nat} (ha : ActionSpelt a onTrue) (h : ActionWrong onFalse x) :
    actionsRead onTrue onFalse = .error (13 + x) := by
  simp only [actionsRead, readActions, asAction_spelt ha, asAction_wrong h]

theorem actionsRead_spelt {a b : Action} (ha : ActionSpelt a onTrue) (hb : ActionSpelt b onFalse) :
    actionsRead onTrue onFalse = .ok (a, b) := by
  simp only [actionsRead, readActions, asAction_spelt ha, asAction_spelt hb]

/-- The fields between the comparator and the actions read; the actions decide. -/
theorem readCmpConfig_actions (d : Dom) {p : Panel} (hs : strict.toNat ≤ 1) (hm : mode.toNat ≤ 3) (n : Nat) :
    readCmpConfig (num8 d) strict mode (num8 p) (.error n) = .error n := by
  obtain ⟨b, hb⟩ := asFlag_ok hs
  obtain ⟨m, hm⟩ := asCmpMode_ok hm
  simp only [readCmpConfig, below_num8_4, hb, hm, below_num8_64]

end

/-- Settles O40: the fields in their order, then the timecodes, the trigger, and the record of an accepted request. -/
theorem setComparatorChecksThenArms : Obligations.SetComparatorChecksThenArms := by
  unfold Obligations.SetComparatorChecksThenArms
  intro s tag hl request coded wrong
  refine ⟨fun k domain origin margin period strict mode trigger panel onTrue onFalse hk =>
    answers_of rfl rfl rfl hl (by simp only [runSetComparator, below_of_ge hk]; rfl),
    fun k origin margin period trigger onTrue onFalse => ?_⟩
  intro on
  have answered {domain strict mode panel : Byte} {status : Status} {tail : List Byte} {t : State}
      (h : setComparatorOn k origin margin period trigger onTrue onFalse domain strict mode panel s = (⟨status, tail⟩, t)) :
      Answers (on domain strict mode panel) s status tail t := answers_of rfl rfl rfl hl h
  refine ⟨fun domain strict mode panel h => answered (setComparatorOn_error ?_),
    fun d strict mode panel h => answered (setComparatorOn_error ?_),
    fun d strict mode panel hs h => answered (setComparatorOn_error ?_),
    fun d strict mode panel hs hm h => answered (setComparatorOn_error ?_),
    fun d strict mode p hs hm => ⟨fun x hx => answered (setComparatorOn_error ?_),
      fun a x ha hx => answered (setComparatorOn_error ?_)⟩,
    fun d strict code mode p a b hcode ha hb => ?_⟩
  · simp only [readCmpConfig, below_of_ge h]
  · simp only [readCmpConfig, below_num8_4, asFlag_bad h]
  · obtain ⟨b, hb⟩ := asFlag_ok hs
    simp only [readCmpConfig, below_num8_4, hb, asCmpMode_bad h]
  · obtain ⟨b, hb⟩ := asFlag_ok hs
    obtain ⟨m, hm⟩ := asCmpMode_ok hm
    simp only [readCmpConfig, below_num8_4, hb, hm, below_of_ge h]
  · rw [actionsRead_wrong_true hx]
    exact readCmpConfig_actions d hs hm _
  · rw [actionsRead_wrong_false ha hx]
    exact readCmpConfig_actions d hs hm _
  · intro c n bad
    have hread : readCmpConfig (num8 d) (if strict then 1 else 0) code (num8 p) (actionsRead onTrue onFalse) =
        .ok ⟨d, strict, mode, p, a, b⟩ := by
      have hstrict : asFlag (if strict then 1 else 0) = some strict := asFlag_code strict
      have hmode : asCmpMode code = some mode := by rw [hcode]; exact asCmpMode_code mode
      rw [actionsRead_spelt ha hb]
      simp only [readCmpConfig, below_num8_4, hstrict, hmode, below_num8_64]
    have hrun := setComparatorOn_read (s := s) (k := k) (origin := origin) (margin := margin) (period := period)
      (trigger := trigger) hread
    have hbad : (trigger ≠ 0 ∧ (isEvent trigger = false ∨ isCmpEvent trigger = true)) ↔ bad := by
      unfold isCmpEvent
      rw [Bool.and_eq_true, decide_eq_true_eq, decide_eq_true_eq]
    have fits (v : Nat) (h : v < n) : ¬ s.timecodeFits d v = false := by rw [timecodeFits_of_lt h]; exact Bool.noConfusion
    refine ⟨fun h => answered (hrun.trans (if_pos (timecodeFits_of_ge h))),
      fun ho h => answered (hrun.trans ((if_neg (fits _ ho)).trans (if_pos (timecodeFits_of_ge h)))),
      fun ho hm h => answered (hrun.trans ((if_neg (fits _ ho)).trans ((if_neg (fits _ hm)).trans (if_pos (hbad.2 h))))),
      fun ho hm h => answered (hrun.trans ((if_neg (fits _ ho)).trans ((if_neg (fits _ hm)).trans
        ((if_neg (fun hb => h (hbad.1 hb))).trans ?_))))⟩
    cases mode <;> rfl

end Sys2Proof.Machine
end

section
/-! PROOF. Comparators: the evaluation, the trigger, what a branch forwards, and the actions (R163 to R166, R70). -/

namespace Sys2Proof.Machine

open State

/-! ## The evaluation (R163) -/

/-- A difference taken round the day is the remainder of the signed difference. -/
theorem cast_day_difference {timecode origin n : Nat} (ho : origin < n) :
    (((timecode + n - origin) % n : Nat) : Int) = ((timecode : Int) - (origin : Nat)).emod n := by
  have hcast : ((timecode + n - origin : Nat) : Int) = (timecode : Int) - origin + n := by omega
  rw [Int.natCast_emod, hcast]
  exact Int.add_emod_right _ _

theorem evaluate_iff (r : CmpRec) (standard : Fin 8) (timecode : Nat) (h : timecode < Config.framesPerDay standard) :
    let n := Config.framesPerDay standard
    let difference := ((timecode : Int) - (r.origin % n : Nat)).emod n
    let reduced := if r.period = 0 then difference else difference.emod r.period
    (r.evaluate standard timecode = true ↔
      (r.strict = false ∧ reduced ≤ (r.margin % n : Nat)) ∨ (r.strict = true ∧ reduced < (r.margin % n : Nat))) := by
  intro n difference reduced
  have hd : (((timecode + n - r.origin % n) % n : Nat) : Int) = difference :=
    cast_day_difference (Nat.mod_lt _ (Nat.zero_lt_of_lt h))
  have hreduced : ((if r.period = 0 then (timecode + n - r.origin % n) % n
      else (timecode + n - r.origin % n) % n % r.period : Nat) : Int) = reduced := by
    by_cases hp : r.period = 0
    · simp only [reduced, if_pos hp, hd]
    · simp only [reduced, if_neg hp, ← hd]
      exact Int.natCast_emod _ _
  rw [← hreduced, Int.ofNat_le, Int.ofNat_lt]
  unfold CmpRec.evaluate
  cases r.strict with
  | true => simp [n]
  | false => simp [n]

/-! ## The trigger (R164, R165) -/

section
variable (s : State) (k : Cmp)

theorem cmp_setCmp (r : CmpRec) : (s.setCmp k r).cmp k = r := look_put_same ..

theorem setCmp_setCmp (r r' : CmpRec) : (s.setCmp k r).setCmp k r' = s.setCmp k r' := by
  unfold setCmp
  rw [put_put]

theorem boundTo_eq {n : Nat} (v : Vector Byte n) (id : Byte) :
    boundTo v id = (List.finRange n).filter (fun i => look v i = id) := by
  unfold boundTo
  exact filter_entries ..

/-- A branch is forwarded from the record just written. -/
theorem forward_setCmp (r : CmpRec) (branch : Bool) (timecode : Nat) : (s.setCmp k r).forward k branch timecode =
    (s.setCmp k (if branch then { r with trueLatch := some (timecode, s.now) }
      else { r with falseLatch := some (timecode, s.now) }),
     ((List.finRange 16).filter (fun p => look s.router.poll p = cmpEvent k branch)).map .poll ++
       ((List.finRange 4).filter (fun d => look s.router.mark d = cmpEvent k branch)).map .mark ++
       (if (if branch then r.onTrue else r.onFalse) = .none then [] else
         [.action k branch (if branch then r.onTrue else r.onFalse)])) := by
  unfold forward pollsAndMarks
  simp only [cmp_setCmp, setCmp_setCmp, boundTo_eq, setCmp_fields]

/-- The result of a comparator on its domain's present timecode. -/
def State.judgement (s : State) (k : Cmp) : Bool :=
  (s.cmp k).evaluate (s.dom (s.cmp k).domain).standard (s.dom (s.cmp k).domain).timecode

/-- The record once the comparator has been judged. -/
def State.judgedCmp (s : State) (k : Cmp) : CmpRec := { s.cmp k with lastResult := some (s.judgement k) }

section
variable {s k}

theorem trigger_off (h : (s.cmp k).state = .off) : s.trigger k = (s, []) := by
  unfold State.trigger
  dsimp only
  rw [h]

theorem trigger_once (h : (s.cmp k).state = .armed) (hm : (s.cmp k).mode = .once) : s.trigger k =
    if s.judgement k then
      (s.setCmp k { s.judgedCmp k with state := .off }).forward k true (s.dom (s.cmp k).domain).timecode
    else (s.setCmp k (s.judgedCmp k), []) := by
  unfold State.trigger State.judgedCmp State.judgement
  dsimp only
  rw [h, hm]
  rfl

theorem trigger_armed (h : (s.cmp k).state = .armed) (hm : (s.cmp k).mode ≠ .once) : s.trigger k =
    (s.setCmp k (s.judgedCmp k)).forward k (s.judgement k) (s.dom (s.cmp k).domain).timecode := by
  unfold State.trigger State.judgedCmp State.judgement
  dsimp only
  rw [h]
  exact if_neg hm

theorem trigger_baseline (h : (s.cmp k).state = .baseline) :
    s.trigger k = (s.setCmp k { s.judgedCmp k with state := .tracking }, []) := by
  unfold State.trigger State.judgedCmp State.judgement
  dsimp only
  rw [h]

theorem trigger_tracking (h : (s.cmp k).state = .tracking) : s.trigger k =
    if (s.cmp k).lastResult = some (s.judgement k) then (s, [])
    else (s.setCmp k (s.judgedCmp k)).forward k (s.judgement k) (s.dom (s.cmp k).domain).timecode := by
  unfold State.trigger State.judgedCmp State.judgement
  dsimp only
  rw [h]

end

/-! ## The actions (R166) -/

section
variable {s k}

theorem carryOut_fire (n : Salvo) {res : FireResult} {t : State}
    (h : s.fireSalvo n ⟨(s.cmp k).panel.val, .partialMode, false, .comparator k, some n⟩ = (res, t)) :
    s.carryOut k (.fireSalvo n) = (FireResult.code res, t) := by
  simp only [carryOut, h]

theorem carryOut_recorder {p : Port} {c : RecorderCommand} {code : Status} {position : Nat} {t : State}
    (h : s.queueCommand p c = (code, position, t)) : s.carryOut k (.recorder p c) = (code, t) := by
  simp only [carryOut, h]

end

theorem now_carryOut (a : Action) : (s.carryOut k a).2.now = s.now := by simp

/-- An action's result is recorded, and may set the flag. -/
theorem deliver_action (branch : Bool) (a : Action) {code : Status} {t : State} (h : s.carryOut k a = (code, t)) :
    s.deliver [.action k branch a] = State.settle { t with
      cmps := put t.cmps k { t.cmp k with lastAction := some ⟨branch, a, code, s.now⟩ }
      flags := if code ≠ .ok ∨ a = .attention
        then { t.flags with comparator := put t.flags.comparator k (some (branch, code)) } else t.flags } := by
  have hnow : t.now = s.now := by
    have := now_carryOut s k a
    rw [h] at this
    exact this
  have harrive : s.arrive (.action k branch a) = (s.runAction k branch a, []) := by rw [arrive]
  rw [deliver_lone (a := .action k branch a) (fun _ => Arrival.noConfusion), harrive]
  unfold runAction
  rw [h, ← hnow]
  dsimp only
  refine congrArg State.settle ?_
  split <;> rfl

end

/-- Settles O38: the evaluation, the trigger by the comparator's state, and an action by its kind. -/
theorem comparatorsEvaluateForwardAndAct : Obligations.ComparatorsEvaluateForwardAndAct := by
  unfold Obligations.ComparatorsEvaluateForwardAndAct
  refine ⟨evaluate_iff, fun s k => ?_⟩
  intro r tc result kept judged latched forwarded
  have hforward (c : CmpRec) (hon : c.onTrue = r.onTrue) (hoff : c.onFalse = r.onFalse) (branch : Bool) :
      (s.setCmp k c).forward k branch tc = (kept (latched c branch), forwarded branch) := by
    have haction : (if branch then c.onTrue else c.onFalse) = if branch then r.onTrue else r.onFalse := by rw [hon, hoff]
    refine (forward_setCmp s k c branch tc).trans (Prod.ext rfl ?_)
    dsimp only
    rw [haction]
    rfl
  refine ⟨fun h => ?_, fun h hm => ⟨fun hr => ?_, fun hr => ?_⟩, fun h hm => ?_, fun h => ?_, fun h => ⟨fun hl => ?_, fun hl => ?_⟩,
    fun branch a ha => ?_⟩
  · exact trigger_off h
  · exact (trigger_once h hm).trans ((if_pos hr).trans (hforward { s.judgedCmp k with state := .off } rfl rfl true))
  · exact (trigger_once h hm).trans (if_neg (Bool.eq_false_iff.1 hr))
  · exact (trigger_armed h hm).trans (hforward (s.judgedCmp k) rfl rfl result)
  · exact trigger_baseline h
  · exact (trigger_tracking h).trans (if_pos hl)
  · exact (trigger_tracking h).trans ((if_neg hl).trans (hforward (s.judgedCmp k) rfl rfl result))
  · obtain ⟨code, t, hcarry⟩ : ∃ code t, s.carryOut k a = (code, t) := ⟨_, _, rfl⟩
    have same {code' : Status} {t' : State} (h : s.carryOut k a = (code', t')) : code = code' ∧ t = t' :=
      Prod.mk.inj (hcarry.symm.trans h)
    refine ⟨code, t, deliver_action s k branch a hcarry, fun hatt => ?_, fun p c hrec => ?_, fun n hfire => ?_⟩
    · subst hatt
      exact same rfl
    · subst hrec
      refine ⟨fun hoff => same (carryOut_recorder (queueCommand_offline hoff)),
        fun hon hfull => same (carryOut_recorder (queueCommand_full hon hfull)),
        fun hon hroom => same (carryOut_recorder (queueCommand_accepted hon hroom))⟩
    · subst hfire
      intro content f
      refine ⟨fun hbusy => same (carryOut_fire n (res := .refused .salvoBusy none) (if_pos hbusy)), fun hfree hempty => ?_,
        fun hfree hne => ⟨fun c d u h => ?_, fun serial x y z u h => ?_⟩⟩
      · have hempty : look s.store.salvos n = [] := hempty
        refine same (carryOut_fire n (res := .refused .noSalvo none) ?_)
        unfold fireSalvo
        rw [hfree, if_neg Bool.false_ne_true, hempty]
      · obtain ⟨hcode, ht⟩ := same (carryOut_fire n (fireSalvo_refuses hfree hne h))
        exact ⟨hcode, ht.trans (fireEntries_refused h)⟩
      · obtain ⟨hcode, ht⟩ := same (carryOut_fire n (fireSalvo_fires hfree hne h))
        refine ⟨hcode, ?_⟩
        intro pairs
        have hpairs : s.undoPairs f content = pairs := undoPairs_eq s f content
        rw [ht, hpairs]
        rfl

end Sys2Proof.Machine
end

section
/-! PROOF. Own confirms, the end of a readback, CLEAR FAULT and the ABSENT timer (R102, R105, R108 to R112, R119). -/

namespace Sys2Proof.Machine

open State

/-! ## Own confirms (R102, R6) -/

section
variable {s : State} {d : Dest} {x : Src}

theorem matchedTake_of_source {i : Slot} {k : Take} (hi : s.outstandingOf d = some i) (hk : (s.slot i).take = some k)
    (hx : k.source = x) : s.matchedTake d x = some i := by
  have holds : (s.slot i).holds (fun t => decide (t.source = x)) = true :=
    (SlotRec.holds_iff _ _).2 ⟨k, hk, decide_eq_true hx⟩
  simp only [matchedTake, hi, holds, if_true]

theorem matchedTake_eq_none (h : ∀ i k, s.outstandingOf d = some i → (s.slot i).take = some k → k.source ≠ x) :
    s.matchedTake d x = none := by
  unfold matchedTake
  split
  · next i hi =>
    refine if_neg (fun hholds => ?_)
    obtain ⟨k, hk, hx⟩ := (SlotRec.holds_iff _ _).1 hholds
    exact h i k hi hk (of_decide_eq_true hx)
  · rfl

/-- A report makes its source the destination's (R5). -/
theorem source_applyReport (s : State) (d : Dest) (x : Src) (o : ChangeOrigin) :
    ((s.applyReport d x o).dest d).source = some x := by
  by_cases hx : (s.dest d).source = some x
  · by_cases ho : (s.dest d).output.after .report = (s.dest d).output
    · rw [applyReport_unchanged o hx ho, hx]
    · rw [applyReport_output o hx ho]
      exact (congrArg DestRec.source (look_put_same ..)).trans hx
  · rw [applyReport_source_eq o hx]
    exact congrArg DestRec.source (look_put_same ..)

end

/-- Settles O45: the outstanding take of the source ends and the completion is counted, or the report stands alone. -/
theorem ownConfirmCompletesItsTake : Obligations.OwnConfirmCompletesItsTake := by
  unfold Obligations.OwnConfirmCompletesItsTake
  refine fun s d x => ⟨fun i k hi hk hx => ?_, fun h => ?_⟩
  · intro u r counted
    have hnow : u.now = s.now := by simp [u]
    have hcounted : u.countCompletion d = counted := by
      simp only [countCompletion, setDest, hnow, counted, r]
    refine ⟨congrArg Host.Outcome.next ?_, ?_⟩
    · rw [← hcounted]
      simp only [confirmOwn, matchedTake_of_source hi hk hx, u]
    · exact (congrArg DestRec.source (look_put_same ..)).trans (source_applyReport _ d x .own)
  · refine congrArg Host.Outcome.next ?_
    simp only [confirmOwn, matchedTake_eq_none h]

/-! ## The end of a readback (R108, R110 to R112) -/

section
variable (s : State) (r : Readback)

theorem endReadback_eq : s.endReadback r =
    if r.kind = .priority then { s with bus := { s.bus with readback := none } }
    else if r.dest = 255 then { s with bus := { s.bus with
      readback := none, walk := .none, walkCursor := 0, intervalStart := s.now } }
    else { s with bus := { s.bus with readback := none, walkCursor := r.dest + 1 } } := by
  unfold endReadback walkOn setBus
  cases r.kind <;> rfl

/-- A destination that does not answer goes OFFLINE, unless it is FAULTED (R7). -/
theorem applyNoAnswer_eq (d : Dest) : s.applyNoAnswer d =
    if (s.dest d).output = .faulted ∨ (s.dest d).output = .offline then s
    else { s with
      dests := put s.dests d { s.dest d with output := .offline, origin := .learned, stamp := s.now }
      handed := s.handed ++ [.dest d] } := by
  unfold applyNoAnswer
  cases h : (s.dest d).output <;> simp only [h] <;> rfl

/-- The answer of a compared readback differs from the table source `y` (R111). -/
def State.Differs (s : State) (r : Readback) (x y : Src) : Prop :=
  r.compare = true ∧ (s.dest r.dest).output = .ready ∧ s.activeDest r.dest = false ∧
    (s.dest r.dest).source = some y ∧ y ≠ x

variable {s r}

theorem discrepant_eq_some {x y : Src} : s.discrepant r x = some y ↔ s.Differs r x y := by
  unfold discrepant State.Differs
  split
  · next h =>
    simp only [Bool.and_eq_true, decide_eq_true_eq, Bool.not_eq_true'] at h
    obtain ⟨⟨hc, ho⟩, ha⟩ := h
    simp [hc, ho, ha, Option.filter_eq_some_iff]
  · next h =>
    simp only [Bool.and_eq_true, decide_eq_true_eq, Bool.not_eq_true'] at h
    exact ⟨nofun, fun ⟨hc, ho, ha, _⟩ => absurd ⟨⟨hc, ho⟩, ha⟩ h⟩

theorem discrepant_eq_none {x : Src} (h : ∀ y, ¬ s.Differs r x y) : s.discrepant r x = none :=
  Option.eq_none_iff_forall_ne_some.2 (fun y hy => h y (discrepant_eq_some.1 hy))

theorem answer_other {d : Dest} (x : Option Src) (hr : s.bus.readback = some r) (hd : d ≠ r.dest) : s.answer d x = s := by
  simp only [answer, hr, if_neg hd.symm]

theorem answer_none (hr : s.bus.readback = some r) : s.answer r.dest none = (s.answerNone r).settle := by
  simp only [answer, hr, if_true]

theorem answer_some (x : Src) (hr : s.bus.readback = some r) :
    s.answer r.dest (some x) = (s.answerSource r x).settle := by
  simp only [answer, hr, if_true]

theorem answerTimeout_due (hr : s.bus.readback = some r) (h : 10000 ≤ (s.now - r.sentAt).toNat) :
    s.answerTimeout = (s.answerNone r).settle := by
  have due : s.answerDue = true := by
    simp only [answerDue, hr]
    exact decide_eq_true h
  simp only [State.answerTimeout, hr, due, if_true]

theorem answerTimeout_early (hr : s.bus.readback = some r) (h : (s.now - r.sentAt).toNat < 10000) :
    s.answerTimeout = s := by
  have due : s.answerDue = false := by
    simp only [answerDue, hr]
    exact decide_eq_false (Nat.not_le.2 h)
  simp only [State.answerTimeout, hr, due, Bool.false_eq_true, if_false]

/-- An answer that is no discrepancy is applied alone (R108). -/
theorem answerSource_same {x : Src} (h : ∀ y, ¬ s.Differs r x y) :
    s.answerSource r x = (s.applyReport r.dest x .learned).endReadback r := by
  simp only [answerSource, discrepant_eq_none h]

/-- A discrepancy is recorded with the outcome of its repair (R111). -/
theorem answerSource_differs {x y : Src} {o : RepairOutcome} {v : State} (h : s.Differs r x y)
    (hr : (s.applyReport r.dest x .learned).repair r.dest y = (o, v)) :
    s.answerSource r x = (v.addDiscrepancy ⟨r.dest, y, x, s.now, s.bus.policy, o⟩).endReadback r := by
  simp only [answerSource, discrepant_eq_some.2 h, hr]

theorem repair_report {d : Dest} (y : Src) (h : s.bus.policy = .report) : s.repair d y = (.none, s) := by
  simp only [repair, h]

/-- A repair of a READY destination is refused for want of a slot alone (R112). -/
theorem repair_full {d : Dest} {y : Src} (h : s.bus.policy = .repair) (ho : s.outputCheck d = none)
    (hfull : s.admitTake ⟨d, y, .repair, 0, none, none, false⟩ = none) :
    s.repair d y = (.refused .poolFull, s) := by
  simp only [repair, h, admitOwn, ho, hfull]

theorem repair_admitted {d : Dest} {y : Src} {a : Admitted} {v : State} (h : s.bus.policy = .repair)
    (ho : s.outputCheck d = none) (hadmit : s.admitTake ⟨d, y, .repair, 0, none, none, false⟩ = some (a, v)) :
    s.repair d y = (.admitted a.tag, v) := by
  simp only [repair, h, admitOwn, ho, hadmit]

end

/-- Settles O46: what the answer changes, the discrepancy it may show, and the walk's next step. -/
theorem readbackEndsByAnswerOrTimeout : Obligations.ReadbackEndsByAnswerOrTimeout := by
  unfold Obligations.ReadbackEndsByAnswerOrTimeout
  refine fun s => ⟨fun hr => ⟨congrArg Host.Outcome.next ?_, fun d x => congrArg Host.Outcome.next ?_⟩, fun r hr => ?_⟩
  · simp only [State.answerTimeout, hr]
  · simp only [answer, hr]
  · intro ended q silent
    have hended (u : State) : u.endReadback r = ended u := endReadback_eq u r
    have hsilent : s.answerNone r = ended silent := (congrArg (endReadback · r) (applyNoAnswer_eq s r.dest)).trans (hended _)
    refine ⟨fun d x hd => congrArg Host.Outcome.next (answer_other x hr hd),
      fun h => congrArg Host.Outcome.next (answerTimeout_early hr h),
      fun h => congrArg Host.Outcome.next ((answerTimeout_due hr h).trans (congrArg State.settle hsilent)),
      congrArg Host.Outcome.next ((answer_none hr).trans (congrArg State.settle hsilent)), fun x => ?_⟩
    intro u out differs found
    have hout {t : State} (h : s.answerSource r x = t) : out t :=
      congrArg Host.Outcome.next ((answer_some x hr).trans (congrArg State.settle h))
    have hpolicy : u.bus.policy = s.bus.policy := by simp [u]
    have hfound {y : Src} (hd : differs y) {o : RepairOutcome} {v : State} (h : u.repair r.dest y = (o, v)) :
        out (found y v o) := hout ((answerSource_differs hd h).trans (hended _))
    refine ⟨fun h => hout ((answerSource_same h).trans (hended _)), fun y hd => ⟨fun hp => ?_, fun hp => ?_⟩⟩
    · exact hfound hd (repair_report y (hpolicy.trans hp))
    · obtain ⟨hcompare, hready, hidle, hsource, hne⟩ := hd
      have hcheck : u.outputCheck r.dest = none := by
        rw [outputCheck_applyReport, if_neg (by rw [hready]; decide)]
      exact ⟨fun hfull => hfound ⟨hcompare, hready, hidle, hsource, hne⟩ (repair_full (hpolicy.trans hp) hcheck hfull),
        fun a v hadmit => hfound ⟨hcompare, hready, hidle, hsource, hne⟩
          (repair_admitted (hpolicy.trans hp) hcheck hadmit)⟩

/-! ## CLEAR FAULT and the ABSENT timer (R105, R109, R119) -/

theorem joinPriority_eq (s : State) (d : Dest) : s.joinPriority d =
    if d ∈ s.bus.priority then s else { s with bus := { s.bus with priority := s.bus.priority ++ [d] } } := by
  unfold joinPriority setBus
  simp only [List.contains_iff_mem]

theorem outputEvent_changes {s : State} {d : Dest} {e : OutputEvent} (h : (s.dest d).output.after e ≠ (s.dest d).output) :
    s.outputEvent d e = { s with
      dests := put s.dests d { s.dest d with output := (s.dest d).output.after e }, handed := s.handed ++ [.dest d] } := by
  simp only [outputEvent, if_neg h]
  rfl

theorem outputEvent_same {s : State} {d : Dest} {e : OutputEvent} (h : (s.dest d).output.after e = (s.dest d).output) :
    s.outputEvent d e = s := by
  simp only [outputEvent, if_pos h]

theorem absentDue_iff (s : State) (i : Slot) : s.absentDue i = true ↔
    ∃ g start, (g, start) ∈ s.bus.absent ∧ g.slot = i ∧ 100000 ≤ (s.now - start).toNat := by
  unfold absentDue
  simp only [List.any_eq_true, Bool.and_eq_true, decide_eq_true_eq, Prod.exists]
  rfl

/-- Settles O48: the output state leaves FAULTED or becomes UNKNOWN, and the destination joins the priority list. -/
theorem clearFaultAndAbsentTimersQueueAReadback : Obligations.ClearFaultAndAbsentTimersQueueAReadback := by
  unfold Obligations.ClearFaultAndAbsentTimersQueueAReadback
  intro s joined
  refine ⟨fun tag d hl => ⟨fun hf => ?_, fun hf => ?_⟩, fun i => ?_⟩
  · exact answers_of rfl rfl rfl hl (by simp only [runClearFault, toFin_num8, if_neg hf]; rfl)
  · intro cleared
    have hcleared : s.outputEvent d .clearFault = cleared := by
      rw [outputEvent_changes (by rw [hf]; decide), hf]
      rfl
    refine answers_of rfl rfl rfl hl ?_
    simp only [runClearFault, toFin_num8, if_pos hf, hcleared, joinPriority_eq]
    rfl
  · intro due
    refine ⟨fun hk => congrArg Host.Outcome.next ?_, fun hdue => congrArg Host.Outcome.next ?_, fun k hk hdue => ?_⟩
    · simp only [expireAbsent, hk]
    · have hdue : s.absentDue i ≠ true := fun h => hdue ((absentDue_iff s i).1 h)
      unfold expireAbsent
      split
      · rfl
      · exact if_neg hdue
    · intro u r
      have hexpire : s.expireAbsent i = ((u.outputEvent k.dest .unverified).joinPriority k.dest).settle := by
        simp only [expireAbsent, hk, if_pos ((absentDue_iff s i).2 hdue), u]
      have hrec : u.dest k.dest = r := by simp [u, r, dest_def]
      refine ⟨fun ho => congrArg Host.Outcome.next ?_, fun ho => congrArg Host.Outcome.next ?_⟩
      · have same : (u.dest k.dest).output.after .unverified = (u.dest k.dest).output := by
          rw [hrec]
          obtain ho | ho := ho <;> rw [ho] <;> rfl
        rw [hexpire, outputEvent_same same, joinPriority_eq]
      · have unknown : (u.dest k.dest).output.after .unverified = .unknown := by
          rw [hrec]
          obtain ho | ho := ho <;> rw [ho] <;> rfl
        have changes : (u.dest k.dest).output.after .unverified ≠ (u.dest k.dest).output := by
          rw [unknown, hrec]
          obtain ho | ho := ho <;> rw [ho] <;> decide
        have hdests : u.dests = s.dests := by simp [u]
        rw [hexpire, outputEvent_changes changes, joinPriority_eq, unknown, hrec, hdests]

end Sys2Proof.Machine
end

section
/-! PROOF. Recorder replies, poll timeouts and guard ends (R142 to R145, R147 to R149, R152). -/

namespace Sys2Proof.Machine

open State

/-! ## The port's part -/

theorem awaits_iff (r : PortRec) (q : ExchangeKind → Bool) :
    r.awaits q = true ↔ r.exchange = .busy ∧ ∃ f, r.inFlight = some f ∧ q f.kind = true := by
  unfold PortRec.awaits
  rw [Bool.and_eq_true, decide_eq_true_eq]
  cases r.inFlight <;> simp

/-- The exchange in flight is of kind `k`. -/
def PortRec.Awaits (r : PortRec) (k : ExchangeKind) : Prop := r.exchange = .busy ∧ ∃ f, r.inFlight = some f ∧ f.kind = k

theorem awaits_kind (r : PortRec) (k : ExchangeKind) : r.awaits (fun j => decide (j = k)) = true ↔ r.Awaits k :=
  (awaits_iff r _).trans (by simp only [decide_eq_true_eq, PortRec.Awaits])

/-- The record once a reply has ended its exchange: in GUARD, ONLINE and no longer silent (R142, R147). -/
def PortRec.guarded (r : PortRec) (now : Time) : PortRec := { r with
  inFlight := none, exchange := .guard, guardEnd := some (now + BitVec.ofNat 32 (r.guardTime * 1000))
  silent := 0, online := true }

/-- A STATUS ends the exchange; RECORDING after an accepted RECORD gives the start delay (R143, R152). -/
theorem takeStatus_eq (r : PortRec) (now : Time) (x : RecorderState) : r.takeStatus now x =
    let v : PortRec := { r.guarded now with reported := x, lastStatusAt := some now }
    match r.recordStamp with
    | some t => if x = .recording ∧ r.reported ≠ .recording
      then { v with startDelay := some ((now - t).toNat / 1000), recordStamp := none } else v
    | none => v := by
  unfold PortRec.takeStatus PortRec.judgeStart
  dsimp only
  by_cases h : x = .recording ∧ r.reported ≠ .recording
  · rw [if_pos h]
    cases hst : r.recordStamp with
    | some t => exact (if_pos h).symm
    | none => simp only [PortRec.enterGuard, PortRec.guarded, hst]
  · rw [if_neg h]
    cases hst : r.recordStamp with
    | some t =>
      dsimp only
      rw [if_neg h]
      simp only [PortRec.enterGuard, PortRec.guarded, hst]
    | none => simp only [PortRec.enterGuard, PortRec.guarded, hst]

theorem reported_takeStatus (r : PortRec) (now : Time) (x : RecorderState) : (r.takeStatus now x).reported = x := by
  rw [takeStatus_eq]
  dsimp only
  split
  · split <;> rfl
  · rfl

/-- The record once the poll timeout has ended its exchange (R145). -/
def PortRec.timedOut (r : PortRec) (now : Time) (k : ExchangeKind) : PortRec := { r with
  inFlight := none, exchange := .guard, guardEnd := some (now + BitVec.ofNat 32 (r.guardTime * 1000))
  silent := min 3 (r.silent + 1)
  lastCommand := match k with
    | .command c => some ⟨c, .noReply, now⟩
    | .poll => r.lastCommand }

theorem takeTimeout_eq (r : PortRec) (now : Time) (k : ExchangeKind) : r.takeTimeout now k = r.timedOut now k := rfl

/-! ## The ports of the state -/

section
variable {s : State} {p : Port}

theorem port_setPort_same (r : PortRec) : (s.setPort p r).port p = r := look_put_same ..

/-- The reply on an OFFLINE port sets the RECORDER flag (R147). -/
theorem flagOnline_eq (was : Bool) : s.flagOnline p was = if was then s else
    { s with flags := { s.flags with recorder := put s.flags.recorder p (some (true, (s.port p).reported)) } } := rfl

theorem recorderStatus_discards {x : RecorderState} (h : ¬ (s.port p).Awaits .poll ∨ x = .unknown) :
    s.recorderStatus p x = s := by
  unfold recorderStatus
  refine if_neg (fun hcond => ?_)
  obtain ⟨hawaits, hx⟩ := (Bool.and_eq_true _ _).mp hcond
  obtain hno | hunknown := h
  · exact hno ((awaits_kind _ _).1 hawaits)
  · exact of_decide_eq_true hx hunknown

theorem recorderStatus_takes {x : RecorderState} (h : (s.port p).Awaits .poll) (hx : x ≠ .unknown) :
    s.recorderStatus p x = ((((s.setPort p ((s.port p).takeStatus s.now x)).reportedChanged p (s.port p).reported).flagOnline p
      (s.port p).online).settle).raise (pollDoneEvent p) :=
  if_pos ((Bool.and_eq_true _ _).mpr ⟨(awaits_kind _ _).2 h, decide_eq_true hx⟩)

theorem recorderAck_discards {c : RecorderCommand} {accepted : Bool} (h : ¬ (s.port p).Awaits (.command c)) :
    s.recorderAck p c accepted = s := if_neg (fun hcond => h ((awaits_kind _ _).1 hcond))

theorem recorderAck_takes {c : RecorderCommand} {accepted : Bool} (h : (s.port p).Awaits (.command c)) :
    s.recorderAck p c accepted =
      (s.setPort p ((s.port p).takeAck s.now c accepted)).flagOnline p (s.port p).online :=
  if_pos ((awaits_kind _ _).2 h)

theorem recorderTimeout_early {f : InFlight} (hf : (s.port p).inFlight = some f)
    (h : (s.now - f.sentAt).toNat < f.timeout * 1000) : s.recorderTimeout p = s := by
  have due : s.pollDue p = false := by
    simp only [pollDue, hf, Bool.and_eq_false_iff]
    exact .inr (decide_eq_false (Nat.not_le.2 h))
  simp only [recorderTimeout, hf, due, Bool.false_eq_true, if_false]

theorem recorderTimeout_due {f : InFlight} (hf : (s.port p).inFlight = some f) (hbusy : (s.port p).exchange = .busy)
    (h : f.timeout * 1000 ≤ (s.now - f.sentAt).toNat) :
    s.recorderTimeout p = ((s.setPort p ((s.port p).timedOut s.now f.kind)).judgeSilence p).settle := by
  have due : s.pollDue p = true := by
    simp only [pollDue, hf, Bool.and_eq_true]
    exact ⟨decide_eq_true hbusy, decide_eq_true h⟩
  simp only [recorderTimeout, hf, due, if_true, takeTimeout_eq]

theorem recorderTimeout_idle (h : (s.port p).inFlight = none ∨ (s.port p).exchange ≠ .busy) : s.recorderTimeout p = s := by
  unfold recorderTimeout
  split
  · rfl
  · next f hf =>
    obtain hnone | hidle := h
    · exact absurd (hf.symm.trans hnone) nofun
    · refine if_neg ?_
      simp only [pollDue, hf, Bool.and_eq_true, decide_eq_true_eq]
      exact fun hdue => hidle hdue.1

/-- Below the third silence nothing more happens (R149). -/
theorem judgeSilence_keeps {k : ExchangeKind} (h : (s.port p).online = false ∨ (s.port p).silent < 2) :
    (s.setPort p ((s.port p).timedOut s.now k)).judgeSilence p = s.setPort p ((s.port p).timedOut s.now k) := by
  refine if_neg ?_
  rw [port_setPort_same]
  rintro ⟨hon, hthird⟩
  replace hon : (s.port p).online = true := hon
  replace hthird : min 3 ((s.port p).silent + 1) = 3 := hthird
  obtain hoff | hlow := h
  · exact absurd (hoff.symm.trans hon) nofun
  · omega

/-- The third silence takes an ONLINE port OFFLINE (R149). -/
theorem judgeSilence_offline {k : ExchangeKind} (hon : (s.port p).online = true) (h : 2 ≤ (s.port p).silent) :
    (s.setPort p ((s.port p).timedOut s.now k)).judgeSilence p =
      ((s.setPort p ((s.port p).timedOut s.now k).goOffline).reportedChanged p (s.port p).reported).flagRecorder p
        false .unknown := by
  have hthird : min 3 ((s.port p).silent + 1) = 3 := by omega
  have twice (r r' : PortRec) : (s.setPort p r).setPort p r' = s.setPort p r' := by
    unfold setPort
    rw [put_put]
  refine (if_pos ?_).trans ?_
  · rw [port_setPort_same]
    exact ⟨hon, hthird⟩
  · rw [port_setPort_same, twice]
    rfl

theorem endGuard_reached {t : Time} (hguard : (s.port p).exchange = .guard) (ht : (s.port p).guardEnd = some t)
    (h : (s.now - t).toNat < 2 ^ 31) :
    s.endGuard p = (s.setPort p ((s.port p).endGuard s.now)).raise (portReadyEvent p) := by
  refine if_pos ?_
  simp only [guardDue, ht, Bool.and_eq_true]
  exact ⟨decide_eq_true hguard, decide_eq_true h⟩

theorem endGuard_early {t : Time} (ht : (s.port p).guardEnd = some t) (h : 2 ^ 31 ≤ (s.now - t).toNat) :
    s.endGuard p = s := by
  refine if_neg ?_
  simp only [guardDue, ht, Bool.and_eq_true]
  exact fun hdue => absurd (of_decide_eq_true hdue.2) (Nat.not_lt.2 h)

theorem endGuard_idle (h : (s.port p).exchange ≠ .guard ∨ (s.port p).guardEnd = none) : s.endGuard p = s := by
  refine if_neg ?_
  unfold guardDue
  split
  · next t ht =>
    obtain hidle | hnone := h
    · rw [Bool.and_eq_true, decide_eq_true_eq]
      exact fun hdue => hidle hdue.1
    · exact absurd (ht.symm.trans hnone) nofun
  · exact Bool.false_ne_true

end

/-- Settles O52: a reply, a timeout and a guard end, each in its time and outside it. -/
theorem recorderRepliesTimeoutsAndGuards : Obligations.RecorderRepliesTimeoutsAndGuards := by
  unfold Obligations.RecorderRepliesTimeoutsAndGuards
  refine ⟨fun s p => ?_, fun s p => ?_⟩
  · intro r guarded awaits
    refine ⟨fun x h => congrArg Host.Outcome.next (recorderStatus_discards h), fun x h hx => ?_,
      fun c accepted h => congrArg Host.Outcome.next (recorderAck_discards h), fun c accepted h => ?_⟩
    · intro v w u flagged
      have hw : r.takeStatus s.now x = w := takeStatus_eq r s.now x
      have hreported : (u.port p).reported = x := by
        have hports : u.ports = put s.ports p w := by simp [u]
        have hport : u.port p = w := (congrArg (look · p) hports).trans (look_put_same ..)
        rw [hport, ← hw, reported_takeStatus]
      have hflagged : u.flagOnline p r.online = flagged := by
        rw [flagOnline_eq, hreported]
      refine congrArg Host.Outcome.next ((recorderStatus_takes h hx).trans ?_)
      rw [← hflagged, hw]
      rfl
    · intro v
      refine congrArg Host.Outcome.next ((recorderAck_takes h).trans ?_)
      rw [flagOnline_eq, port_setPort_same]
      split <;> rfl
  · intro r
    refine ⟨fun f hf hbusy => ⟨fun h => congrArg Host.Outcome.next (recorderTimeout_early hf h), fun h => ?_⟩,
      fun h => congrArg Host.Outcome.next (recorderTimeout_idle h), fun t hguard ht =>
        ⟨fun h => congrArg Host.Outcome.next (endGuard_reached hguard ht h),
          fun h => congrArg Host.Outcome.next (endGuard_early ht h)⟩,
      fun h => congrArg Host.Outcome.next (endGuard_idle h)⟩
    have hdue := recorderTimeout_due hf hbusy h
    refine ⟨fun hkeep => congrArg Host.Outcome.next (hdue.trans ?_),
      fun hon hsilent => congrArg Host.Outcome.next (hdue.trans ?_)⟩
    · rw [judgeSilence_keeps hkeep]
      rfl
    · rw [judgeSilence_offline hon hsilent]
      rfl

end Sys2Proof.Machine
end

section
/-! PROOF. The snapshots: what the records hold, in the layouts of 11.3 to 11.5 (R18, R19, R42, R73, R92, R120, R156, R169). -/

namespace Sys2Proof.Machine

open State

section
variable (s : State)

/-! ## READ DEST and READ TAKE -/

theorem eOpt_tag (o : Option Slot) :
    eOpt eTag (o.map s.tagOf) = eOpt (fun i : Slot => [num8 i, (s.slot i).gen]) o := by
  cases o <;> rfl

theorem readDestResult_eq (d : Dest) : readDestResult s d =
    eText (s.dest d).name ++ [num8 (s.dest d).domain, num8 (s.dest d).zone] ++ e1 (roleCode (s.dest d).role) ++
      eSource (s.dest d).source ++ e1 (outputCode (s.dest d).output) ++ e1 (changeOriginCode (s.dest d).origin) ++
      bytes32 (s.dest d).stamp ++ [(s.dest d).takeCount] ++ e1 (s.activityCode d) ++
      eOpt (fun i : Slot => [num8 i, (s.slot i).gen]) (s.waitingOf d) ++
      eOpt (fun i : Slot => [num8 i, (s.slot i).gen]) (s.outstandingOf d) ++
      eOpt (fun p : Port => [num8 p]) (s.portOf d) ++
      eOpt (fun q : Protect => num8 q.holder :: e1 (protectKindCode q.kind)) (s.protectOf d) := by
  simp only [readDestResult, eOpt_tag, e1_num8, eTime, List.append_assoc, List.cons_append, List.nil_append]

/-- The queue position of a waiting take, from 1 at the head (R42). -/
theorem eOpt_position (i : Slot) (k : Take) : eOpt e1 (s.position i k) =
    if k.state = .queued ∨ k.state = .held then 1 :: e1 ((s.queue (s.dest k.dest).domain).idxOf i + 1) else [0] := by
  unfold State.position
  simp only [TakeState.waiting_iff]
  split <;> rfl

theorem eTake_eq (r : SlotRec) (k : Take) : eTake r k =
    [r.gen] ++ e1 (takeStateCode k.state) ++ [num8 k.dest] ++ e2 k.source.val ++ eOrigin k.origin ++ [num8 k.panel] ++
      eOpt eGroup k.group ++ eOpt (fun x : Src => e2 x.val) k.condition ++ eFlag k.report ++ bytes32 k.admittedAt ++
      bytes32 k.ageStart ++ eOpt bytes32 k.issuedAt ++ eFlag k.reissued ++
      eOpt (fun o => e1 (outcomeCode o)) k.outcome ++ eOpt eEnded r.previous := rfl

theorem runReadTake_read (g : Tag) : runReadTake (num8 g.slot) g.gen s =
    match s.named g with
    | .live t => (.ok (eTake (s.slot g.slot) t ++ eOpt e1 (s.position g.slot t)), s)
    | .ended e => (.ok (e1 6 ++ e1 e.dest.val ++ e2 e.source.val ++ e1 (outcomeCode e.outcome)), s)
    | .nothing => (.refuse .noTake, s) := by
  simp only [runReadTake, below_num8_128] <;> rfl

/-! ## READ SALVO -/

/-- The take is a live member of the salvo's group (R73). -/
def Take.memberOf (n : Salvo) (k : Take) : Bool :=
  decide (k.state ≠ .done) && k.group.any (fun g => decide (g.salvo = some n))

theorem memberOf_eq (n : Salvo) (k : Take) : k.memberOf n = (k.state.active && (match k.group with
    | some g => decide (g.salvo = some n)
    | none => false)) := by
  unfold Take.memberOf
  cases k.state <;> cases k.group <;> rfl

theorem members_eq (n : Salvo) :
    s.members n = (List.finRange 128).filterMap (fun i => (s.slot i).take.filter (Take.memberOf n)) := by
  rw [State.members, toList_eq_map_look, List.filterMap_map, List.filter_filterMap]
  refine congrArg (List.filterMap · _) (funext fun i => congrArg ((s.slot i).take.filter ·) (funext fun k => ?_))
  exact (memberOf_eq n k).symm

theorem mem_members (n : Salvo) (k : Take) :
    k ∈ s.members n ↔ ∃ i, (s.slot i).take = some k ∧ k.memberOf n = true := by
  simp only [members_eq, List.mem_filterMap, List.mem_finRange, true_and, Option.filter_eq_some_iff]

theorem salvoBusy_iff_members (n : Salvo) : s.salvoBusy n = true ↔ s.members n ≠ [] := by
  rw [← List.isEmpty_eq_false_iff, List.isEmpty_eq_false_iff_exists_mem, salvoBusy, findTake_isSome]
  simp only [mem_members, SlotRec.holds_iff, memberOf_eq]
  exact exists_comm

/-- The BUSY flag stands before the group's serial and its members' states (R73). -/
theorem eBusy_eq (n : Salvo) : (if s.salvoBusy n then eFlag true ++ eBusy (s.members n) else eFlag false) =
    match s.members n with
    | [] => [0]
    | k :: _ => 1 :: ((match k.group with
      | some g => bytes16 g.serial
      | none => [0, 0]) ++ [TakeState.queued, .held, .issued, .retry].flatMap (fun st =>
        e1 ((s.members n).filter (fun t => decide (t.state = st))).length)) := by
  cases hm : s.members n with
  | nil => exact if_neg (fun h => (salvoBusy_iff_members s n).1 h hm)
  | cons k l =>
    have hbusy : s.salvoBusy n = true := (salvoBusy_iff_members s n).2 (by rw [hm]; exact List.cons_ne_nil _ _)
    rw [if_pos hbusy]
    cases hg : k.group <;> simp only [eBusy, List.head?_cons, Option.bind_some, hg] <;> rfl

theorem readSalvoResult_eq (n : Salvo) : readSalvoResult s n =
    (if s.salvo n = [] then [0] else 1 :: e1 (s.salvo n).length ++
      (s.salvo n).flatMap (fun e => num8 e.1 :: e2 e.2.val)) ++
    (match s.members n with
     | [] => [0]
     | k :: _ => 1 :: ((match k.group with
       | some g => bytes16 g.serial
       | none => [0, 0]) ++ [TakeState.queued, .held, .issued, .retry].flatMap (fun st =>
         e1 ((s.members n).filter (fun t => decide (t.state = st))).length))) ++
    e2 (1024 - ((List.finRange 32).map (fun k => (look s.store.salvos k).length)).sum) ++
    e1 s.store.undo.length ++ s.store.undo.map (fun u => num8 u.salvo) := by
  have hundo : s.store.undo.flatMap (fun u => e1 u.salvo.val) = s.store.undo.map (fun u => num8 u.salvo) :=
    List.map_eq_flatMap.symm
  unfold readSalvoResult
  rw [← eBusy_eq, ← memoryUsed_eq, hundo]
  rfl

/-! ## READ DOMAIN and READ BUS -/

theorem countTakes_eq (d : Dom) (st : TakeState) : s.countTakes d st =
    ((List.finRange 128).filter (fun i =>
      (s.slot i).take.any (fun k => decide ((s.dest k.dest).domain = d ∧ k.state = st)))).length := by
  unfold countTakes
  rw [toList_eq_map_look, List.filter_map, List.length_map]
  refine congrArg List.length (congrArg (List.filter · _) (funext fun i => ?_))
  show (s.slot i).holds _ = _
  unfold SlotRec.holds
  cases (s.slot i).take with
  | none => rfl
  | some k => exact (Bool.decide_and ..).symm

theorem eFlag_walkPaused :
    eFlag s.walkPaused = if s.bus.walk = .verify ∧ 16 ≤ s.bus.discrepancies.length then [1] else [0] := by
  unfold walkPaused
  rw [← Bool.decide_and]
  unfold eFlag
  by_cases h : s.bus.walk = .verify ∧ 16 ≤ s.bus.discrepancies.length
  · rw [if_pos h]
    exact congrArg e1 (if_pos (decide_eq_true h))
  · rw [if_neg h]
    exact congrArg e1 (if_neg (fun hd => h (of_decide_eq_true hd)))

theorem flatMap_finRange_four {α : Type} (f : Fin 4 → List α) :
    (List.finRange 4).flatMap f = f 0 ++ f 1 ++ f 2 ++ f 3 := by
  rw [show List.finRange 4 = [0, 1, 2, 3] from rfl]
  simp only [List.flatMap_cons, List.flatMap_nil, List.append_nil, List.append_assoc]

/-- READ BUS's row of a domain: the scrub debt, the scrub cursor and the length of the retry list (R120). -/
def State.busRow (s : State) (d : Dom) : List Byte :=
  e1 (look s.bus.debt d) ++ [num8 (look s.bus.cursor d)] ++ e1 (look s.bus.retry d).length

theorem readBusResult_eq : readBusResult s =
    [if s.straps.masterHigh then 2 else 1] ++ s.busRow 0 ++ s.busRow 1 ++ s.busRow 2 ++ s.busRow 3 ++ e1 s.bus.absent.length ++
      e1 (walkCode s.bus.walk) ++ (if s.bus.walk = .verify ∧ 16 ≤ s.bus.discrepancies.length then [1] else [0]) ++
      [num8 s.bus.walkCursor] ++
      eOpt (fun r : Readback => num8 r.dest :: e1 (readbackKindCode r.kind)) s.bus.readback ++
      e2 s.bus.interval ++ e1 (policyCode s.bus.policy) ++ bytes32 s.bus.intervalStart ++ e2 s.bus.priority.length ++
      eOpt (fun d : Dest => [num8 d]) s.bus.priority.head? ++ e1 s.bus.discrepancies.length ++ bytes32 s.now := by
  have hrow : (fun d : Dom => e1 (look s.bus.debt d) ++ e1 (look s.bus.cursor d).val ++ e1 (look s.bus.retry d).length) =
      s.busRow := rfl
  unfold readBusResult
  dsimp only
  rw [hrow, flatMap_finRange_four, eFlag_walkPaused]
  simp only [e1_num8, eTime, Straps.masterId, List.append_assoc, List.cons_append, List.nil_append]

/-! ## READ RECORDER -/

theorem e1_onlineCode (online : Bool) : e1 (onlineCode online) = [if online then 0 else 1] := by
  cases online <;> rfl

theorem readRecorderResult_eq (p : Port) : readRecorderResult s p =
    eOpt (fun d : Dest => [num8 d]) (s.port p).dest ++ e1 (guardPolicyCode (s.port p).policy) ++ [look s.router.poll p] ++
      e1 (s.port p).guardTime ++ e1 (s.port p).pollTimeout ++ e1 (exchangeStateCode (s.port p).exchange) ++
      eOpt (fun f : InFlight => e1 (exchangeKindCode f.kind) ++ bytes32 f.sentAt) (s.port p).inFlight ++
      eOpt bytes32 (s.port p).guardEnd ++ eFlag (s.port p).pollPending ++ [if (s.port p).online then 0 else 1] ++
      e1 (s.port p).silent ++ e1 (reportedCode (s.port p).reported) ++ eOpt bytes32 (s.port p).lastStatusAt ++
      e1 (s.port p).queue.length ++ (s.port p).queue.flatMap (fun c => e1 (commandCode c)) ++ eFlag (s.port p).markPending ++
      eOpt (fun l : LastCommand => e1 (commandCode l.command) ++ e1 (commandResultCode l.result) ++ bytes32 l.time)
        (s.port p).lastCommand ++
      eOpt bytes32 (s.port p).recordStamp ++ eOpt e3 (s.port p).startDelay ++
      eOpt (fun d : Dest => eSource (s.dest d).source) (s.port p).dest ++ bytes32 s.now := by
  have htime : eTime = bytes32 := rfl
  unfold readRecorderResult
  generalize s.port p = r
  simp only [e1_num8, htime, e1_onlineCode]

end

/-- Settles O53: each snapshot is its record, and changes nothing. -/
theorem snapshotsAnswerWhatIsHeld : Obligations.SnapshotsAnswerWhatIsHeld := by
  unfold Obligations.SnapshotsAnswerWhatIsHeld
  refine ⟨fun s tag hl => ⟨fun d => ?_, fun source h => ?_, fun x => ?_, fun slot gen h => ?_, fun g => ?_, fun salvo h => ?_,
    fun n => ?_⟩, fun s tag hl => ⟨fun n h => ?_, fun n h => ?_, fun n h => ?_, fun d => ?_, ?_, fun p => ?_, fun k => ?_⟩⟩
  · refine answers_of rfl rfl rfl hl ?_
    simp only [runReadDest, toFin_num8, readDestResult_eq]
    rfl
  · exact answers_of rfl rfl rfl hl (by simp only [runReadSource, below_of_ge h]; rfl)
  · exact answers_of rfl rfl rfl hl (by simp only [runReadSource, below_num16_512]; rfl)
  · exact answers_of rfl rfl rfl hl (by simp only [runReadTake, below_of_ge h]; rfl)
  · refine ⟨fun k hk => answers_of rfl rfl rfl hl ?_, fun e he => answers_of rfl rfl rfl hl ?_,
      fun hlive hended => answers_of rfl rfl rfl hl ?_⟩
    · rw [runReadTake_read, named_of_live hk]
      dsimp only
      rw [eOpt_position, eTake_eq, hk.2]
      rfl
    · rw [runReadTake_read, named_of_ended he]
      rfl
    · rw [runReadTake_read, named_of_nothing hlive hended]
      rfl
  · exact answers_of rfl rfl rfl hl (by simp only [runReadSalvo, below_of_ge h]; rfl)
  · intro l live used
    have hlive : s.members n = live := members_eq s n
    refine answers_of rfl rfl rfl hl ?_
    simp only [runReadSalvo, below_num8_32, readSalvoResult_eq, hlive]
    rfl
  · exact answers_of rfl rfl rfl hl (by simp only [runReadDomain, below_of_ge h]; rfl)
  · exact answers_of rfl rfl rfl hl (by simp only [runReadRecorder, below_of_ge h]; rfl)
  · exact answers_of rfl rfl rfl hl (by simp only [runReadComparator, below_of_ge h]; rfl)
  · intro r count
    refine answers_of rfl rfl rfl hl ?_
    have hcount (st : TakeState) : s.countTakes d st = count st := countTakes_eq s d st
    simp only [runReadDomain, below_num8_4, readDomainResult, hcount, e1_num8, eTime, List.flatMap_cons, List.flatMap_nil,
      List.append_assoc, List.append_nil, List.cons_append, List.nil_append]
    rfl
  · intro b row
    refine answers_of rfl rfl rfl hl ?_
    rw [runReadBus, readBusResult_eq]
    rfl
  · exact answers_of rfl rfl rfl hl (by simp only [runReadRecorder, below_num8_16, readRecorderResult_eq]; rfl)
  · exact answers_of rfl rfl rfl hl (by simp only [runReadComparator, below_num8_8]; rfl)

end Sys2Proof.Machine
end

section
/-! PROOF. Deadlines and re-issues (R36, R37, R97, R99, R104). -/

namespace Sys2Proof.Machine

open State

/-! ## The deadlines of a window (R97, R104) -/

section
variable {s : State} {d : Dom} {i : Slot} {k : Take}

/-- The take's deadline falls in the domain's present frame (R97). -/
def State.Due (s : State) (d : Dom) (k : Take) : Prop :=
  k.state = .issued ∧ (s.dest k.dest).domain = d ∧ ∃ n : U32, k.issuedAt = some n ∧ n + 2 = (s.dom d).number

theorem due_iff : (k.state = .issued ∧ s.takeDomain k = d ∧ k.issuedAt.map (fun n => n + 2) = some (s.dom d).number) ↔
    s.Due d k := by
  unfold State.Due takeDomain
  rw [Option.map_eq_some_iff]

theorem judgeDeadline_early (hk : (s.slot i).take = some k) (h : ¬ s.Due d k) : s.judgeDeadline d i = s := by
  unfold State.judgeDeadline
  rw [hk]
  exact if_neg (fun hdue => h (due_iff.1 hdue))

/-- The first miss puts the take on the retry list (R97). -/
theorem judgeDeadline_retry (hk : (s.slot i).take = some k) (h : s.Due d k) (hr : k.reissued = false) :
    s.judgeDeadline d i = { s with
      pool := { s.pool with slots := put s.pool.slots i { s.slot i with take := some { k with state := .retry } } }
      bus := { s.bus with retry := put s.bus.retry d (look s.bus.retry d ++ [⟨i, (s.slot i).gen⟩]) } } := by
  have htag : (s.setTake i { k with state := .retry }).tagOf i = ⟨i, (s.slot i).gen⟩ := by
    unfold tagOf
    rw [slot_setTake, if_pos rfl]
  unfold State.judgeDeadline
  rw [hk]
  dsimp only
  rw [if_pos (due_iff.2 h), if_neg (by rw [hr]; exact Bool.false_ne_true), htag]
  rfl

theorem judgeDeadline_fault (hk : (s.slot i).take = some k) (h : s.Due d k) (hr : k.reissued = true) :
    s.judgeDeadline d i = s.faultDest i k.dest := by
  unfold State.judgeDeadline
  rw [hk]
  dsimp only
  rw [if_pos (due_iff.2 h), if_pos hr]

end

/-! ## The re-issues (R36, R99) -/

/-- The slot record with its take re-issued in frame `n` (R36). -/
def SlotRec.reissuedIn (r : SlotRec) (n : U32) : SlotRec :=
  { r with take := r.take.map (fun k => { k with state := .issued, reissued := true, issuedAt := some n }) }

theorem reissuedIn_twice (r : SlotRec) (n : U32) : (r.reissuedIn n).reissuedIn n = r.reissuedIn n := by
  unfold SlotRec.reissuedIn
  rw [Option.map_map]
  rfl

theorem reissuedIn_none {r : SlotRec} (h : r.take = none) (n : U32) : r.reissuedIn n = r := by
  obtain ⟨gen, take, previous⟩ := r
  cases h
  rfl

theorem reissue_slots (n : U32) (s : State) (g : Tag) : reissue n s g = { s with
    pool := { s.pool with slots := (reissue n s g).pool.slots } } := by
  unfold reissue
  split <;> rfl

theorem slot_reissue (n : U32) (s : State) (g : Tag) (i : Slot) :
    (reissue n s g).slot i = if i = g.slot then (s.slot i).reissuedIn n else s.slot i := by
  cases hk : (s.slot g.slot).take with
  | some k =>
    rw [reissue_eq hk, slot_setTake]
    split
    · next hi => subst hi; simp only [SlotRec.reissuedIn, hk, Option.map_some]
    · rfl
  | none =>
    have hsame : reissue n s g = s := by
      unfold reissue
      rw [hk]
    rw [hsame]
    split
    · next hi => subst hi; exact (reissuedIn_none hk n).symm
    · rfl

theorem foldl_reissue_slots (n : U32) (l : List Tag) (s : State) : l.foldl (reissue n) s = { s with
    pool := { s.pool with slots := (l.foldl (reissue n) s).pool.slots } } := by
  induction l generalizing s with
  | nil => rfl
  | cons g l ih =>
    rw [List.foldl_cons]
    refine (ih _).trans ?_
    rw [reissue_slots n s g]

/-- A slot named by several tags of the list is re-issued once. -/
theorem slot_reissues (n : U32) (l : List Tag) (s : State) (i : Slot) :
    (l.foldl (reissue n) s).slot i = if ∃ x ∈ l, x.slot = i then (s.slot i).reissuedIn n else s.slot i := by
  induction l generalizing s with
  | nil => rw [if_neg (by simp)]; rfl
  | cons g l ih =>
    rw [List.foldl_cons, ih, slot_reissue]
    by_cases hg : i = g.slot
    · have hhead : ∃ x ∈ g :: l, x.slot = i := ⟨g, List.mem_cons_self, hg.symm⟩
      rw [if_pos hg, if_pos hhead, reissuedIn_twice, ite_self]
    · have htail : (∃ x ∈ g :: l, x.slot = i) ↔ ∃ x ∈ l, x.slot = i := by
        simp only [List.mem_cons, exists_eq_or_imp, or_iff_right_iff_imp]
        exact fun h => absurd h.symm hg
      rw [if_neg hg]
      exact if_congr htail.symm rfl rfl

/-- Settles O42: the first miss retries, the second faults the destination, and the list's head is re-issued. -/
theorem deadlinesRetryOrFaultAndRetriesReissue : Obligations.DeadlinesRetryOrFaultAndRetriesReissue := by
  unfold Obligations.DeadlinesRetryOrFaultAndRetriesReissue
  refine fun s d => ⟨fun i k hk => ?_, fun g hg => ?_⟩
  · intro due
    refine ⟨judgeDeadline_early hk, judgeDeadline_retry hk, fun hdue hr => ?_⟩
    intro u v flags
    have hfault : s.judgeDeadline d i = (v.outputEvent k.dest .secondMiss).flagDestFault k.dest ⟨i, (s.slot i).gen⟩ :=
      judgeDeadline_fault hk hdue hr
    have hafter : (v.dest k.dest).output.after .secondMiss = .faulted := by
      cases (v.dest k.dest).output <;> rfl
    refine ⟨fun ho => ?_, fun ho => ?_⟩
    · rw [hfault, outputEvent_same (hafter.trans ho.symm)]
      rfl
    · rw [hfault, outputEvent_changes (by rw [hafter]; exact ho.symm), hafter]
      rfl
  · intro list t now
    subst hg
    have hslot (i : Slot) : t.state.slot i = if ∃ x ∈ now, x.slot = i then
        (g.state.slot i).reissuedIn (g.state.dom d).number else g.state.slot i := slot_reissues ..
    refine ⟨rfl, rfl, ?_, fun x hx k hk => ?_, fun i hi => ?_⟩
    · obtain ⟨v, hv⟩ : ∃ v, now.foldl (reissue (g.state.dom d).number) g.state =
          { g.state with pool := { g.state.pool with slots := v } } := ⟨_, foldl_reissue_slots ..⟩
      simp only [t, grantRetries]
      rw [hv]
    · rw [hslot, if_pos ⟨x, hx, rfl⟩]
      simp only [SlotRec.reissuedIn, hk, Option.map_some]
    · rw [hslot]
      obtain hnone | hother := hi
      · rw [reissuedIn_none hnone, ite_self]
      · exact if_neg (fun ⟨x, hx, he⟩ => hother x hx he)

end Sys2Proof.Machine
end

section
/-! PROOF. One entry of the selection walk, and a run of an ALL group (R30, R32 to R35, R140). -/

namespace Sys2Proof.Machine

open State

/-! ## Passed over and failing (R32, R33) -/

theorem outstandingOf_isSome (s : State) (d : Dest) :
    (s.outstandingOf d).isSome = true ↔ ∃ j, SlotHas s j d [.issued, .retry] := by
  rw [outstandingOf, findTake_isSome]
  exact exists_congr (fun j => holds_outstanding_iff s j d)

theorem passedOver_iff (s : State) (i : Slot) : s.passedOver i = true ↔
    ∃ k, (s.slot i).take = some k ∧ (k.state = .held ∨ ∃ j, SlotHas s j k.dest [.issued, .retry]) := by
  rw [passedOver, SlotRec.holds_iff]
  simp only [Bool.or_eq_true, decide_eq_true_eq, outstandingOf_isSome]

theorem conditionFails_iff (s : State) (i : Slot) : s.conditionFails i = true ↔
    ∃ k x, (s.slot i).take = some k ∧ k.condition = some x ∧ (s.dest k.dest).source ≠ some x := by
  rw [conditionFails, SlotRec.holds_iff]
  simp only [conditionCheck_eq, Option.isSome_ite, exists_and_left]

/-! ## A single entry (R33) -/

section
variable {s : State} {i : Slot} {k : Take}

/-- The take of a waiting slot once the hold test has been applied to it again (R30). -/
def State.retested (s : State) (k : Take) : Take := { k with state := if s.holdTest k.dest then .held else .queued }

theorem retestSlot_of_waiting (hk : (s.slot i).take = some k) (hw : k.state = .queued ∨ k.state = .held) :
    s.retestSlot i = s.setTake i (s.retested k) := by
  unfold State.retestSlot
  rw [hk]
  exact if_pos ((TakeState.waiting_iff _).2 hw)

theorem take_setTake (l : Take) : ((s.setTake i l).slot i).take = some l := by
  rw [slot_setTake, if_pos rfl]

/-- Giving a waiting take a waiting state leaves the outstanding takes as they are. -/
theorem slotHas_outstanding_setTake {l : Take} (hk : (s.slot i).take = some k) (hw : k.state = .queued ∨ k.state = .held)
    (hl : l.state = .queued ∨ l.state = .held) (j : Slot) (d : Dest) :
    SlotHas (s.setTake i l) j d [.issued, .retry] ↔ SlotHas s j d [.issued, .retry] := by
  have waits {m : Take} (hm : m.state = .queued ∨ m.state = .held) : m.state ∉ [TakeState.issued, .retry] := by
    obtain hm | hm := hm <;> rw [hm] <;> decide
  unfold SlotHas
  rw [slot_setTake]
  by_cases hj : j = i
  · subst hj
    simp only [if_true, hk, Option.some.injEq, exists_eq_left']
    exact iff_of_false (fun h => waits hl h.2) (fun h => waits hw h.2)
  · rw [if_neg hj]

theorem retested_waiting : (s.retested k).state = .queued ∨ (s.retested k).state = .held := by
  unfold State.retested
  cases s.holdTest k.dest
  · exact .inl rfl
  · exact .inr rfl

theorem retested_held : (s.retested k).state = .held ↔ s.holdTest k.dest = true := by
  unfold State.retested
  cases s.holdTest k.dest <;> simp

/-- The take is passed over (R32): it is HELD, or its destination has an outstanding take. -/
def State.Passed (s : State) (k : Take) : Prop := s.holdTest k.dest = true ∨ ∃ j, SlotHas s j k.dest [.issued, .retry]

theorem passedOver_retested (hk : (s.slot i).take = some k) (hw : k.state = .queued ∨ k.state = .held) :
    (s.setTake i (s.retested k)).passedOver i = true ↔ s.Passed k := by
  rw [passedOver_iff, take_setTake]
  simp only [slotHas_outstanding_setTake hk hw retested_waiting, Option.some.injEq, exists_eq_left', retested_held]
  rfl

/-- The take's condition fails (R33). -/
def State.Fails (s : State) (k : Take) : Prop := ∃ x, k.condition = some x ∧ (s.dest k.dest).source ≠ some x

theorem conditionFails_retested : (s.setTake i (s.retested k)).conditionFails i = true ↔ s.Fails k := by
  rw [conditionFails_iff, take_setTake]
  simp only [Option.some.injEq, exists_and_left, exists_eq_left']
  rfl

end

section
variable {g : Grant} {d : Dom} {i : Slot} {k : Take}

theorem walkSingle_passes (hk : (g.state.slot i).take = some k) (hw : k.state = .queued ∨ k.state = .held)
    (hp : g.state.Passed k) : walkSingle d g i = ⟨g.state.setTake i (g.state.retested k), g.writes, g.budget⟩ := by
  unfold State.walkSingle
  rw [retestSlot_of_waiting hk hw]
  exact if_pos ((passedOver_retested hk hw).2 hp)

theorem walkSingle_fails (hk : (g.state.slot i).take = some k) (hw : k.state = .queued ∨ k.state = .held)
    (hp : ¬ g.state.Passed k) (hf : g.state.Fails k) : walkSingle d g i =
      ⟨(g.state.setTake i (g.state.retested k)).endTake i .condFailed, g.writes, g.budget⟩ := by
  unfold State.walkSingle
  rw [retestSlot_of_waiting hk hw]
  exact (if_neg (fun h => hp ((passedOver_retested hk hw).1 h))).trans (if_pos (conditionFails_retested.2 hf))

/-- The issue of the entry overwrites the retest (R35). -/
theorem walkSingle_issues (hk : (g.state.slot i).take = some k) (hw : k.state = .queued ∨ k.state = .held)
    (hp : ¬ g.state.Passed k) (hf : ¬ g.state.Fails k) : walkSingle d g i =
      ⟨{ g.state.issuedIn d i k with ports := (issue d (g.state.setTake i (g.state.retested k)) i).ports },
        g.writes ++ [⟨k.dest, k.source⟩], g.budget - 1⟩ := by
  have htake := take_setTake (s := g.state) (i := i) (g.state.retested k)
  have hissue := issue_eq (d := d) htake
  have hin : (g.state.setTake i (g.state.retested k)).issuedIn d i (g.state.retested k) = g.state.issuedIn d i k := by
    unfold State.issuedIn
    rw [slot_setTake, if_pos rfl]
    simp only [setTake, setSlot, put_put]
    rfl
  have hwrite : [i].filterMap (g.state.setTake i (g.state.retested k)).takeWrite = [⟨k.dest, k.source⟩] := by
    simp only [takeWrite, List.filterMap_cons, List.filterMap_nil, htake, Option.map_some]
    rfl
  unfold State.walkSingle
  rw [retestSlot_of_waiting hk hw]
  refine (if_neg (fun h => hp ((passedOver_retested hk hw).1 h))).trans
    ((if_neg (fun h => hf (conditionFails_retested.1 h))).trans ?_)
  unfold issueAll
  rw [hwrite]
  refine congrArg (fun t => Grant.mk t _ _) ?_
  rw [hin] at hissue
  exact hissue

end

/-! ## The MARK of a recorder port (R140) -/

section
variable {s : State} {d : Dom} {i : Slot} {k : Take}

theorem ports_issue_of_no_mark (hk : (s.slot i).take = some k)
    (h : ∀ p, s.portOf k.dest = some p → (s.port p).policy ≠ .split ∨ (s.port p).reported ≠ .recording) :
    (issue d s i).ports = s.ports := by
  unfold State.issue
  rw [hk]
  dsimp only
  split
  · next p hp =>
    obtain hpolicy | hreported := h p hp
    · rw [if_neg (fun hm => hpolicy hm.1)]
      rfl
    · rw [if_neg (fun hm => hreported hm.2)]
      rfl
  · rfl

theorem ports_issue_of_mark {p : Port} (hk : (s.slot i).take = some k) (hp : s.portOf k.dest = some p)
    (hpolicy : (s.port p).policy = .split) (hreported : (s.port p).reported = .recording) :
    (issue d s i).ports = put s.ports p ({ s.port p with markPending := true }.start s.now) := by
  unfold State.issue
  rw [hk]
  dsimp only
  split
  · next q hq =>
    cases hp.symm.trans hq
    rw [if_pos ⟨hpolicy, hreported⟩]
    rfl
  · next hnone => exact absurd (hp.symm.trans hnone) nofun

end

/-! ## A run (R34) -/

section
variable {run : List Slot}

/-- The run has been retested, and one of its takes is passed over. -/
theorem any_passedOver_iff (u : State) : run.any u.passedOver = true ↔ ∃ i ∈ run, ∃ k, (u.slot i).take = some k ∧
    (k.state = .held ∨ ∃ j, SlotHas u j k.dest [.issued, .retry]) := by
  rw [List.any_eq_true]
  simp only [passedOver_iff]

theorem any_conditionFails_iff (u : State) : run.any u.conditionFails = true ↔ ∃ i ∈ run, ∃ k x, (u.slot i).take = some k ∧
    k.condition = some x ∧ (u.dest k.dest).source ≠ some x := by
  rw [List.any_eq_true]
  simp only [conditionFails_iff]

end

/-- Settles O43: an entry or a run is passed over, fails its condition, or is issued while budget remains. -/
theorem selectionPassesFailsOrIssues : Obligations.SelectionPassesFailsOrIssues := by
  unfold Obligations.SelectionPassesFailsOrIssues
  intro g d s
  refine ⟨fun i k hk hw => ?_, fun run _ => ?_⟩
  · intro held u failing
    have hu : s.setTake i (s.retested k) = u := rfl
    refine ⟨fun hpass => hu ▸ walkSingle_passes hk hw hpass, fun hfree hclear => ?_⟩
    have hpass : ¬ s.Passed k := by
      rintro (h | ⟨j, hj⟩)
      · exact absurd (hfree.symm.trans h) nofun
      · exact hclear j hj
    refine ⟨fun hf => hu ▸ walkSingle_fails hk hw hpass hf, fun hf => ?_⟩
    intro v
    have hissues := walkSingle_issues (d := d) hk hw hpass hf
    have htake := take_setTake (s := s) (i := i) (s.retested k)
    refine ⟨fun h => hissues.trans ?_, fun p hp hpolicy hreported => hissues.trans ?_⟩
    · have hports := ports_issue_of_no_mark (d := d) htake h
      rw [hports]
      rfl
    · have hports := ports_issue_of_mark (d := d) htake hp hpolicy hreported
      rw [hports]
      rfl
  · intro u passed failing
    have hp : run.any u.passedOver = true ↔ passed := any_passedOver_iff u
    have hf : run.any u.conditionFails = true ↔ failing := any_conditionFails_iff u
    unfold State.walkRun
    refine ⟨fun h => if_pos (hp.2 h), fun h hfail => (if_neg (fun hn => h (hp.1 hn))).trans (if_pos (hf.2 hfail)),
      fun h hfail => ?_⟩
    have hno : ¬ run.any u.passedOver = true := fun hn => h (hp.1 hn)
    have hnone : ¬ run.any u.conditionFails = true := fun hn => hfail (hf.1 hn)
    exact ⟨fun hle => (if_neg hno).trans ((if_neg hnone).trans (if_pos hle)),
      fun hlt hlong => (if_neg hno).trans ((if_neg hnone).trans ((if_neg (Nat.not_le.2 hlt)).trans (if_pos hlong))),
      fun hlt hshort => (if_neg hno).trans ((if_neg hnone).trans
        ((if_neg (Nat.not_le.2 hlt)).trans (if_neg (Nat.not_lt.2 hshort))))⟩

end Sys2Proof.Machine
end

section
/-! PROOF. The issue window: its one transfer and its stages, and the selection walk (R31, R33, R34, R96, R105). -/

namespace Sys2Proof.Machine

open State

/-! ## The window -/

section
variable (s : State) (d : Dom) (before : List Tag)

/-- A bus that keeps all but the pool's lists and the debt keeps its transfers. -/
theorem transfers_of_still {b c : Bus} {debt : Vector Nat 4} (h : b.still = { c.still with debt := debt }) :
    b.transfers = c.transfers :=
  show b.still.transfers = c.still.transfers from (congrArg Bus.transfers h :)

theorem judged_eq : s.judged d = s.pool.issued.foldl (fun v i => v.judgeDeadline d i) (s.dropTimers d) := rfl

theorem forcedDests_eq : s.forcedDests d = if look s.bus.debt d = 8 then (s.scrubOrder d []).take 18 else [] := rfl

theorem windowGrant_eq : s.windowGrant d before = State.ordinaryScrub (State.selectTakes (State.grantRetries
    ((s.judged d).forcedScrub d) d) d before) d ((s.judged d).forcedDests d) := rfl

/-- The grants of a window leave the transfers to be sent as they are. -/
theorem windowGrant_transfers : (s.windowGrant d before).state.bus.transfers = s.bus.transfers := by
  obtain ⟨eligible, granted, hstill⟩ := ordinaryScrub_still (s.selected d before) d ((s.judged d).forcedDests d)
  calc (s.windowGrant d before).state.bus.transfers
      = (s.selected d before).state.bus.transfers := transfers_of_still hstill
    _ = s.bus.transfers := transfers_of_still (selected_still s d before)

theorem issueWindow_transfer : s.issueWindow d before = { (s.windowGrant d before).state with
    bus := { (s.windowGrant d before).state.bus with transfers := (s.windowGrant d before).state.bus.transfers ++
      (if (s.windowGrant d before).writes = [] then [] else [(s.windowGrant d before).writes]) } } := by
  rw [issueWindow_eq]
  split
  · rw [List.append_nil]
  · rfl

theorem windowGrant_writes_length : (s.windowGrant d before).writes.length ≤ 32 :=
  Nat.le_of_add_right_le (windowGrant_within s d before)

/-- The ABSENT timer of the pair is dropped at the domain's switch point (R105). -/
def State.timesOut (a : Tag × Time) : Bool :=
  (s.slot a.1.slot).holds (fun t => decide (s.takeDomain t = d))

theorem timesOut_iff (a : Tag × Time) : s.timesOut d a = true ↔
    ∃ k, (s.slot a.1.slot).take = some k ∧ (s.dest k.dest).domain = d := by
  unfold State.timesOut takeDomain
  rw [SlotRec.holds_iff]
  simp only [decide_eq_true_eq]

end

/-! ## The walk (R31, R33, R34) -/

theorem walk_nil (d : Dom) (n : Nat) (g : Grant) : State.walk d n g [] = g := by
  cases n <;> rfl

theorem walk_spent {d : Dom} {g : Grant} (n : Nat) (i : Slot) (rest : List Slot) (h : g.budget = 0) :
    State.walk d n g (i :: rest) = g := by
  cases n with
  | zero => rfl
  | succ n => exact if_pos h

/-- The slot holds a member of the ALL group with the serial (R31). -/
def State.InAll (s : State) (serial : U16) (j : Slot) : Prop :=
  ∃ k c, (s.slot j).take = some k ∧ k.group = some c ∧ c.serial = serial ∧ c.mode = .all

section
variable {s : State} {i : Slot}

theorem allSerial_eq_some (k : Take) (serial : U16) :
    k.allSerial = some serial ↔ ∃ c, k.group = some c ∧ c.serial = serial ∧ c.mode = .all := by
  unfold Take.allSerial
  cases k.group with
  | none => simp
  | some c => by_cases hm : c.mode = .all <;> simp [hm]

theorem inRun_iff (k : Take) (serial : U16) :
    k.inRun serial = true ↔ ∃ c, k.group = some c ∧ c.serial = serial ∧ c.mode = .all := by
  unfold Take.inRun
  cases k.group <;> simp

theorem holds_inRun_iff (serial : U16) (j : Slot) :
    (s.slot j).holds (fun k => k.inRun serial) = true ↔ s.InAll serial j := by
  rw [SlotRec.holds_iff]
  simp only [inRun_iff, State.InAll, exists_and_left]

theorem runOf_single (rest : List Slot) (h : ∀ serial, ¬ s.InAll serial i) : s.runOf i rest = none := by
  unfold State.runOf
  split
  · rfl
  · next k hk =>
    split
    · rfl
    · next serial hserial =>
      obtain ⟨c, hc⟩ := (allSerial_eq_some k serial).1 hserial
      exact absurd ⟨k, c, hk, hc⟩ (h serial)

theorem takeWhile_run {α : Type} {p : α → Bool} {run after : List α} (hrun : ∀ j ∈ run, p j = true)
    (hafter : ∀ j, after.head? = some j → ¬ p j = true) : (run ++ after).takeWhile p = run := by
  rw [List.takeWhile_append_of_pos hrun]
  cases after with
  | nil => rw [List.takeWhile_nil, List.append_nil]
  | cons j after => rw [List.takeWhile_cons_of_neg (hafter j rfl), List.append_nil]

theorem runOf_all {serial : U16} {run after : List Slot} (hi : s.InAll serial i) (hrun : ∀ j ∈ run, s.InAll serial j)
    (hafter : ∀ j, after.head? = some j → ¬ s.InAll serial j) : s.runOf i (run ++ after) = some (i :: run) := by
  obtain ⟨k, c, hk, hc⟩ := hi
  have hserial : k.allSerial = some serial := (allSerial_eq_some k serial).2 ⟨c, hc⟩
  have htake := takeWhile_run (p := fun j => (s.slot j).holds (fun u => u.inRun serial))
    (fun j hj => (holds_inRun_iff serial j).2 (hrun j hj)) (fun j hj h => hafter j hj ((holds_inRun_iff serial j).1 h))
  simp only [State.runOf, hk, hserial, htake]

end

section
variable {g : Grant} {d : Dom} {i : Slot} (n : Nat)

theorem walk_single {rest : List Slot} (hb : g.budget ≠ 0) (h : g.state.runOf i rest = none) :
    State.walk d (n + 1) g (i :: rest) = State.walk d n (State.walkSingle d g i) rest := by
  rw [State.walk, if_neg hb, h]

theorem walk_run {run rest : List Slot} (hb : g.budget ≠ 0) (h : g.state.runOf i rest = some run) :
    State.walk d (n + 1) g (i :: rest) = if (State.walkRun d g run).2 = true
      then State.walk d n (State.walkRun d g run).1 (rest.drop (run.length - 1)) else (State.walkRun d g run).1 := by
  rw [State.walk, if_neg hb, h]
  dsimp only
  obtain ⟨g1, on⟩ := State.walkRun d g run
  cases on <;> rfl

end

/-- Settles O41: one transfer of the granted writes, after the stages in their order; the walk takes entries and runs. -/
theorem windowSendsAtMost32Writes : Obligations.WindowSendsAtMost32Writes := by
  unfold Obligations.WindowSendsAtMost32Writes
  intro s d before
  refine ⟨(s.windowGrant d before).writes, windowGrant_writes_length s d before, ?_, by simp, by simp,
    ⟨s.timesOut d, timesOut_iff s d, rfl⟩, ?_, fun g => ?_⟩
  · rw [issueWindow_transfer, ← windowGrant_transfers s d before]
  · intro u forced g
    have hgrant : s.windowGrant d before = g := by
      rw [windowGrant_eq, forcedDests_eq, judged_eq]
    rw [issueWindow_transfer, hgrant]
    exact ⟨rfl, rfl⟩
  · intro t entries
    have hentries : (t.queue d).filter (fun i => before.contains (t.tagOf i)) = entries := by
      simp only [entries, List.contains_eq_mem]
      rfl
    refine ⟨?_, fun n => walk_nil d n g, fun n i rest h => walk_spent n i rest h, fun n i rest hb => ?_⟩
    · rw [← hentries]
      rfl
    · intro member
      refine ⟨fun h => walk_single n hb (runOf_single rest h), fun serial run after hi hrest hrun hafter => ?_⟩
      intro w
      have hwalk := walk_run (d := d) n hb (runOf_all hi hrun hafter)
      rw [List.length_cons, Nat.add_sub_cancel, List.drop_left] at hwalk
      rw [hrest, hwalk]
      exact ⟨fun h => if_pos h, fun h => if_neg (Bool.eq_false_iff.1 h)⟩

end Sys2Proof.Machine
end

section
/-! PROOF. The scrub of a window: its order, its debt and its cursor (R98, R100, R101). -/

namespace Sys2Proof.Machine

open State

/-! ## The order (R101) -/

theorem rotated_finRange {n : Nat} [NeZero n] (c : Fin n) :
    (List.finRange n).drop c.val ++ (List.finRange n).take c.val = (List.finRange n).map (fun i => i + c) := by
  rw [← List.rotate_eq_drop_append_take (by rw [List.length_finRange]; exact c.isLt.le)]
  refine List.ext_getElem (by simp) (fun k hk _ => ?_)
  rw [List.getElem_rotate, List.getElem_map, List.getElem_finRange, List.getElem_finRange]
  refine Fin.ext ?_
  rw [Fin.val_add]
  simp

/-- From the cursor on, the distance to the cursor grows. -/
theorem rotated_pairwise {n : Nat} [NeZero n] (c : Fin n) :
    ((List.finRange n).drop c.val ++ (List.finRange n).take c.val).Pairwise (fun x y => x - c < y - c) := by
  rw [rotated_finRange, List.pairwise_map]
  simp only [add_sub_cancel_right]
  exact List.pairwise_lt_finRange n

theorem mem_rotated {n : Nat} [NeZero n] (c x : Fin n) :
    x ∈ (List.finRange n).drop c.val ++ (List.finRange n).take c.val := by
  rw [rotated_finRange, List.mem_map]
  exact ⟨x - c, List.mem_finRange _, sub_add_cancel x c⟩

section
variable (s : State) (d : Dom) (written : List Dest)

theorem mem_scrubOrder (x : Dest) : x ∈ s.scrubOrder d written ↔
    (s.dest x).output = .ready ∧ (s.dest x).domain = d ∧ (s.dest x).source ≠ none ∧ s.activeDest x = false ∧
      x ∉ written := by
  unfold scrubOrder scrubEligible
  rw [List.mem_filter, and_iff_right (mem_rotated _ x)]
  simp only [Bool.and_eq_true, decide_eq_true_eq, Bool.not_eq_true', Option.isSome_iff_ne_none, List.contains_eq_mem,
    decide_eq_false_iff_not, and_assoc]

theorem scrubOrder_pairwise :
    (s.scrubOrder d written).Pairwise (fun x y => x - look s.bus.cursor d < y - look s.bus.cursor d) :=
  (rotated_pairwise (look s.bus.cursor d)).filter _

theorem scrubOrder_nodup : (s.scrubOrder d written).Nodup :=
  (scrubOrder_pairwise s d written).imp (fun {x y} h (he : x = y) => lt_irrefl _ (he ▸ h))

/-- A scrub writes each destination it has chosen. -/
theorem scrubWrites_length {l : List Dest} (h : ∀ x ∈ l, x ∈ s.scrubOrder d written) :
    (l.filterMap s.scrubWrite).length = l.length := by
  induction l with
  | nil => rfl
  | cons x l ih =>
    obtain ⟨-, -, hsource, -⟩ := (mem_scrubOrder s d written x).1 (h x List.mem_cons_self)
    obtain ⟨y, hy⟩ := Option.ne_none_iff_exists'.1 hsource
    have hwrite : s.scrubWrite x = some ⟨x, y⟩ := by rw [scrubWrite, hy]; rfl
    rw [List.filterMap_cons_some hwrite, List.length_cons, List.length_cons,
      ih (fun z hz => h z (List.mem_cons_of_mem _ hz))]

/-! ## The cursor and the debt (R98, R100) -/

theorem moveCursor_eq (l : List Dest) : s.moveCursor d l = { s with bus := { s.bus with
    cursor := match l.getLast? with
      | some x => put s.bus.cursor d (x + 1)
      | none => s.bus.cursor } } := by
  unfold moveCursor
  split <;> simp_all

theorem debtAfter_eq (debt eligible granted : Nat) : debtAfter debt eligible granted =
    if eligible = 0 then debt
    else if granted < min 2 eligible then debt + 1
    else if granted < 2 then debt
    else debt - (granted - 2) / 2 := by
  unfold debtAfter
  split_ifs <;> omega

variable {s d}

theorem forcedScrub_of_no_debt (h : look s.bus.debt d ≠ 8) : s.forcedScrub d = ⟨s, [], 32⟩ := by
  have hforced : s.forcedDests d = [] := if_neg h
  have hdebt : look s.bus.debt d ≠ Config.debtLimit := h
  simp only [forcedScrub, hforced, if_neg hdebt]
  rfl

theorem forcedScrub_of_debt (h : look s.bus.debt d = 8) : s.forcedScrub d =
    ⟨(s.moveCursor d ((s.scrubOrder d []).take 18)).setDebt d 0, ((s.scrubOrder d []).take 18).filterMap s.scrubWrite,
      32 - ((s.scrubOrder d []).take 18).length⟩ := by
  have hforced : s.forcedDests d = (s.scrubOrder d []).take 18 := if_pos h
  have hdebt : look s.bus.debt d = Config.debtLimit := h
  simp only [forcedScrub, hforced, if_pos hdebt]
  rfl

end

/-- Settles O44: the order follows the cursor, the forced scrub clears the debt, and the ordinary scrub pays it off. -/
theorem scrubFollowsItsDebtAndCursor : Obligations.ScrubFollowsItsDebtAndCursor := by
  unfold Obligations.ScrubFollowsItsDebtAndCursor
  refine fun s d => ⟨mem_scrubOrder s d, fun written => ⟨scrubOrder_nodup s d written, scrubOrder_pairwise s d written⟩,
    forcedScrub_of_no_debt, fun h => ?_, fun g forced hg => ?_⟩
  · intro forced g
    have hforced := forcedScrub_of_debt h
    refine ⟨congrArg Grant.budget hforced, congrArg Grant.writes hforced, ?_, (congrArg Grant.state hforced).trans ?_⟩
    · exact (congrArg (List.length ∘ Grant.writes) hforced).trans
        (scrubWrites_length s d [] (fun x hx => List.mem_of_mem_take hx))
    · dsimp only
      rw [moveCursor_eq]
      rfl
  · intro debt e n chosen
    subst hg
    unfold ordinaryScrub
    dsimp only
    rw [moveCursor_eq, debtAfter_eq]
    rfl

end Sys2Proof.Machine
end

section
/-! PROOF. READBACK: the priority list and the walk; the requests and events that begin walks (R107, R110, R113, R115 to
R118). -/

namespace Sys2Proof.Machine

open State

/-! ## The priority list (R107) -/

section
variable {s : State}

theorem busFree_iff : s.busFree = true ↔ s.bus.readback = none ∧ s.bus.transfers = [] := by
  unfold busFree
  rw [Bool.and_eq_true, Option.isNone_iff_eq_none, List.isEmpty_iff]

theorem priorityNext_eq_some {before after : List Dest} {d : Dest} (h : s.bus.priority = before ++ d :: after)
    (hbefore : ∀ x ∈ before, s.activeDest x = true) (hd : s.activeDest d = false) : s.priorityNext = some d := by
  unfold priorityNext
  rw [h, List.find?_append, List.find?_eq_none.2 (fun x hx => by simp [hbefore x hx]), Option.none_or,
    List.find?_cons_of_pos (by simp [hd])]

theorem priorityNext_eq_none (h : ∀ x ∈ s.bus.priority, s.activeDest x = true) : s.priorityNext = none :=
  List.find?_eq_none.2 (fun x hx => by simp [h x hx])

/-- The destination read leaves the priority list. -/
theorem filter_ne_of_nodup {α : Type} [DecidableEq α] {before after : List α} {a : α} (h : (before ++ a :: after).Nodup) :
    (before ++ a :: after).filter (fun x => x ≠ a) = before ++ after := by
  obtain ⟨-, hcons, hdisjoint⟩ := List.nodup_append.1 h
  have hafter : a ∉ after := (List.nodup_cons.1 hcons).1
  have keep {l : List α} (hl : a ∉ l) : l.filter (fun x => x ≠ a) = l :=
    List.filter_eq_self.2 (fun x hx => decide_eq_true (fun e => hl (e ▸ hx)))
  rw [List.filter_append, List.filter_cons_of_neg (by simp), keep hafter,
    keep (fun ha => hdisjoint a ha a List.mem_cons_self rfl)]

theorem readbackNext_busy (h : s.busFree = false) : s.readbackNext = s := by
  simp only [readbackNext, h, Bool.false_eq_true, if_false]

theorem readbackNext_priority {d : Dest} (hfree : s.busFree = true) (h : s.priorityNext = some d) :
    s.readbackNext = { s with bus := { s.bus with
      priority := s.bus.priority.filter (fun x => x ≠ d), readback := some ⟨d, .priority, s.now, false⟩ } } := by
  simp only [readbackNext, hfree, h, if_true]
  rfl

theorem readbackNext_walk (hfree : s.busFree = true) (h : s.priorityNext = none) :
    s.readbackNext = if s.walkPaused then s else walkNext 256 s := by
  simp only [readbackNext, hfree, h, if_true]

end

/-! ## The walk (R110) -/

/-- A walk reads the destination (R110). -/
def State.Reads (s : State) (d : Dest) : Prop :=
  s.activeDest d = false ∧ (s.dest d).output ≠ .faulted ∧ ((s.dest d).output = .ready → s.bus.walk = .verify)

theorem walkReads_iff (s : State) (d : Dest) : s.walkReads d = true ↔ s.Reads d := by
  unfold walkReads State.Reads
  cases s.activeDest d with
  | true => simp
  | false => cases (s.dest d).output <;> simp

theorem walkNext_none (fuel : Nat) {s : State} (h : s.bus.walk = .none) : walkNext fuel s = s := by
  cases fuel with
  | zero => rfl
  | succ fuel => exact if_pos h

/-- The state with the walk's cursor moved. -/
def State.atCursor (s : State) (d : Dest) : State := { s with bus := { s.bus with walkCursor := d } }

theorem walkOn_next {s : State} {d : Dest} (h : d ≠ 255) : s.walkOn d = s.atCursor (d + 1) := if_neg h

theorem walkOn_last (s : State) :
    s.walkOn 255 = { s with bus := { s.bus with walk := .none, walkCursor := 0, intervalStart := s.now } } := rfl

theorem next_val {d : Dest} (h : d ≠ 255) : (d + 1).val = d.val + 1 := by
  have : d.val ≠ 255 := fun e => h (Fin.ext e)
  rw [Fin.val_add]
  exact Nat.mod_eq_of_lt (show d.val + 1 < 256 by omega)

section
variable {s : State}

theorem walkNext_reads (fuel : Nat) (hwalk : s.bus.walk ≠ .none) (h : s.Reads s.bus.walkCursor) :
    walkNext (fuel + 1) s = s.sendReadback s.bus.walkCursor .walk := by
  rw [walkNext, if_neg hwalk, if_pos ((walkReads_iff s _).2 h)]

theorem walkNext_passes (fuel : Nat) (hwalk : s.bus.walk ≠ .none) (h : ¬ s.Reads s.bus.walkCursor) :
    walkNext (fuel + 1) s = walkNext fuel (s.walkOn s.bus.walkCursor) := by
  rw [walkNext, if_neg hwalk, if_neg (fun hr => h ((walkReads_iff s _).1 hr))]

/-- The walk sends the READBACK of the first destination from the cursor on that it reads. -/
theorem walkNext_found (fuel : Nat) (hfuel : 256 ≤ fuel + s.bus.walkCursor.val) (hwalk : s.bus.walk ≠ .none) {d : Dest}
    (hle : s.bus.walkCursor ≤ d) (hd : s.Reads d) (hbefore : ∀ x, s.bus.walkCursor ≤ x → x < d → ¬ s.Reads x) :
    walkNext fuel s = (s.atCursor d).sendReadback d .walk := by
  induction fuel generalizing s with
  | zero => exact absurd hfuel (by have := s.bus.walkCursor.isLt; omega)
  | succ fuel ih =>
    by_cases hc : s.bus.walkCursor = d
    · subst hc
      exact walkNext_reads fuel hwalk hd
    · have hlt : s.bus.walkCursor < d := lt_of_le_of_ne hle hc
      have hlast : s.bus.walkCursor ≠ 255 := fun e => by
        have := d.isLt
        rw [e] at hlt
        exact absurd hlt (Nat.not_lt.2 (Nat.le_of_lt_succ this))
      have hval := next_val hlast
      have hstep : s.bus.walkCursor ≤ s.bus.walkCursor + 1 := Fin.le_def.2 (hval ▸ Nat.le_succ _)
      rw [walkNext_passes fuel hwalk (hbefore _ le_rfl hlt), walkOn_next hlast]
      refine ih (s := s.atCursor (s.bus.walkCursor + 1)) (by rw [State.atCursor, hval]; omega) hwalk ?_ hd
        (fun x hx => hbefore x ?_)
      · exact Fin.le_def.2 (hval ▸ hlt)
      · exact le_trans hstep hx

/-- The walk ends where no destination from the cursor on is read. -/
theorem walkNext_ends (fuel : Nat) (hfuel : 256 ≤ fuel + s.bus.walkCursor.val) (hwalk : s.bus.walk ≠ .none)
    (hnone : ∀ d, s.bus.walkCursor ≤ d → ¬ s.Reads d) :
    walkNext fuel s = { s with bus := { s.bus with walk := .none, walkCursor := 0, intervalStart := s.now } } := by
  induction fuel generalizing s with
  | zero => exact absurd hfuel (by have := s.bus.walkCursor.isLt; omega)
  | succ fuel ih =>
    rw [walkNext_passes fuel hwalk (hnone _ le_rfl)]
    by_cases hlast : s.bus.walkCursor = 255
    · rw [hlast, walkOn_last]
      exact walkNext_none fuel rfl
    · have hval := next_val hlast
      have hstep : s.bus.walkCursor ≤ s.bus.walkCursor + 1 := Fin.le_def.2 (hval ▸ Nat.le_succ _)
      rw [walkOn_next hlast]
      refine ih (s := s.atCursor (s.bus.walkCursor + 1)) (by rw [State.atCursor, hval]; omega) hwalk (fun d hd => hnone d ?_)
      exact le_trans hstep hd

/-- Only a VERIFY walk's readback of a READY destination is to be compared (R111). -/
theorem sendReadback_walk (d : Dest) : (s.atCursor d).sendReadback d .walk = { s with bus := { s.bus with
    walkCursor := d
    readback := some ⟨d, .walk, s.now, decide (s.bus.walk = .verify ∧ (s.dest d).output = .ready)⟩ } } := by
  have hkind : decide (ReadbackKind.walk = .walk) = true := rfl
  unfold sendReadback
  rw [hkind, Bool.true_and, ← Bool.decide_and]
  rfl

theorem verifyDue_iff : s.verifyDue = true ↔ s.bus.walk = .none ∧ 0 < s.bus.interval ∧
    s.bus.interval * 1000000 ≤ (s.now - s.bus.intervalStart).toNat := by
  unfold verifyDue
  simp only [Bool.and_eq_true, decide_eq_true_eq, and_assoc]
  rfl

end

/-! ## SET VERIFY -/

theorem asVerifyPolicy_bad {b : Byte} (h : 1 < b.toNat) : asVerifyPolicy b = none := by
  unfold asVerifyPolicy
  split <;> simp_all

theorem asVerifyPolicy_ok (repair : Bool) :
    asVerifyPolicy (if repair then 1 else 0) = some (if repair then .repair else .report) := by
  cases repair <;> rfl

/-- Settles O47: the priority list first, then the walk from its cursor; how transfers end and walks begin. -/
theorem readbackOrderAndWalks : Obligations.ReadbackOrderAndWalks := by
  unfold Obligations.ReadbackOrderAndWalks
  intro s bus free out reads
  refine ⟨fun h => ?_, fun h => ⟨fun before d after hp hbefore hd hnd => ?_, fun hall => ?_⟩, ?_, ⟨fun h => ?_, fun h => ?_⟩,
    fun tag hl => ⟨fun h => ?_, fun h => ?_, fun interval policy h => ?_, fun interval policy h hp => ?_,
      fun interval repair h => ?_⟩⟩
  · exact congrArg Host.Outcome.next (readbackNext_busy (Bool.eq_false_iff.2 (fun hf => h (busFree_iff.1 hf))))
  · have hnext := priorityNext_eq_some hp hbefore hd
    refine congrArg Host.Outcome.next ((readbackNext_priority (busFree_iff.2 h) hnext).trans ?_)
    rw [hp, filter_ne_of_nodup (hp ▸ hnd)]
  · have hnext := readbackNext_walk (busFree_iff.2 h) (priorityNext_eq_none hall)
    refine ⟨fun hw => ?_, fun hw hfull => ?_, fun hw hroom => ?_⟩
    · refine congrArg Host.Outcome.next (hnext.trans ?_)
      rw [walkNext_none 256 hw, ite_self]
    · have hpaused : s.walkPaused = true := (Bool.and_eq_true _ _).mpr ⟨decide_eq_true hw, decide_eq_true hfull⟩
      exact congrArg Host.Outcome.next (hnext.trans (if_pos hpaused))
    · have hpaused : s.walkPaused = false := walkPaused_eq_false.2 (fun hv => by
        obtain hlearn | hlt := hroom
        · exact absurd (hv.symm.trans hlearn) nofun
        · exact hlt)
      have hwalk : s.readbackNext = walkNext 256 s := hnext.trans (if_neg (by rw [hpaused]; exact Bool.false_ne_true))
      have hfuel : 256 ≤ 256 + s.bus.walkCursor.val := Nat.le_add_right ..
      exact ⟨fun d hle hd hbefore => congrArg Host.Outcome.next
          (hwalk.trans ((walkNext_found 256 hfuel hw hle hd hbefore).trans (sendReadback_walk d))),
        fun hnone => congrArg Host.Outcome.next (hwalk.trans (walkNext_ends 256 hfuel hw hnone))⟩
  · refine congrArg Host.Outcome.next ?_
    unfold transferEnd
    rw [← List.drop_one]
    rfl
  · exact congrArg Host.Outcome.next (if_pos (verifyDue_iff.2 h))
  · exact congrArg Host.Outcome.next (if_neg (fun hdue => h (verifyDue_iff.1 hdue)))
  · exact answers_of rfl rfl rfl hl (by simp only [runStartWalk, if_neg h]; rfl)
  · exact answers_of rfl rfl rfl hl (by simp only [runStartWalk, if_pos h]; rfl)
  · exact answers_of rfl rfl rfl hl (by simp only [runSetVerify, if_pos h]; rfl)
  · exact answers_of rfl rfl rfl hl
      (by simp only [runSetVerify, if_neg (Nat.not_lt.2 h), asVerifyPolicy_bad hp]; rfl)
  · exact answers_of rfl rfl rfl hl
      (by simp only [runSetVerify, if_neg (Nat.not_lt.2 h), asVerifyPolicy_ok]; rfl)

end Sys2Proof.Machine
end

section
/-! PROOF. Transactions heard on the matrix bus as bytes (R94, R183). -/

namespace Sys2Proof.Machine

open State

/-- What a transaction with a good check byte and a good master ID spells (11.7). -/
def spelt (kind master : Byte) (d : Dest) (source : U16) : Heard :=
  match kind.toNat, below 512 source.toNat with
  | 2, some x => .confirm master d x
  | 4, some x => .answer master d (some x)
  | 4, none => if source = 0xFFFF then .answer master d none else .discarded
  | _, _ => .discarded

theorem hearBus_frame (kind master : Byte) (d : Dest) (source : U16) : hearBus (busFrame kind master (num8 d) source) =
    if master = 1 ∨ master = 2 then spelt kind master d source else .discarded := by
  have hframe : busFrame kind master (num8 d) source = [kind, master, num8 d, source.extractLsb' 8 8, source.extractLsb' 0 8,
      crc8 [kind, master, num8 d, source.extractLsb' 8 8, source.extractLsb' 0 8]] := rfl
  rw [hframe, hearBus, u16_bytes, toFin_num8]
  by_cases h : master = 1 ∨ master = 2
  · rw [if_pos ⟨rfl, h⟩, if_pos h]
    rfl
  · rw [if_neg (fun hc => h hc.2), if_neg h]

theorem hearBus_badCheck {a b c e f check : Byte} (h : crc8 [a, b, c, e, f] ≠ check) :
    hearBus [a, b, c, e, f, check] = .discarded := by
  rw [hearBus, if_neg (fun hc => h hc.1)]

theorem hearBus_badLength {bytes : List Byte} (h : bytes.length ≠ 6) : hearBus bytes = .discarded := by
  unfold hearBus
  split
  · exact absurd rfl h
  · rfl

section
variable {kind master : Byte} {d : Dest} {source : U16}

theorem spelt_confirm (x : Src) : spelt 2 master d (num16 x) = .confirm master d x := by
  unfold spelt
  rw [below_num16_512]
  rfl

theorem spelt_answer (x : Src) : spelt 4 master d (num16 x) = .answer master d (some x) := by
  unfold spelt
  rw [below_num16_512]
  rfl

theorem spelt_noCard : spelt 4 master d 0xFFFF = .answer master d none := rfl

theorem spelt_confirm_badSource (h : 511 < source.toNat) : spelt 2 master d source = .discarded := by
  unfold spelt
  rw [below_of_ge h]
  rfl

theorem spelt_answer_badSource (h : 511 < source.toNat) (hcard : source ≠ 0xFFFF) :
    spelt 4 master d source = .discarded := by
  unfold spelt
  rw [below_of_ge h]
  exact if_neg hcard

theorem spelt_badKind (h2 : kind ≠ 2) (h4 : kind ≠ 4) : spelt kind master d source = .discarded := by
  have hconfirm : kind.toNat ≠ 2 := fun h => h2 (BitVec.eq_of_toNat_eq (y := 2#8) h)
  have hanswer : kind.toNat ≠ 4 := fun h => h4 (BitVec.eq_of_toNat_eq (y := 4#8) h)
  unfold spelt
  generalize below 512 source.toNat = o
  generalize kind.toNat = n at hconfirm hanswer
  match n, o, hconfirm, hanswer with
  | 2, _, h, _ => exact absurd rfl h
  | 4, _, _, h => exact absurd rfl h
  | 0, o, _, _ => cases o <;> rfl
  | 1, o, _, _ => cases o <;> rfl
  | 3, o, _, _ => cases o <;> rfl
  | n + 5, o, _, _ => cases o <;> rfl

/-- An ANSWER carries a source, or NO_CARD, or nothing. -/
theorem spelt_answer_cases : (∃ x, spelt 4 master d source = .answer master d x) ∨ spelt 4 master d source = .discarded := by
  by_cases h : 511 < source.toNat
  · by_cases hcard : source = 0xFFFF
    · exact .inl ⟨none, hcard ▸ spelt_noCard⟩
    · exact .inr (spelt_answer_badSource h hcard)
  · have hx : source = num16 (⟨source.toNat, Nat.lt_succ_of_le (Nat.not_lt.1 h)⟩ : Src) := by
      unfold num16
      rw [BitVec.ofNat_toNat, BitVec.setWidth_eq]
    exact .inl ⟨_, (congrArg (spelt 4 master d) hx).trans (spelt_answer _)⟩

end

/-! ## The transaction's effect (R94, R102, R106, R108) -/

/-- The X256's master ID is 1 or 2, and the other master's is the other. -/
def Straps.peerId (x : Straps) : Byte := if x.masterHigh then 1 else 2

section
variable (s : State) {bytes : List Byte}

theorem masterId_or (x : Straps) : x.masterId = 1 ∨ x.masterId = 2 := by
  unfold Straps.masterId
  cases x.masterHigh
  · exact .inl rfl
  · exact .inr rfl

theorem peerId_or (x : Straps) : x.peerId = 1 ∨ x.peerId = 2 := by
  unfold Straps.peerId
  cases x.masterHigh
  · exact .inr rfl
  · exact .inl rfl

theorem peerId_ne (x : Straps) : x.peerId ≠ x.masterId := by
  unfold Straps.peerId Straps.masterId
  cases x.masterHigh <;> decide

theorem hearTransaction_discards (h : hearBus bytes = .discarded) : hearTransaction bytes s = s := by
  rw [hearTransaction, h]

theorem hearTransaction_confirmOwn {d : Dest} {x : Src} (h : hearBus bytes = .confirm s.straps.masterId d x) :
    hearTransaction bytes s = s.confirmOwn d x := by
  simp only [hearTransaction, h, if_true]

theorem hearTransaction_confirmForeign {d : Dest} {x : Src} (h : hearBus bytes = .confirm s.straps.peerId d x) :
    hearTransaction bytes s = s.confirmForeign d x := by
  simp only [hearTransaction, h, if_neg (peerId_ne s.straps)]

theorem hearTransaction_answerOwn {d : Dest} {x : Option Src} (h : hearBus bytes = .answer s.straps.masterId d x) :
    hearTransaction bytes s = s.answer d x := by
  simp only [hearTransaction, h, if_true]

theorem hearTransaction_answerForeign {d : Dest} {x : Option Src} (h : hearBus bytes = .answer s.straps.peerId d x) :
    hearTransaction bytes s = s := by
  simp only [hearTransaction, h, if_neg (peerId_ne s.straps)]

/-- The bus part of O49: the two masters' confirms and answers act, and all else is discarded. -/
theorem busBytes_act (d : Dest) (x : Src) :
    let heard (bytes : List Byte) := exec (.discardedTransaction bytes) s
    heard (busFrame 2 s.straps.masterId (num8 d) (num16 x)) = exec (.confirmOwn d x) s ∧
    heard (busFrame 2 s.straps.peerId (num8 d) (num16 x)) = exec (.confirmForeign d x) s ∧
    heard (busFrame 4 s.straps.masterId (num8 d) (num16 x)) = exec (.answer d (some x)) s ∧
    heard (busFrame 4 s.straps.masterId (num8 d) 0xFFFF) = exec (.answer d none) s ∧
    (∀ source, heard (busFrame 4 s.straps.peerId (num8 d) source) = .next s) ∧
    (∀ master source, 511 < source.toNat → heard (busFrame 2 master (num8 d) source) = .next s) ∧
    (∀ master source, 511 < source.toNat → source ≠ 0xFFFF → heard (busFrame 4 master (num8 d) source) = .next s) ∧
    (∀ kind master source, kind ≠ 2 → kind ≠ 4 → heard (busFrame kind master (num8 d) source) = .next s) ∧
    (∀ kind master source, master ≠ 1 → master ≠ 2 → heard (busFrame kind master (num8 d) source) = .next s) ∧
    (∀ (a b c e f check : Byte), crc8 [a, b, c, e, f] ≠ check → heard [a, b, c, e, f, check] = .next s) ∧
    (∀ bytes : List Byte, bytes.length ≠ 6 → heard bytes = .next s) := by
  intro heard
  have known {kind master : Byte} {source : U16} (hm : master = 1 ∨ master = 2) :
      hearBus (busFrame kind master (num8 d) source) = spelt kind master d source :=
    (hearBus_frame kind master d source).trans (if_pos hm)
  have discards {bytes : List Byte} (h : hearBus bytes = .discarded) : heard bytes = .next s :=
    congrArg Host.Outcome.next (hearTransaction_discards s h)
  have unspelt {kind master : Byte} {source : U16} (h : spelt kind master d source = .discarded) :
      heard (busFrame kind master (num8 d) source) = .next s :=
    discards ((hearBus_frame kind master d source).trans (by rw [h, ite_self]))
  refine ⟨congrArg Host.Outcome.next (hearTransaction_confirmOwn s ((known (masterId_or _)).trans (spelt_confirm x))),
    congrArg Host.Outcome.next (hearTransaction_confirmForeign s ((known (peerId_or _)).trans (spelt_confirm x))),
    congrArg Host.Outcome.next (hearTransaction_answerOwn s ((known (masterId_or _)).trans (spelt_answer x))),
    congrArg Host.Outcome.next (hearTransaction_answerOwn s ((known (masterId_or _)).trans spelt_noCard)),
    fun source => ?_, fun master source h => unspelt (spelt_confirm_badSource h),
    fun master source h hcard => unspelt (spelt_answer_badSource h hcard),
    fun kind master source h2 h4 => unspelt (spelt_badKind h2 h4),
    fun kind master source h1 h2 => discards ((hearBus_frame kind master d source).trans
      (if_neg (fun h => h.elim h1 h2))),
    fun a b c e f check h => discards (hearBus_badCheck h), fun bytes h => discards (hearBus_badLength h)⟩
  obtain ⟨y, hy⟩ | hnone := spelt_answer_cases (master := s.straps.peerId) (d := d) (source := source)
  · exact congrArg Host.Outcome.next (hearTransaction_answerForeign s ((known (peerId_or _)).trans hy))
  · exact unspelt hnone

end

end Sys2Proof.Machine
end

section
/-! PROOF. Frames heard on the wall links and recorder ports as bytes, and the gap that ends one (R132, R148, R183). -/

namespace Sys2Proof.Machine

open State

/-! ## One byte (R183) -/

section
variable {r : PartnerRx} {now : Time} {b : Byte}

/-- No gap stands before the receiver's next byte. -/
def PartnerRx.Ready (r : PartnerRx) (now : Time) : Prop := r.held = [] ∨ r.lastByteAt = now

theorem before_of_ready (h : r.Ready now) : (if Config.partnerGap < since now r.lastByteAt then [] else r.held) = r.held := by
  obtain hempty | hlast := h
  · rw [hempty, ite_self]
  · have hgap : ¬ Config.partnerGap < since now r.lastByteAt := by
      rw [hlast, since, BitVec.sub_self]
      exact Nat.not_lt_zero _
    rw [if_neg hgap]

/-- A byte that begins a frame, or follows within one, joins the bytes held. -/
theorem feed_joins (h : r.Ready now) (hb : r.held ≠ [] ∨ b = 0x5A) : r.feed now b =
    if partnerTooLong (r.held ++ [b]) then (⟨[], now⟩, none)
    else if partnerWhole (r.held ++ [b]) then (⟨[], now⟩, partnerJudge (r.held ++ [b]))
    else (⟨r.held ++ [b], now⟩, none) := by
  have hheld : ¬ (r.held = [] ∧ b ≠ 0x5A) := fun ⟨he, hne⟩ => hb.elim (fun h => h he) (fun h => hne h)
  unfold PartnerRx.feed
  rw [before_of_ready h]
  dsimp only
  rw [if_neg hheld]

theorem feed_quiet (h : r.Ready now) (hb : r.held ≠ [] ∨ b = 0x5A) (hlong : partnerTooLong (r.held ++ [b]) = false)
    (hwhole : partnerWhole (r.held ++ [b]) = false) : r.feed now b = (⟨r.held ++ [b], now⟩, none) := by
  rw [feed_joins h hb, hlong, hwhole]
  rfl

theorem feed_whole (h : r.Ready now) (hb : r.held ≠ [] ∨ b = 0x5A) (hlong : partnerTooLong (r.held ++ [b]) = false)
    (hwhole : partnerWhole (r.held ++ [b]) = true) : r.feed now b = (⟨[], now⟩, partnerJudge (r.held ++ [b])) := by
  rw [feed_joins h hb, hlong, hwhole]
  rfl

end

/-! ## The bytes of a frame -/

/-- A frame's bytes before its check bytes have all come: too short for its length, or not yet too long. -/
theorem unfinished_frame {hi lo : Byte} {q : List Byte} (hlen : (u16 hi lo).toNat ≤ 306)
    (hq : q.length < (u16 hi lo).toNat + 3) :
    partnerTooLong (0x5A :: hi :: lo :: q) = false ∧ partnerWhole (0x5A :: hi :: lo :: q) = false := by
  refine ⟨?_, decide_eq_false (fun h => ?_)⟩
  · cases q with
    | nil => exact decide_eq_false (Nat.not_lt.2 hlen)
    | cons b q => rfl
  · simp only [List.length_cons] at h
    omega

theorem whole_frame {hi lo b : Byte} {q : List Byte} (hq : (b :: q).length = (u16 hi lo).toNat + 3) :
    partnerTooLong (0x5A :: hi :: lo :: b :: q) = false ∧ partnerWhole (0x5A :: hi :: lo :: b :: q) = true := by
  refine ⟨rfl, decide_eq_true ?_⟩
  simp only [List.length_cons] at hq ⊢
  omega

theorem judge_frame {hi lo kind : Byte} {body check : List Byte} (hn : (u16 hi lo).toNat = body.length) :
    partnerJudge (0x5A :: hi :: lo :: kind :: (body ++ check)) =
      if check = bytes16 (crc16 (partnerCovered kind body)) then some ⟨kind, body⟩ else none := by
  unfold partnerJudge
  dsimp only
  rw [hn, List.take_left, List.drop_left]

/-! ## The receivers of the partner links -/

/-- The receiver of a partner link. -/
def State.rx (s : State) : PartnerLink → PartnerRx
  | .wall w => look s.wallRx w
  | .recorder p => look s.recorderRx p

/-- The state with the receiver of a partner link replaced. -/
def State.setRx (s : State) (l : PartnerLink) (r : PartnerRx) : State :=
  match l with
  | .wall w => s.setWallRx w r
  | .recorder p => s.setRecorderRx p r

/-- A frame accepted by its shape on a partner link. -/
def State.takeFrame (s : State) (l : PartnerLink) (f : PartnerFrame) : State :=
  match l with
  | .wall w => s.wallFrame w f
  | .recorder p => s.recorderFrame p f

/-- A byte on a partner link. -/
def State.takeByte (l : PartnerLink) (s : State) (b : Byte) : State :=
  match l with
  | .wall w => wallByte w s b
  | .recorder p => recorderByte p s b

section
variable {s : State} {l : PartnerLink}

theorem takeByte_quiet {b : Byte} {r : PartnerRx} (h : (s.rx l).feed s.now b = (r, none)) :
    s.takeByte l b = s.setRx l r := by
  cases l with
  | wall w =>
    have h : (look s.wallRx w).feed s.now b = (r, none) := h
    show wallByte w s b = _
    unfold wallByte
    rw [h]
    rfl
  | recorder p =>
    have h : (look s.recorderRx p).feed s.now b = (r, none) := h
    show recorderByte p s b = _
    unfold recorderByte
    rw [h]
    rfl

theorem takeByte_frame {b : Byte} {r : PartnerRx} {f : PartnerFrame} (h : (s.rx l).feed s.now b = (r, some f)) :
    s.takeByte l b = (s.setRx l r).takeFrame l f := by
  cases l with
  | wall w =>
    have h : (look s.wallRx w).feed s.now b = (r, some f) := h
    show wallByte w s b = _
    unfold wallByte
    rw [h]
    rfl
  | recorder p =>
    have h : (look s.recorderRx p).feed s.now b = (r, some f) := h
    show recorderByte p s b = _
    unfold recorderByte
    rw [h]
    rfl

theorem rx_setRx (r : PartnerRx) : (s.setRx l r).rx l = r := by
  cases l <;> exact look_put_same ..

theorem now_setRx (r : PartnerRx) : (s.setRx l r).now = s.now := by
  cases l <;> rfl

theorem setRx_setRx (r r' : PartnerRx) : (s.setRx l r).setRx l r' = s.setRx l r' := by
  cases l <;> simp only [State.setRx, setWallRx, setRecorderRx, put_put]

/-- A byte that completes nothing leaves the bytes held, with it, to the next one. -/
theorem takeByte_holding {held : List Byte} {b : Byte} (hb : held ≠ [])
    (hlong : partnerTooLong (held ++ [b]) = false) (hwhole : partnerWhole (held ++ [b]) = false) :
    (s.setRx l ⟨held, s.now⟩).takeByte l b = s.setRx l ⟨held ++ [b], s.now⟩ := by
  have hfeed : ((s.setRx l ⟨held, s.now⟩).rx l).feed (s.setRx l ⟨held, s.now⟩).now b = (⟨held ++ [b], s.now⟩, none) := by
    rw [rx_setRx, now_setRx]
    exact feed_quiet (r := ⟨held, s.now⟩) (.inr rfl) (.inl hb) hlong hwhole
  rw [takeByte_quiet hfeed, setRx_setRx]

/-- Bytes that complete nothing are all held. -/
theorem takeBytes_holding {hi lo : Byte} (hlen : (u16 hi lo).toNat ≤ 306) (q rest : List Byte)
    (hq : (q ++ rest).length < (u16 hi lo).toNat + 3) :
    rest.foldl (State.takeByte l) (s.setRx l ⟨0x5A :: hi :: lo :: q, s.now⟩) =
      s.setRx l ⟨0x5A :: hi :: lo :: (q ++ rest), s.now⟩ := by
  induction rest generalizing q with
  | nil => rw [List.append_nil]; rfl
  | cons b rest ih =>
    have happend : q ++ b :: rest = (q ++ [b]) ++ rest := by rw [List.append_assoc]; rfl
    rw [happend] at hq ⊢
    obtain ⟨hlong, hwhole⟩ := unfinished_frame (q := q ++ [b]) hlen (by rw [List.length_append] at hq; omega)
    rw [List.foldl_cons, takeByte_holding (held := 0x5A :: hi :: lo :: q) (List.cons_ne_nil _ _) hlong hwhole]
    exact ih (q ++ [b]) hq

/-- The sync byte and the length bytes are held (R183). -/
theorem takeBytes_head {hi lo : Byte} (hempty : (s.rx l).held = []) (hlen : (u16 hi lo).toNat ≤ 306) :
    ((s.takeByte l 0x5A).takeByte l hi).takeByte l lo = s.setRx l ⟨[0x5A, hi, lo], s.now⟩ := by
  have hstart : s.takeByte l 0x5A = s.setRx l ⟨[0x5A], s.now⟩ := by
    have hfeed := feed_quiet (r := s.rx l) (now := s.now) (b := 0x5A) (.inl hempty) (.inr rfl)
    rw [hempty] at hfeed
    exact takeByte_quiet (hfeed rfl rfl)
  obtain ⟨hlong, hwhole⟩ := unfinished_frame (q := []) hlen (Nat.succ_pos _)
  rw [hstart, takeByte_holding (List.cons_ne_nil _ _) rfl rfl, List.singleton_append,
    takeByte_holding (held := [0x5A, hi]) (List.cons_ne_nil _ _) hlong hwhole]
  rfl

/-- The second check byte completes the frame, which is judged by its check bytes (R183). -/
theorem takeByte_last {hi lo kind c e : Byte} {body : List Byte} (hn : (u16 hi lo).toNat = body.length) :
    (s.setRx l ⟨0x5A :: hi :: lo :: (kind :: body ++ [c]), s.now⟩).takeByte l e =
      if [c, e] = bytes16 (crc16 (partnerCovered kind body))
      then (s.setRx l ⟨[], s.now⟩).takeFrame l ⟨kind, body⟩ else s.setRx l ⟨[], s.now⟩ := by
  have happend : 0x5A :: hi :: lo :: (kind :: body ++ [c]) ++ [e] = 0x5A :: hi :: lo :: kind :: (body ++ [c, e]) := by
    simp only [List.cons_append, List.append_assoc, List.nil_append]
  obtain ⟨hlong, hwhole⟩ := whole_frame (hi := hi) (lo := lo) (b := kind) (q := body ++ [c, e])
    (by simp only [List.length_cons, List.length_append, List.length_nil]; omega)
  have hfeed := feed_whole (r := ⟨0x5A :: hi :: lo :: (kind :: body ++ [c]), s.now⟩) (now := s.now) (b := e) (.inr rfl)
    (.inl (List.cons_ne_nil _ _)) (happend ▸ hlong) (happend ▸ hwhole)
  rw [happend, judge_frame hn] at hfeed
  split
  · next hcheck =>
    rw [if_pos hcheck] at hfeed
    rw [takeByte_frame (by rw [rx_setRx, now_setRx]; exact hfeed), setRx_setRx]
  · next hcheck =>
    rw [if_neg hcheck] at hfeed
    rw [takeByte_quiet (by rw [rx_setRx, now_setRx]; exact hfeed), setRx_setRx]

/-- The bytes of a frame of good length, received with none held, are judged as the last of them comes (R183). -/
theorem takeBytes_frame {kind c e : Byte} {body : List Byte} (hempty : (s.rx l).held = []) (hbody : body.length ≤ 306) :
    (0x5A :: (partnerCovered kind body ++ [c, e])).foldl (State.takeByte l) s =
      if [c, e] = bytes16 (crc16 (partnerCovered kind body))
      then (s.setRx l ⟨[], s.now⟩).takeFrame l ⟨kind, body⟩ else s.setRx l ⟨[], s.now⟩ := by
  obtain ⟨hi, lo, hcovered, hn⟩ : ∃ hi lo : Byte, partnerCovered kind body = hi :: lo :: kind :: body ∧
      (u16 hi lo).toNat = body.length :=
    ⟨_, _, rfl, by rw [u16_bytes, BitVec.toNat_ofNat]; omega⟩
  have hlen : (u16 hi lo).toNat ≤ 306 := hn ▸ hbody
  have hsplit : 0x5A :: (partnerCovered kind body ++ [c, e]) = 0x5A :: hi :: lo :: ((kind :: body ++ [c]) ++ [e]) := by
    rw [hcovered]
    simp only [List.cons_append, List.append_assoc, List.nil_append]
  have hheld := takeBytes_holding (s := s) (l := l) hlen [] (kind :: body ++ [c])
    (by simp only [List.nil_append, List.length_cons, List.length_append, List.length_nil]; omega)
  rw [hsplit, List.foldl_cons, List.foldl_cons, List.foldl_cons,
    takeBytes_head hempty hlen, List.foldl_append, hheld]
  exact takeByte_last hn

end

end Sys2Proof.Machine
end

section
/-! PROOF. What a partner link's frame does, and the gap that discards one (R132, R148, R183). -/

namespace Sys2Proof.Machine

open State

/-! ## Frames of good and of bad check bytes -/

section
variable {s : State} {l : PartnerLink} {kind : Byte} {body : List Byte}

/-- A frame received with none held acts as its kind and body say. -/
theorem frame_taken (hempty : (s.rx l).held = []) (hbody : body.length ≤ 306) :
    (partnerFrame kind body).foldl (State.takeByte l) s = (s.setRx l ⟨[], s.now⟩).takeFrame l ⟨kind, body⟩ :=
  (takeBytes_frame hempty hbody).trans (if_pos rfl)

theorem frame_badCheck {check : List Byte} (hempty : (s.rx l).held = []) (hbody : body.length ≤ 306)
    (hlen : check.length = 2) (h : check ≠ bytes16 (crc16 (partnerCovered kind body))) :
    (0x5A :: (partnerCovered kind body ++ check)).foldl (State.takeByte l) s = s.setRx l ⟨[], s.now⟩ := by
  obtain ⟨c, e, rfl⟩ := List.length_eq_two.1 hlen
  exact (takeBytes_frame hempty hbody).trans (if_neg h)

end

/-! ## The frames of a wall -/

theorem wallFrame_other {s : State} {w : Wall} {kind : Byte} {body : List Byte} (hhello : ¬ (kind = 1 ∧ body = []))
    (hack : ¬ (kind = 2 ∧ ∃ n, body = [n])) : s.wallFrame w ⟨kind, body⟩ = s := by
  unfold wallFrame
  split
  · next hkind hb => exact absurd ⟨BitVec.eq_of_toNat_eq (y := 1#8) hkind, hb⟩ hhello
  · next n hkind hb => exact absurd ⟨BitVec.eq_of_toNat_eq (y := 2#8) hkind, n, hb⟩ hack
  · rfl

/-! ## The frames of a recorder -/

section
variable {s : State} {p : Port} {kind : Byte} {body : List Byte}

theorem recorderFrame_status {b : Byte} {x : RecorderState} (h : asReported b = some x) :
    s.recorderFrame p ⟨0x81, [b]⟩ = s.recorderStatus p x := by
  have hframe : s.recorderFrame p ⟨0x81, [b]⟩ = match asReported b with
      | some y => s.recorderStatus p y
      | none => s := rfl
  rw [hframe, h]

theorem recorderFrame_ack {c : Byte} {y : RecorderCommand} (b : Bool) (h : asCommand c = some y) :
    s.recorderFrame p ⟨0x82, [c, if b then 1 else 0]⟩ = s.recorderAck p y b := by
  have hframe : s.recorderFrame p ⟨0x82, [c, if b then 1 else 0]⟩ =
      match asCommand c, asFlag (if b then 1#8 else 0#8) with
      | some y, some accepted => s.recorderAck p y accepted
      | _, _ => s := rfl
  rw [hframe, h, asFlag_code]

/-- A frame that carries no state and no acknowledgement is discarded (R148, R183). -/
theorem recorderFrame_other
    (hstatus : ∀ b x, kind = 0x81 → body = [b] → asReported b = some x → False)
    (hack : ∀ c b y a, kind = 0x82 → body = [c, b] → asCommand c = some y → asFlag b = some a → False) :
    s.recorderFrame p ⟨kind, body⟩ = s := by
  unfold recorderFrame
  split
  · next b hkind hb =>
    split
    · next x hx => exact (hstatus b x (BitVec.eq_of_toNat_eq (y := 0x81#8) hkind) hb hx).elim
    · rfl
  · next c b hkind hb =>
    split
    · next y a hy ha => exact (hack c b y a (BitVec.eq_of_toNat_eq (y := 0x82#8) hkind) hb hy ha).elim
    · rfl
  · rfl

end

/-! ## The gap -/

section
variable {s : State} {l : PartnerLink}

theorem gapDue_iff (r : PartnerRx) (now : Time) :
    r.gapDue now = true ↔ r.held ≠ [] ∧ 2000 < (now - r.lastByteAt).toNat := by
  unfold PartnerRx.gapDue
  rw [Bool.and_eq_true, decide_eq_true_eq, decide_eq_true_eq]
  rfl

theorem partnerGap_due (hheld : (s.rx l).held ≠ []) (h : 2000 < (s.now - (s.rx l).lastByteAt).toNat) :
    s.partnerGap l = s.setRx l { s.rx l with held := [] } := by
  have hdue := (gapDue_iff (s.rx l) s.now).2 ⟨hheld, h⟩
  cases l <;> exact if_pos hdue

theorem partnerGap_early (h : (s.rx l).held = [] ∨ (s.now - (s.rx l).lastByteAt).toNat ≤ 2000) : s.partnerGap l = s := by
  have hdue : ¬ (s.rx l).gapDue s.now = true := fun hdue => by
    obtain ⟨hheld, hlate⟩ := (gapDue_iff _ _).1 hdue
    exact h.elim hheld (fun hle => absurd hlate (Nat.not_lt.2 hle))
  cases l <;> exact if_neg hdue

end

/-- The wall link's frames of O49. -/
theorem wallFrames_act (s : State) (kind : Byte) (body : List Byte) (hbody : body.length ≤ 306) (w : Wall)
    (hempty : (look s.wallRx w).held = []) :
    let u : State := { s with wallRx := put s.wallRx w ⟨[], s.now⟩ }
    let heard := exec (.wallFrameDiscarded w (partnerFrame kind body)) s
    (kind = 1 → body = [] → heard = exec (.hello w) u) ∧
    (∀ n, kind = 2 → body = [n] → heard = exec (.ack w n) u) ∧
    (¬ (kind = 1 ∧ body = []) → ¬ (kind = 2 ∧ ∃ n, body = [n]) → heard = .next u) := by
  intro u heard
  have htaken : (partnerFrame kind body).foldl (wallByte w) s = u.wallFrame w ⟨kind, body⟩ :=
    frame_taken (l := .wall w) hempty hbody
  have hheard {t : State} (h : u.wallFrame w ⟨kind, body⟩ = t) : heard = .next t :=
    congrArg Host.Outcome.next (htaken.trans h)
  refine ⟨fun hk hb => hheard ?_, fun n hk hb => hheard ?_, fun hhello hack => hheard (wallFrame_other hhello hack)⟩
  · rw [hk, hb]
    rfl
  · rw [hk, hb]
    rfl

/-- The recorder port's frames of O49. -/
theorem recorderFrames_act (s : State) (kind : Byte) (body : List Byte) (hbody : body.length ≤ 306) (p : Port)
    (hempty : (look s.recorderRx p).held = []) :
    let u : State := { s with recorderRx := put s.recorderRx p ⟨[], s.now⟩ }
    let heard := exec (.recorderReplyDiscarded p (partnerFrame kind body)) s
    (∀ x b, kind = 0x81 → body = [b] → asReported b = some x → heard = exec (.status p x) u) ∧
    (∀ c y (b : Bool), kind = 0x82 → body = [c, if b then 1 else 0] → asCommand c = some y →
      heard = exec (.cmdAck p y b) u) ∧
    (kind = 0x81 → (∀ b, body = [b] → asReported b = none) → heard = .next u) ∧
    (kind = 0x82 → (∀ c b, body = [c, b] → asCommand c = none ∨ 1 < b.toNat) → heard = .next u) ∧
    (kind ≠ 0x81 → kind ≠ 0x82 → heard = .next u) := by
  intro u heard
  have htaken : (partnerFrame kind body).foldl (recorderByte p) s = u.recorderFrame p ⟨kind, body⟩ :=
    frame_taken (l := .recorder p) hempty hbody
  have hheard {t : State} (h : u.recorderFrame p ⟨kind, body⟩ = t) : heard = .next t :=
    congrArg Host.Outcome.next (htaken.trans h)
  refine ⟨fun x b hk hb hx => hheard ?_, fun c y b hk hb hy => hheard ?_,
    fun hk hnone => hheard (recorderFrame_other (fun b x _ hb hx => ?_) (fun c b y a hack => ?_)),
    fun hk hnone => hheard (recorderFrame_other (fun b x hstatus => ?_) (fun c b y a _ hb hy ha => ?_)),
    fun hstatus hack => hheard (recorderFrame_other (fun b x hk => absurd hk hstatus) (fun c b y a hk => absurd hk hack))⟩
  · rw [hk, hb]
    exact recorderFrame_status hx
  · rw [hk, hb]
    exact recorderFrame_ack b hy
  · exact absurd ((hnone b hb).symm.trans hx) nofun
  · exact absurd (hk.symm.trans hack) (by decide)
  · exact absurd (hk.symm.trans hstatus) (by decide)
  · obtain hbad | hbad := hnone c b hb
    · exact absurd (hbad.symm.trans hy) nofun
    · exact absurd ((asFlag_bad hbad).symm.trans ha) nofun

/-- Settles O49: the bus, the wall links and the recorder ports hear what their bytes spell; a gap discards the rest. -/
theorem bytesHeardActAsTheirCommand : Obligations.BytesHeardActAsTheirCommand := by
  unfold Obligations.BytesHeardActAsTheirCommand
  refine ⟨fun s d x => busBytes_act s d x, fun s kind body hbody => ⟨wallFrames_act s kind body hbody,
    recorderFrames_act s kind body hbody, fun check hlen hcheck => ?_⟩, fun s => ⟨fun w => ?_, fun p => ?_⟩⟩
  · exact ⟨fun w hempty => congrArg Host.Outcome.next (frame_badCheck (l := .wall w) hempty hbody hlen hcheck),
      fun p hempty => congrArg Host.Outcome.next (frame_badCheck (l := .recorder p) hempty hbody hlen hcheck)⟩
  · exact ⟨fun hheld h => congrArg Host.Outcome.next (partnerGap_due (l := .wall w) hheld h),
      fun h => congrArg Host.Outcome.next (partnerGap_early (l := .wall w) h)⟩
  · exact ⟨fun hheld h => congrArg Host.Outcome.next (partnerGap_due (l := .recorder p) hheld h),
      fun h => congrArg Host.Outcome.next (partnerGap_early (l := .recorder p) h)⟩

end Sys2Proof.Machine
end
